-- ==== Sys2Proof/Word.lean ====
section
/-! DEFINITION. The machine words of the GLN1064: 64-bit message words (R292), sparse tables, and the
units of time of R11 and R12. -/

namespace Sys2Proof

/-- A 64-bit message or parameter word (R292, R322). -/
abbrev Word := BitVec 64

/-- One configuration object: its parameter words in the order of its command (R324). -/
abbrev Obj := List Word

/-- A sparse table: strictly rising keys; a key that is not listed holds the table's default. -/
abbrev Tab (α : Type) := List (Nat × α)

/-- Fine units in a tick (R11: DT72 [11:0] are fine units; R12: a tick is 500 ps). -/
abbrev fineTick : Nat := 4096
/-- Fine units in a receive LSB (1/64 tick, R11). -/
abbrev fineLsb : Nat := 64
/-- Fine units in a nanosecond (2 ticks). -/
abbrev fineNs : Nat := 8192
/-- Fine units in a microsecond. -/
abbrev fineUs : Nat := 8192000
/-- Fine units in a millisecond. -/
abbrev fineMs : Nat := 8192000000

end Sys2Proof
end

