-- ==== Sys2Proof/Syntax.lean ====
section
/-! DEFINITION. The commands of the block: one constructor per row of spec/opcode_table.json. A Yoden command
(the rows whose mnemonics begin with a command group) carries the mailbox it is taken from: its header and payload
stand in that mailbox's command slot (R292). An event carries what the outside world or the analog parts give it. -/

namespace Sys2Proof

/-- The fields of a team message (Table 3 of ch. 10) are given with its row. A gPTP message (R364: 802.1AS). -/
inductive GptpMsg where
  /-- A sync with its follow-up, of a gPTP domain: gPTP time of the sync in ns when it arrived. -/
  | sync (domain : Nat) (gptpNs : Nat)
  /-- A peer-delay exchange measured this propagation delay in ns. -/
  | pdelay (ns : Nat)
  /-- A peer's request of a delay measurement. -/
  | pdelayReq
  /-- An announce of a gPTP domain: a grandmaster is known or not. -/
  | announce (domain : Nat) (gm : Bool)
deriving DecidableEq, Repr

/-- What an Ethernet frame carries, as far as the switch and the device look into it (R364, R366). -/
structure EthFrame where
  srcMac : Nat
  dstMac : Nat
  /-- VLAN identifier and PCP of the tag, if the frame is tagged. -/
  vlan : Option (Nat × Nat)
  /-- 802.1CB sequence number of its R-TAG, if it has one. -/
  rtag : Option Nat
  /-- An ARP request for this address. -/
  arpFor : Option Nat
  /-- Destination IPv4 address and UDP port, if it is an IPv4 UDP datagram. -/
  udp : Option (Nat × Nat)
  /-- The frame's bytes. -/
  bytes : List Nat
deriving DecidableEq, Repr

/-- A frame as it arrives: the port and the frame. -/
structure FrameIn where
  port : Fin 2
  frame : EthFrame
deriving DecidableEq, Repr

/-- The header of a stream datagram (R130). -/
structure StreamHead where
  seq : Nat
  count : Nat
deriving DecidableEq, Repr

/-- What the on-die detectors see of the core (R408, R422): VDD_CORE in mV, and the junction temperature at the hard trip
latch, signed 1/16 °C. -/
structure CoreSense where
  mv : Nat
  temp : BitVec 16
deriving DecidableEq, Repr

/-- The gap before a reference loss (R55): fine units since the last good edge, and the mean of the loop word's last
1,024 updates. -/
structure RefGap where
  ago : Nat
  mean : Nat
deriving DecidableEq, Repr

/-- A cell that reads otherwise than it was written: factory table in the order of Table 2 of ch. 09, entry, value read. -/
structure Misread where
  table : Nat
  entry : Nat
  value : Int
deriving DecidableEq, Repr

/-- The data of a bus write: 32 bits, and the upper half of an aligned 64-bit PCI Express write (R287). -/
structure BusData where
  low : BitVec 32
  high : Option (BitVec 32)
deriving DecidableEq, Repr

/-- The stamps of one hop exchange (R275) in fine units. -/
structure Stamps where
  a0 : Int
  w1 : Int
  w2 : Int
  a3 : Int
deriving DecidableEq, Repr

/-- The content of a FORM message after DEV_NUM (Table 3 of ch. 10): TEAM_SIZE_M1 and the device identity. -/
structure FormId where
  sizeM1 : Nat
  ident : Nat
deriving DecidableEq, Repr

/-- The UDP payload of a control datagram (R301): its whole words, and the bytes left over, fewer than 8. -/
structure UdpData where
  words : List Word := []
  tail : List (BitVec 8) := []
deriving DecidableEq, Repr

/-- An error that the engine's read of a buffer finds (R389): the granule, lost or corrected. -/
structure EccHit where
  granule : Nat
  lost : Bool
deriving DecidableEq, Repr

/-- What a member reports of its work (R284): it is idle; a calibration runs on it. -/
structure MemberWork where
  idle : Bool
  cal : Bool
deriving DecidableEq, Repr

/-- The team measurement (R261): 64 rounds, each with the hop measurements from the master on, each of 1,024 exchanges
(512 in each assignment of the pairs); `room`: per member from 1 on the least and the greatest TEAM_OFS that R248
leaves it, in fine units. -/
structure TeamMeas where
  rounds : Vector (List (Vector Stamps 1024)) 64
  room : List (Int × Int)
deriving DecidableEq, Repr

/-- A command of the block: one constructor per row of the command table. `dt` is the device time, in fine
units, that has passed since the command before it. The readbacks (R324) stand last. -/
inductive Instr where
  /-- RESET_ASSERT (R408): RESET_N is held low for at least 1 µs, or the power-on detector sees a low rail, and every block returns to its reset values. `low`: how long, in ns. -/
  | resetAssert (dt : Nat) (low : Nat)
  /-- POWER_ON_DETECT (R408): The internal power-on detector sees VDD_CORE below 0.68 V or VDDIO_33 below 2.9 V and holds the device in reset. `coreMv`: VDD_CORE and the junction temperature; `io33Mv`: VDDIO_33 in mV. -/
  | powerOnDetect (dt : Nat) (coreMv : CoreSense) (io33Mv : Nat)
  /-- POWER_LOSS (R407): Power is lost; any MRAM page write in progress is torn, and that page only is affected. -/
  | powerLoss (dt : Nat)
  /-- RESET_RELEASE (R41): RESET_N is released; the device enters the safe state with cause BOOT and the TPLL starts up from the boot image or the reset values. `temp`: the junction temperature at the hard trip latch, signed 1/16 °C. -/
  | resetRelease (dt : Nat) (temp : BitVec 16)
  /-- BOOT_IMAGE_VERIFIED (R409): The QSPI read of a firmware slot completes and its digest and signature are checked; the firmware starts, or the other slot is tried, or the boot stops. The QSPI memory responds; digest and signature are good. -/
  | bootImageVerified (dt : Nat) (responds : Bool) (ok : Bool)
  /-- FACTORY_CHECK_DONE (R244): Firmware completes the CRC check of the factory tables, sets or clears FACTORY_OK, and derives the band tables. `misread`: the cells of the partition that this read finds otherwise than State holds them. -/
  | factoryCheckDone (dt : Nat) (misread : List Misread)
  /-- LPDDR5_TRAINED (R410): LPDDR5 training completes and LPDDR5_FITTED is set, or stays clear if training failed. `mib`: the capacity found in MiB. -/
  | lpddr5Trained (dt : Nat) (ok : Bool) (mib : Nat)
  /-- BOOT_COMPLETE (R410): The user layer, journal position and boot image are loaded, MBX_READY is set and a boot journal entry is written. -/
  | bootComplete (dt : Nat)
  /-- LOCK_WINDOW_END (R40): A lock-monitor window of 1,024 reference cycles ends and its count is judged against EXP for lock, loss of lock or a returning reference. `pll`: 0 TPLL, 1 SPLL, 2 NPLL; `count` of the window; `phase`: reference phase minus device phase in fine units; `loop`: the loop word. -/
  | lockWindowEnd (dt : Nat) (pll : Fin 3) (count : Nat) (phase : Int) (loop : Nat)
  /-- BAND_SEARCH_DONE (R42): A 48 µs VCO band search completes and the loop acquires frequency and phase. The VCO band and the loop word found. -/
  | bandSearchDone (dt : Nat) (band : Fin 64) (loop : Nat)
  /-- REF_PRESENT (R58): The reference counts present after 2 µs of rising edges without a gap. -/
  | refPresent (dt : Nat)
  /-- REF_LOSS (R55): A 2 µs gap without a reference edge is declared a loss; the loop word is frozen, COAST is set and the holdover timer starts. -/
  | refLoss (dt : Nat) (gap : RefGap)
  /-- TPLL_REACQ_TIMEOUT (R37): Lock is not declared within 5 ms of a TB.SET_TPLL after first lock, or of a band command, and a band search starts. -/
  | tpllReacqTimeout (dt : Nat)
  /-- FREQ_CHECK_WINDOW (R53): A frequency-supervision window of W reference cycles ends and its tick count is compared with the expected value. `count`: ticks of the window. -/
  | freqCheckWindow (dt : Nat) (count : Nat)
  /-- AON_PERIOD (R54): An AON period ends; while locked it is measured against ticks for the AON calibration and checked for AON_FAULT. `period` in fine units. -/
  | aonPeriod (dt : Nat) (period : Nat)
  /-- AON_FREQ_CHECK (R54): A window of 4 calibrated AON periods ends during coast and its tick count is checked against ±1,000 ppm. `count`: ticks of the 4 periods. -/
  | aonFreqCheck (dt : Nat) (count : Nat)
  /-- AON_EDGE_TIMEOUT (R388): No AON edge arrives for 100 µs, which is cause AON_FAULT. -/
  | aonEdgeTimeout (dt : Nat)
  /-- HOLDOVER_EXPIRE (R55): The holdover timer reaches HOLDOVER_US and the Umpire enters the safe state. -/
  | holdoverExpire (dt : Nat)
  /-- PHASE_JUMP (R454): A reference or NREF_IN edge moves by more than 50 ps; the jump is added to PHASE_OFS, slewed, or taken as a team follower step. `delta` in fine units. -/
  | phaseJump (dt : Nat) (delta : Int)
  /-- SS_TRANSFER (R50): At the end of a 16 µs half-period in a down spread mode, D is added to the spine counter and reset to zero. -/
  | ssTransfer (dt : Nat)
  /-- SD_REFCLK_LOSS (R63): SD_REFCLK is lost and the SPLL and NPLL coast on frozen loop words. -/
  | sdRefclkLoss (dt : Nat)
  /-- HUDDLE_IN (R45): A rising edge on HUDDLE_IN with HUDDLE_EN set restarts the dividers, may load the DT72 epoch, and is relayed down a chain. -/
  | huddleIn (dt : Nat)
  /-- HUDDLE_OUT_DRIVE (R279): 10 µs after TEAM.HUDDLE is applied, the master drives HUDDLE_OUT. -/
  | huddleOutDrive (dt : Nat)
  /-- QUIET_INTERVAL_START (R47): The first quiet interval that a pending change awaits begins, and the phase steps, table steps and receive, window and coincidence changes due there are applied. `frame`: it lies between the windows of two frames. -/
  | quietIntervalStart (dt : Nat) (frame : Bool)
  /-- CAL_STANDBY_LOADED (R251): Firmware completes loading STANDBY; while idle the step then takes place at once. -/
  | calStandbyLoaded (dt : Nat)
  /-- CAL_STALE_TIMEOUT (R254): A step has waited more than 1 s after its STANDBY load, so CAL_STALE is set and reported. -/
  | calStaleTimeout (dt : Nat)
  /-- RX_SETTLE_DONE (R155): A receive comparator finishes settling; its output takes the state of the input and the channel becomes ACTIVE. `above`: the input lies above the threshold. -/
  | rxSettleDone (dt : Nat) (ch : Fin 1024) (above : Bool)
  /-- DESC_FETCH (R110): The walk reaches a descriptor: it evaluates CHECK, takes FRAME boundaries and the sets due there, checks confirmation and dead channels, handles stream headers and RESUME, or passes the descriptor while skipping. -/
  | descFetch (dt : Nat)
  /-- SHOT_EXPAND (R114): A descriptor is expanded at its shot time less PB_LEAD_US: tiles are judged, edges and steering and driver words are produced, or the shot is late-skipped. -/
  | shotExpand (dt : Nat)
  /-- SEGMENT_DECISION_POINT (R112): 16 ns before the origin of a segment's last descriptor, the walk honours a latched jump, halts, moves to the next segment or counts a loop pass. -/
  | segmentDecisionPoint (dt : Nat)
  /-- PB_HALT (R117): Every expanded shot has launched its last edge and closed its last window; the Playbook halts, pixels take HALT_CLOSE and waiting sets are applied. -/
  | pbHalt (dt : Nat)
  /-- SHOT_CLOCK_EVENT (R119): A shot-clock event falls due on the grid and SC_EVENT counts it. -/
  | shotClockEvent (dt : Nat)
  /-- MP0_EDGE (R123): A rising edge of MP0 is time-stamped, restarts the mirror grid, updates T_m and sets or clears MIRROR_LOCKED. `mp1`: the level of MP1. -/
  | mp0Edge (dt : Nat) (mp1 : Bool)
  /-- MIRROR_EDGE_TIMEOUT (R124): No MP0 edge arrives by the prediction plus MIRROR_TOL; mirror lock is lost and the Playbook freewheels or starves. -/
  | mirrorEdgeTimeout (dt : Nat)
  /-- STEER_UPDATE_EDGE (R125): A placed update edge rises on STL_UPD[n] and the steering or driver word takes effect. -/
  | steerUpdateEdge (dt : Nat) (link : Fin 4)
  /-- SHOT_ORIGIN (R168): The origin of an acquired shot is reached and the tile enters POST; an under-run is declared here if the walk still lacks a ring entry. -/
  | shotOrigin (dt : Nat) (tile : Fin 64)
  /-- POST_WINDOW_END (R168): A post-window closes; the tile goes to HOLD or ARMED and a close instant closes, swaps or extends the pixel. -/
  | postWindowEnd (dt : Nat) (tile : Fin 64)
  /-- REARM (R168): A tile in HOLD reaches its re-arm time and returns to ARMED. -/
  | rearm (dt : Nat) (tile : Fin 64)
  /-- STREAM_DMA_FETCH (R129): A DMA read of host-ring entries into the refill ring completes and HOST_CONS advances; a starved walk moves to skipping. `entries`: what the host ring holds from HOST_CONS on. -/
  | streamDmaFetch (dt : Nat) (entries : List (Vector Word 4))
  /-- STREAM_DATAGRAM (R130): A UDP stream datagram arrives in a frame on a port; it is taken into the ring, or dropped as malformed or overflowing, or handled as a sequence gap. Its frame, its header and its entries. -/
  | streamDatagram (dt : Nat) (rx : FrameIn) (head : StreamHead) (entries : List Obj)
  /-- VOLLEY_OFFER (R74): A volley reaches the edge scheduler through crossing 1 and is accepted or refused for collision, rate, lead, energy, trip, output state or safe state. -/
  | volleyOffer (dt : Nat) (ch : Fin 64)
  /-- ACCOUNTANT_BUCKET (R85): An accountant bucket boundary is reached and the sliding window sums advance. `window`: 0 10 µs, 1 1 ms, 2 100 ms. -/
  | accountantBucket (dt : Nat) (ch : Fin 64) (window : Fin 3)
  /-- EDGE_LAUNCH (R75): The launch time of a queued edge is reached; the edge is emitted, or a tripped channel's volley is discarded. -/
  | edgeLaunch (dt : Nat) (ch : Fin 64)
  /-- LOOPBACK_CHECK (R96): The reference TDC comparison of an edge completes with Match, MISMATCH, MISSING or EXTRA. `rise`: the polarity; `seen`: the spread cycle and the raw code that the converter of that polarity reports, none where no edge is found. -/
  | loopbackCheck (dt : Nat) (ch : Fin 64) (rise : Bool) (seen : Option (Int × Fin 64))
  /-- DRIVER_BIAS_SETTLED (R93): The laser driver bias settles after DOWN → IDLE, and a pending arm takes effect at the next eligible volley. -/
  | driverBiasSettled (dt : Nat) (ch : Fin 64)
  /-- TRIP_N_ASSERT (R89): A TRIP_N ball falls; every channel that maps it has its gate forced low and its trip latched. `low`: how long the ball stays low, in ps. -/
  | tripNAssert (dt : Nat) (pin : Fin 4) (low : Nat)
  /-- MC_OUTPUT_CHANGE (R149): A monitor comparator input crosses a threshold, changing its raw output and the filtered and routed outputs, which may trip channels. The outputs of MC_TH_HI and MC_TH_LO; `m` 32 and 33 are MP0 and MP1. -/
  | mcOutputChange (dt : Nat) (m : Fin 34) (hi : Bool) (lo : Bool)
  /-- MC_BLANK_END (R150): A monitor blank window ends and a still-asserted condition reasserts the filtered output. -/
  | mcBlankEnd (dt : Nat) (m : Fin 34)
  /-- MC_HOLD_END (R156): The hold of a monitor's routed output after a configuration change or band step ends. -/
  | mcHoldEnd (dt : Nat) (m : Fin 34)
  /-- MC_RESOLVE_SAMPLE (R153): Once per AON period the inputs of an unresolved monitor or MP input are sampled against the band, and the outputs are released when resolved. For MC_TH_HI and MC_TH_LO: beyond (true), clear (false), inside the band (none). -/
  | mcResolveSample (dt : Nat) (m : Fin 34) (hi : Option Bool) (lo : Option Bool)
  /-- MONITOR_UNRESOLVED (R154): A monitor is not resolved within 320 AON periods, so its MC_UNRESOLVED bit is set and it is reported to the Umpire. -/
  | monitorUnresolved (dt : Nat) (m : Fin 34)
  /-- RX_EVENT (R143): A receive comparator asserts; the TDC stamps the event, which is blanked, filtered, tested for coincidence, binned, counted in the pre-window or recorded, and may trigger the recorder. `cycle`, `code`: the raw capture (R246); `high`: RX_TH_HIGH is crossed within 4 ns; `ecc`: what the read of its bin finds, 0 good, 1 corrected, 2 uncorrectable. -/
  | rxEvent (dt : Nat) (ch : Fin 1024) (cycle : Int) (code : Fin 64) (high : Bool) (ecc : Fin 3)
  /-- PILE_LOST_EVENT (R166): A rising transition inside the dead time is counted as a lost event in PILE_TOTAL and PILE_COUNT and marked by PILE. -/
  | pileLostEvent (dt : Nat) (ch : Fin 1024)
  /-- REC_EPOCH_MARKER (R180): 2^29 ticks pass without a newer reference point and the recorder writes an EPOCH marker. -/
  | recEpochMarker (dt : Nat) (tile : Fin 64)
  /-- REC_HOLD_END (R182): The re-arm hold-off of REARM_HOLD_US ends and the recorder enters ARMED. -/
  | recHoldEnd (dt : Nat) (tile : Fin 64)
  /-- TRIG_IN_EDGE (R183): A rising edge on TRIG_IN[i] is a recorder trigger. -/
  | trigInEdge (dt : Nat) (pin : Fin 2)
  /-- REC_POST_TIMEOUT (R185): POST_TIMEOUT_US passes after the trigger and the recorder freezes, marking short rings. -/
  | recPostTimeout (dt : Nat) (tile : Fin 64)
  /-- REC_READOUT_DONE (R182): The last record of a readout is queued; the recorder re-arms if AUTO_REARM is set, and otherwise returns to FROZEN. -/
  | recReadoutDone (dt : Nat) (tile : Fin 64)
  /-- REC_TEAM_ARM_TIME (R187): The common team arming time is reached and every REC_TEAM tile arms or counts ARM_IGNORED. -/
  | recTeamArmTime (dt : Nat)
  /-- REC_TEAM_TRIGGER_TIME (R187): T plus TEAM_LAT is reached and each REC_TEAM tile takes the earliest pending team trigger. -/
  | recTeamTriggerTime (dt : Nat)
  /-- ENGINE_PASS_START (R217): A free echo engine begins the next closed pixel, applying synchronising resets, freezes, fade closures and dumps. `ecc`: the errors that its read of the buffer finds. -/
  | enginePassStart (dt : Nat) (q : Fin 4) (ecc : List EccHit)
  /-- ENGINE_PASS_DONE (R218): An engine's pass over a pixel completes and the buffer is released empty. -/
  | enginePassDone (dt : Nat) (q : Fin 4)
  /-- ENGINE_PUBLISH (R219): No earlier than 2.298 µs after the close instant, the engine hands over the PIXEL_HEADER results and points, with persistence counts. -/
  | enginePublish (dt : Nat) (q : Fin 4)
  /-- HALT_DEFERRED_CLOSE (R206): After a halt, a channel waiting for its other buffer closes its pixel when the release is seen. -/
  | haltDeferredClose (dt : Nat) (ch : Fin 1024)
  /-- PERS_TAG_SWEEP (R211): The background sweep visits a persistence tag and clears VALID on a stale tag. `slot`: the tag visited. -/
  | persTagSweep (dt : Nat) (q : Fin 4) (slot : Nat)
  /-- PERS_TAG_CLEAR_DONE (R213): The clear of every persistence tag after PB.START completes and waiting pixels proceed. -/
  | persTagClearDone (dt : Nat) (q : Fin 4)
  /-- CAL_TILE_LEAVE_SERVICE (R256): A named tile's last post-window and last pending edge are done; it leaves service and its recorder is disarmed. -/
  | calTileLeaveService (dt : Nat) (tile : Fin 64)
  /-- CAL_LIN_PASS_END (R257): A 4.2 ms CAL.LIN pass ends; firmware fits each converter, and passing tiles rejoin. `positions`: per converter (19 t + c) its 64 measured positions in fs: of a TDC's codes, or the means of an emitter's groups of 64 fine codes. -/
  | calLinPassEnd (dt : Nat) (positions : List (Nat × Vector Int 64))
  /-- CAL_LIN_TIMEOUT (R257): A tile has not passed 50 ms after acceptance, so it rejoins and fails. -/
  | calLinTimeout (dt : Nat) (tile : Fin 64)
  /-- CAL_ZERO_BLOCK_END (R260): A CAL.ZERO block of shots ends; each channel's events are judged and another block is fired or the result is formed. -/
  | calZeroBlockEnd (dt : Nat)
  /-- CAL_ZERO_TIMEOUT (R260): CAL.ZERO has not finished 2 s after acceptance and fails with cause TIMEOUT. -/
  | calZeroTimeout (dt : Nat)
  /-- CAL_TEAM_MEASURE_DONE (R261): The 64 round-trip measurements of each member complete and the members are judged, and the apply time D is set. -/
  | calTeamMeasureDone (dt : Nat) (meas : TeamMeas)
  /-- CAL_TEAM_APPLY_TIME (R261): Apply time D is reached and each member loads STANDBY with its new TEAM_OFS for a step. -/
  | calTeamApplyTime (dt : Nat)
  /-- CAL_TEAM_TIMEOUT (R261): CAL.TEAM has not finished 1 s after acceptance and fails with cause TIMEOUT. -/
  | calTeamTimeout (dt : Nat)
  /-- AUTO_CAL_START (R280): 1 ms after a Huddle with AUTO_CAL set, the master starts CAL.TEAM. -/
  | autoCalStart (dt : Nat)
  /-- NOLGIL_FORM (R270): A FORM message is received and the team is formed, or a mismatch is reported as TEAM_LINK. `fromUp`: from the upstream hop. -/
  | nolgilForm (dt : Nat) (fromUp : Bool) (devNum : Nat) (form : FormId)
  /-- NOLGIL_ARM (R187): An ARM message carrying the team arming time is received. -/
  | nolgilArm (dt : Nat) (teamTime : Int)
  /-- NOLGIL_TRIGGER (R187): A TRIGGER message carrying the originator and team time T is received and becomes a pending team trigger. `dev`: the originator. -/
  | nolgilTrigger (dt : Nat) (dev : Fin 16) (teamTime : Int)
  /-- NOLGIL_EPOCH (R279): An EPOCH message is received and the member stages E for the next Huddle. -/
  | nolgilEpoch (dt : Nat) (value : Nat)
  /-- NOLGIL_STEP_NOTICE (R282): A STEP_NOTICE message is received and the follower sets TEAM_STEP_PENDING. `delta` in fine units. -/
  | nolgilStepNotice (dt : Nat) (delta : Int)
  /-- NOLGIL_CAL_APPLY (R261): A CAL_APPLY message with the members' TEAM_OFS and apply time D is received. `ofs`: the offsets of members 1, 2, …; `teamTime`: D. Fine units. -/
  | nolgilCalApply (dt : Nat) (teamTime : Int) (ofs : List Int)
  /-- NOLGIL_STATE (R284): A STATE message updates PEER_SAFE and PEER_COAST and may report TEAM_PEER_SAFE. `work`: whether it is idle and whether a calibration runs on it. -/
  | nolgilState (dt : Nat) (dev : Fin 16) (locked : Bool) (coast : Bool) (work : MemberWork) (safe : Bool) (cause : Nat)
  /-- HOP_DOWN (R274): A hop carries no valid symbol for 2 µs; it is marked down, LINK_DROPS counts it and TEAM_LINK is reported. `up`: the upstream hop. -/
  | hopDown (dt : Nat) (up : Bool)
  /-- HOP_UP (R274): Valid symbols resume on a hop for 100 µs and the hop recovers. `up`: the upstream hop. -/
  | hopUp (dt : Nat) (up : Bool)
  /-- SKEW_WATCH_EXCHANGE (R278): The 10 µs skew-watch exchange on a hop runs and may raise WATCH_ALARM and TEAM_SKEW. -/
  | skewWatchExchange (dt : Nat) (up : Bool) (est : Stamps)
  /-- HOST_DOORBELL (R293): A write to HOST_DOORBELL posts each named IDLE or DONE mailbox, answers BUSY when no queue entry is free, or is ignored. `iface`: 0 PCI Express, 1 SPI. -/
  | hostDoorbell (dt : Nat) (iface : Fin 2) (mask : BitVec 32)
  /-- HOST_RELEASE (R293): A write to HOST_RELEASE returns each named DONE mailbox to IDLE, or is ignored. `iface`: 0 PCI Express, 1 SPI. -/
  | hostRelease (dt : Nat) (iface : Fin 2) (mask : BitVec 32)
  /-- MBX_SLOT_WRITE (R293): A write to a mailbox command slot is stored, or is ignored and counted when the mailbox is POSTED or belongs to another interface. `iface`: 0 PCI Express, 1 SPI. -/
  | mbxSlotWrite (dt : Nat) (iface : Fin 2) (offset : Nat) (data : BusData)
  /-- IRQ_PENDING_CLEAR (R289): A write of ones to IRQ_PENDING clears those bits in the copy of the interface it arrives on. `iface`: 0 PCI Express, 1 SPI. -/
  | irqPendingClear (dt : Nat) (iface : Fin 2) (mask : BitVec 32)
  /-- SPI_ALERT_ACK (R363): An SPI write of 1 to IRQ_PENDING bit 6 sets ACKED_SEQ to SEEN_SEQ, and the bit sets again if newer alerts remain. -/
  | spiAlertAck (dt : Nat)
  /-- SPI_ALERT_READ (R363): An SPI read that includes 0xC000 latches NEWEST_SEQ into SEEN_SEQ. -/
  | spiAlertRead (dt : Nat)
  /-- PB_STREAM_DOORBELL (R129): The host writes its producer index to the stream doorbell and the device fetches entries by DMA as ring room allows. -/
  | pbStreamDoorbell (dt : Nat) (value : BitVec 32)
  /-- REGISTER_WRITE (R288): A write to a hardware register without behaviour of its own, such as IRQ_ENABLE, takes effect, or is ignored at a reserved offset. `iface`: 0 PCI Express, 1 SPI. -/
  | registerWrite (dt : Nat) (iface : Fin 2) (offset : Nat) (data : BusData)
  /-- SPI_WRITE (R299): An SPI WRITE transfer writes each 32-bit word as it completes, or is discarded if it is misaligned. -/
  | spiWrite (dt : Nat) (addr : BitVec 16) (data : List (BitVec 8))
  /-- SPI_READ (R299): An SPI READ transfer returns data bytes for as long as SPI_CS_N is low. `n`: bytes clocked. -/
  | spiRead (dt : Nat) (addr : BitVec 16) (n : Nat)
  /-- SPI_WRITE_C (R300): An SPI WRITE_C transfer is buffered and applied at SPI_CS_N rising only if its CRC checks; otherwise SPI_CRC_ERRORS counts it. `ended`: SPI_CS_N rose right after the CRC. -/
  | spiWriteC (dt : Nat) (addr : BitVec 16) (count : BitVec 8) (data : List (BitVec 8)) (crc : BitVec 32) (ended : Bool)
  /-- SPI_READ_C (R299): An SPI READ_C transfer returns n words followed by a CRC-32C appended by the device. -/
  | spiReadC (dt : Nat) (addr : BitVec 16) (count : BitVec 8)
  /-- UDP_CTRL_DATAGRAM (R301): A control datagram to CTRL_UDP_PORT, in a frame on a port, writes a mailbox slot and rings it, is dropped as malformed, or is recognised as a retransmission. -/
  | udpCtrlDatagram (dt : Nat) (rx : FrameIn) (srcIp : BitVec 32) (srcUdp : BitVec 16) (data : UdpData)
  /-- TXN_TIMEOUT (R308): An open transaction receives no command for TXN_TIMEOUT_MS and is aborted. `id`: the TXN_ID. -/
  | txnTimeout (dt : Nat) (id : Nat)
  /-- CFG_PUBLISH (R320): The digest of a set that has taken effect is computed; CFG_EPOCH and CFG_DIGEST are published, and CONFIRM_PENDING, the CFG_NEW alert and IRQ bit 2 follow. -/
  | cfgPublish (dt : Nat)
  /-- JOURNAL_MIRROR_WRITE (R313): Entries not yet mirrored are written to the MRAM journal ring at a frame boundary, after 40 ms without one, or at once while the backlog is large. -/
  | journalMirrorWrite (dt : Nat)
  /-- MRAM_PAGE_WRITE_DONE (R424): An MRAM page write and its verify complete, ending a background command or retrying and failing with NVM_FAIL, and the next queued write starts. `ok`: the write verified. -/
  | mramPageWriteDone (dt : Nat) (ok : Bool)
  /-- LOG_FLUSH (R427): A log page fills, or 1 s passes after the first unwritten record, and the log records are queued for writing. -/
  | logFlush (dt : Nat)
  /-- CONS_READ (R361): The device reads CONS of a host ring by DMA, when a record does not fit or every 10 µs while records wait. `cons`: the index block's CONS in bytes. -/
  | consRead (dt : Nat) (queue : Nat) (cons : Nat)
  /-- QUEUE_IRQ_COAL (R360): IRQ_COAL_US passes since a queue's previous interrupt and a waiting interrupt is sent. -/
  | queueIrqCoal (dt : Nat) (queue : Nat)
  /-- DATAGRAM_FLUSH (R366): FLUSH_US after its first record, a partly filled queue datagram leaves. -/
  | datagramFlush (dt : Nat) (queue : Nat)
  /-- C0_STORE_DRAIN (R362): A destination becomes able to accept and held C0 alerts are delivered in order. `dest`: 0 host ring, 1 network, 2 SPI. -/
  | c0StoreDrain (dt : Nat) (dest : Fin 3)
  /-- ETH_FRAME_RX (R364): A frame arrives on P0 or P1 and is filtered, metered, recovered, admitted and forwarded, or delivered to P2. -/
  | ethFrameRx (dt : Nat) (port : Fin 2) (frame : EthFrame)
  /-- GPTP_MESSAGE_RX (R364): An 802.1AS sync or peer-delay message is received and timestamped from device time. -/
  | gptpMessageRx (dt : Nat) (port : Fin 2) (msg : GptpMsg)
  /-- GPTP_MESSAGE_TX (R364): A sync or peer-delay interval expires and the port sends its 802.1AS message. `pdelay`: a peer-delay request, else a sync. -/
  | gptpMessageTx (dt : Nat) (port : Fin 2) (pdelay : Bool)
  /-- GATE_INTERVAL_END (R364): A gate control list interval ends and the next entry's gates take effect, with hold asserted before a C0 window. -/
  | gateIntervalEnd (dt : Nat) (port : Fin 2)
  /-- GATE_LIST_APPLY (R364): The administrative gate list becomes operational at the first cycle start at or after BASE_NS. -/
  | gateListApply (dt : Nat) (port : Fin 2)
  /-- CB_RECOVERY_RESET (R364): The 802.1CB recovery reset timeout of a stream expires. -/
  | cbRecoveryReset (dt : Nat) (stream : Fin 64)
  /-- PORT_LINK_CHANGE (R368): A switch port's link goes down or comes up, including on loss or return of NPLL lock. -/
  | portLinkChange (dt : Nat) (port : Fin 2) (linkUp : Bool)
  /-- TELEMETRY_PERIOD (R371): TELEM_PERIOD_MS elapses and a TELEMETRY record is assembled, or the period is skipped and counted. -/
  | telemetryPeriod (dt : Nat)
  /-- SELFTEST_DONE (R385): The safe-state self-test completes; SELFTEST_BUSY clears or cause SELFTEST is decided. `fail`: the failing path and step. -/
  | selftestDone (dt : Nat) (fail : Option (Nat × Nat))
  /-- LOCKSTEP_MISMATCH (R386): A lockstep compare group mismatches; the cores are held in reset and FW_FAULT is set. -/
  | lockstepMismatch (dt : Nat) (group : Fin 8)
  /-- WATCHDOG_SERVICE (R387): Firmware services the windowed watchdog; a service earlier than 32 periods is cause WATCHDOG. -/
  | watchdogService (dt : Nat)
  /-- WATCHDOG_TIMEOUT (R387): No watchdog service arrives by 320 AON periods, which is cause WATCHDOG. -/
  | watchdogTimeout (dt : Nat)
  /-- ECC_RATE_WINDOW (R389): A 1 s window of corrected errors is judged against CE_LIMIT for ECC_CORR_RATE. -/
  | eccRateWindow (dt : Nat)
  /-- SCRUB (R390): A bank's scrub reads a granule in a spare slot and writes back a corrected value unless the granule was written since. `kind`: 0 good, 1 corrected, 2 uncorrectable. -/
  | scrub (dt : Nat) (ch : Fin 1024) (granule : Fin 8192) (kind : Fin 3)
  /-- MEMORY_SCRUB (R392): A memory controller scrubs a granule of a quadrant, Playbook, controller, switch, context or LPDDR5 memory in an idle cycle. `mem`: a code of R377; `kind`: 0 good, 1 corrected, 2 uncorrectable. -/
  | memoryScrub (dt : Nat) (mem : Nat) (granule : Nat) (kind : Fin 3)
  /-- TEMP_PLAUSIBILITY_CHECK (R393): Every 100 ms the sensor mean is compared with the temperature inferred from the loop control word. `inferred`: the mean inferred temperature, 1/16 °C. -/
  | tempPlausibilityCheck (dt : Nat) (inferred : Int)
  /-- TPLL_FREQ_HOLD_END (R377): Lock has been held for 10 ms after a TPLL_FREQ fault and that cause is gone. -/
  | tpllFreqHoldEnd (dt : Nat)
  /-- HOST_SILENT (R395): HOST_LIVE_MS passes without an accepted SAFE.CONFIRM_CFG, which is cause HOST_SILENT. -/
  | hostSilent (dt : Nat)
  /-- HEARTBEAT (R397): HEARTBEAT_MS of calibrated AON time passes and a HEARTBEAT alert carrying ACTIVE is sent. -/
  | heartbeat (dt : Nat)
  /-- TEMP_SAMPLE (R415): The temperature sensor is sampled every 1 ms and the sample is judged for band decisions, shutdown and the boot hold. `temp` in 1/16 °C, none where the sample is missing. -/
  | tempSample (dt : Nat) (temp : Option (BitVec 16))
  /-- SHUTDOWN_ENTER (R418): After the MRAM write in progress and the alert, SHUTDOWN_CAUSE is written and the device enters shutdown. -/
  | shutdownEnter (dt : Nat)
  /-- THERMAL_HARD_TRIP (R421): The analog comparator trips at 135 °C; gates are forced low, SAFE_N is driven low, the device is held in reset and the hard latch is set. -/
  | thermalHardTrip (dt : Nat)
  /-- DROOP_ASSERT (R413): A droop sensor asserts and the SYS divider slows within 20 ns. `sensor`: 0 droop 1, 1 droop 2. -/
  | droopAssert (dt : Nat) (sensor : Fin 2)
  /-- DROOP_DEASSERT (R413): A droop sensor deasserts and its 10 µs release time starts. `sensor`: 0 droop 1, 1 droop 2. -/
  | droopDeassert (dt : Nat) (sensor : Fin 2)
  /-- THROTTLE_STEP_UP (R413): A demand has been deasserted for 10 µs and the SYS divider speeds up by one step. -/
  | throttleStepUp (dt : Nat)
  /-- SYS_SET_CTRL_PORT (R301): Sets CTRL_UDP_PORT. -/
  | sysSetCtrlPort (dt : Nat) (mbx : Fin 32)
  /-- SYS_RESET (R330): Resets the whole device as RESET_N does, when idle and confirmed with 0x5A. -/
  | sysReset (dt : Nat) (mbx : Fin 32)
  /-- SYS_SELECT_BOOT (R330): Writes the QSPI firmware slot for the next boot with an atomic MRAM page write. -/
  | sysSelectBoot (dt : Nat) (mbx : Fin 32)
  /-- SYS_READ_JOURNAL (R331): Emits journal entries from START_JSEQ as JOURNAL records to a result queue. -/
  | sysReadJournal (dt : Nat) (mbx : Fin 32)
  /-- SYS_READ_CONFIG (R331): Emits the configuration image with its epoch and digest to a result queue. -/
  | sysReadConfig (dt : Nat) (mbx : Fin 32)
  /-- SYS_GET_STATUS (R329): Returns JOURNAL_LOST, the queue and transaction state and the epochs, optionally clearing. -/
  | sysGetStatus (dt : Nat) (mbx : Fin 32)
  /-- TB_SET_TPLL (R37): Writes the TPLL reference selection, frequency and loop bandwidth, restarting start-up or re-acquiring. -/
  | tbSetTpll (dt : Nat) (mbx : Fin 32)
  /-- TB_SET_MODE (R62): Writes the holdover, return mode, spread and Huddle fields. -/
  | tbSetMode (dt : Nat) (mbx : Fin 32)
  /-- TB_SET_EPOCH (R46): Stages the DT72 value loaded at the next Huddle. -/
  | tbSetEpoch (dt : Nat) (mbx : Fin 32)
  /-- TB_BAND_SEARCH (R42): Starts a VCO band search in the background and responds once lock is declared. -/
  | tbBandSearch (dt : Nat) (mbx : Fin 32)
  /-- TB_BAND_STORE (R42): Saves the current band, fractional setting, reference and loop word into a slot. -/
  | tbBandStore (dt : Nat) (mbx : Fin 32)
  /-- TB_BAND_HOP (R42): Loads a stored band slot and re-locks within 6 µs. -/
  | tbBandHop (dt : Nat) (mbx : Fin 32)
  /-- TB_REALIGN (R60): Requests a HOLD realignment of device time by PHASE_OFS at the next quiet interval. -/
  | tbRealign (dt : Nat) (mbx : Fin 32)
  /-- TB_GET_STATUS (R63): Returns TB_STATUS and the TPLL configuration words. -/
  | tbGetStatus (dt : Nat) (mbx : Fin 32)
  /-- EM_SET_CHANNEL (R99): Writes EM_DELAY, OUT_CTRL and TRIP_MAP of an emitter channel. -/
  | emSetChannel (dt : Nat) (mbx : Fin 32)
  /-- EM_SET_LIMITS (R99): Writes the three accountant limits of a channel. -/
  | emSetLimits (dt : Nat) (mbx : Fin 32)
  /-- EM_SET_VOLLEY (R79): Writes a volley pattern, subject to its consistency checks. -/
  | emSetVolley (dt : Nat) (mbx : Fin 32)
  /-- EM_SET_STRETCH (R82): Writes a channel's gate-stretch table. -/
  | emSetStretch (dt : Nat) (mbx : Fin 32)
  /-- EM_CLEAR_TRIP (R91): Clears the trip latch of each named channel whose mapped sources are deasserted, and lists those still latched. -/
  | emClearTrip (dt : Nat) (mbx : Fin 32)
  /-- EM_GET_STATUS (R100): Returns EM_CH_STATUS, optionally clearing the counters. -/
  | emGetStatus (dt : Nat) (mbx : Fin 32)
  /-- PB_LOAD_DESC (R102): Writes resident shot descriptors. -/
  | pbLoadDesc (dt : Nat) (mbx : Fin 32)
  /-- PB_SET_SEGMENT (R108): Writes a segment table entry. -/
  | pbSetSegment (dt : Nat) (mbx : Fin 32)
  /-- PB_SET_JUMP (R336): Writes a jump table slot, ignoring ARMED. -/
  | pbSetJump (dt : Nat) (mbx : Fin 32)
  /-- PB_SET_CONFIG (R122): Writes PB_CFG, including the lead, driver link and shot-clock and mirror fields. -/
  | pbSetConfig (dt : Nat) (mbx : Fin 32)
  /-- PB_SET_STL (R125): Writes a steering link configuration. -/
  | pbSetStl (dt : Nat) (mbx : Fin 32)
  /-- PB_STREAM_OPEN (R128): Writes the stream configuration and refill ring. -/
  | pbStreamOpen (dt : Nat) (mbx : Fin 32)
  /-- PB_ARM_JUMP (R109): Sets or clears ARMED of a jump slot. -/
  | pbArmJump (dt : Nat) (mbx : Fin 32)
  /-- PB_JUMP (R113): Latches a jump request on a non-empty slot. -/
  | pbJump (dt : Nat) (mbx : Fin 32)
  /-- PB_START (R116): Starts the walk at a segment, clears FAULT_CAUSE, sets FRAME_NUM to 0 and clears persistence tags. -/
  | pbStart (dt : Nat) (mbx : Fin 32)
  /-- PB_STOP (R117): Ends the run at a shot, frame or segment boundary. -/
  | pbStop (dt : Nat) (mbx : Fin 32)
  /-- PB_STREAM_CLOSE (R336): Sets STREAM_SRC to off. -/
  | pbStreamClose (dt : Nat) (mbx : Fin 32)
  /-- PB_CLEAR_UNDERRUN (R135): Clears PB_UNDERRUN. -/
  | pbClearUnderrun (dt : Nat) (mbx : Fin 32)
  /-- PB_GET_STATUS (R136): Returns PB_STATUS, optionally clearing counters. -/
  | pbGetStatus (dt : Nat) (mbx : Fin 32)
  /-- CMP_SET_RX (R159): Writes CMP_RX_CFG to a range of receive channels. -/
  | cmpSetRx (dt : Nat) (mbx : Fin 32)
  /-- CMP_SET_RX_TILE (R160): Writes a tile's receive blanking word. -/
  | cmpSetRxTile (dt : Nat) (mbx : Fin 32)
  /-- CMP_SET_MC (R161): Writes a monitor comparator's configuration, starting resolution or a hold. -/
  | cmpSetMc (dt : Nat) (mbx : Fin 32)
  /-- CMP_SET_MP (R158): Writes a mirror position input's configuration. -/
  | cmpSetMp (dt : Nat) (mbx : Fin 32)
  /-- CMP_SET_MARGIN (R162): Writes the per-band hysteresis margins. -/
  | cmpSetMargin (dt : Nat) (mbx : Fin 32)
  /-- CMP_GET_STATUS (R163): Returns comparator device, channel or monitor status, optionally clearing. -/
  | cmpGetStatus (dt : Nat) (mbx : Fin 32)
  /-- WIN_SET_PROFILE (R175): Writes a window profile. -/
  | winSetProfile (dt : Nat) (mbx : Fin 32)
  /-- WIN_SET_TILE (R176): Writes WIN_EN and the hold-off of named tiles. -/
  | winSetTile (dt : Nat) (mbx : Fin 32)
  /-- WIN_SET_REC (R190): Writes the recorder configuration of named tiles. -/
  | winSetRec (dt : Nat) (mbx : Fin 32)
  /-- WIN_ARM_REC (R182): Arms the recorders of named tiles, or the team recorders from the master. -/
  | winArmRec (dt : Nat) (mbx : Fin 32)
  /-- WIN_DISARM_REC (R182): Disarms the recorders of named tiles. -/
  | winDisarmRec (dt : Nat) (mbx : Fin 32)
  /-- WIN_TRIG_REC (R339): Applies a COMMAND trigger to named tiles. -/
  | winTrigRec (dt : Nat) (mbx : Fin 32)
  /-- WIN_READ_REC (R188): Reads captures of named tiles as CAPTURE records into a result queue. -/
  | winReadRec (dt : Nat) (mbx : Fin 32)
  /-- WIN_GET_STATUS (R191): Returns channel, tile or recorder status, optionally clearing. -/
  | winGetStatus (dt : Nat) (mbx : Fin 32)
  /-- HIST_SET_TILE (R214): Writes binning, dump and coincidence fields of named tiles. -/
  | histSetTile (dt : Nat) (mbx : Fin 32)
  /-- HIST_SET_PERS (R215): Writes the persistence configuration. -/
  | histSetPers (dt : Nat) (mbx : Fin 32)
  /-- HIST_GET_STATUS (R216): Returns histogram channel, tile or quadrant status, optionally clearing. -/
  | histGetStatus (dt : Nat) (mbx : Fin 32)
  /-- ECHO_SET_CFG (R238): Writes a quadrant's echo extraction configuration. -/
  | echoSetCfg (dt : Nat) (mbx : Fin 32)
  /-- ECHO_SET_COEF (R228): Writes a coefficient bank of a quadrant. -/
  | echoSetCoef (dt : Nat) (mbx : Fin 32)
  /-- ECHO_SWAP_BANK (R230): Requests a cross-fade to a target bank over M closures, or queues or replaces one. -/
  | echoSwapBank (dt : Nat) (mbx : Fin 32)
  /-- ECHO_FREEZE_BG (R225): Captures or clears the frozen background values of named channels. -/
  | echoFreezeBg (dt : Nat) (mbx : Fin 32)
  /-- ECHO_GET_STATUS (R240): Returns quadrant or channel echo status, optionally clearing. -/
  | echoGetStatus (dt : Nat) (mbx : Fin 32)
  /-- CAL_SET_USER (R250): Writes user-layer values that wait for the next step. -/
  | calSetUser (dt : Nat) (mbx : Fin 32)
  /-- CAL_LIN (R257): Starts the background linearity calibration of named tiles. -/
  | calLin (dt : Nat) (mbx : Fin 32)
  /-- CAL_ZERO (R260): Starts the background range-zero calibration against a reference. -/
  | calZero (dt : Nat) (mbx : Fin 32)
  /-- CAL_TEAM (R261): Starts the background measurement of TEAM_OFS on every team member. -/
  | calTeam (dt : Nat) (mbx : Fin 32)
  /-- CAL_SAVE_USER (R264): Saves the active user layer over the older MRAM copy. -/
  | calSaveUser (dt : Nat) (mbx : Fin 32)
  /-- CAL_RESTORE (R264): Restores a saved user copy or zero at the next step. -/
  | calRestore (dt : Nat) (mbx : Fin 32)
  /-- CAL_GET_STATUS (R265): Returns CAL_STATUS, optionally clearing counters. -/
  | calGetStatus (dt : Nat) (mbx : Fin 32)
  /-- TEAM_SET_CFG (R269): Writes the team configuration. -/
  | teamSetCfg (dt : Nat) (mbx : Fin 32)
  /-- TEAM_HUDDLE (R279): Starts a Huddle from the master with epoch E. -/
  | teamHuddle (dt : Nat) (mbx : Fin 32)
  /-- TEAM_GET_STATUS (R286): Returns TEAM_STATUS, optionally clearing counters. -/
  | teamGetStatus (dt : Nat) (mbx : Fin 32)
  /-- OUT_SET_QUEUE (R351): Writes result queue contexts. -/
  | outSetQueue (dt : Nat) (mbx : Fin 32)
  /-- OUT_SET_ROUTE (R365): Writes a network route entry. -/
  | outSetRoute (dt : Nat) (mbx : Fin 32)
  /-- OUT_SET_PORT (R365): Writes a switch port configuration. -/
  | outSetPort (dt : Nat) (mbx : Fin 32)
  /-- OUT_SET_GATE (R372): Writes gate control list words and entries, optionally applying them at BASE_NS. -/
  | outSetGate (dt : Nat) (mbx : Fin 32)
  /-- OUT_SET_FILTER (R365): Writes a stream filter. -/
  | outSetFilter (dt : Nat) (mbx : Fin 32)
  /-- OUT_SET_STREAM (R374): Writes an 802.1CB stream entry. -/
  | outSetStream (dt : Nat) (mbx : Fin 32)
  /-- OUT_SET_TIME (R365): Writes a port's 802.1AS settings. -/
  | outSetTime (dt : Nat) (mbx : Fin 32)
  /-- OUT_RESET_QUEUE (R353): Zeroes PROD, RSEQ and DROPS of disabled queues. -/
  | outResetQueue (dt : Nat) (mbx : Fin 32)
  /-- OUT_GET_STATUS (R375): Returns queue, port or class status, optionally clearing. -/
  | outGetStatus (dt : Nat) (mbx : Fin 32)
  /-- SAFE_SET_CFG (R401): Writes SAFE_CFG. -/
  | safeSetCfg (dt : Nat) (mbx : Fin 32)
  /-- SAFE_CLEAR (R382): Leaves the safe state if CLEAR_READY holds, raising SAFE_N and sending a clear alert. -/
  | safeClear (dt : Nat) (mbx : Fin 32)
  /-- SAFE_ENTER (R347): Puts the device into the safe state with a command cause. -/
  | safeEnter (dt : Nat) (mbx : Fin 32)
  /-- SAFE_CONFIRM_CFG (R394): Confirms the published epoch and digest, clearing CONFIRM_PENDING. -/
  | safeConfirmCfg (dt : Nat) (mbx : Fin 32)
  /-- SAFE_GET_STATUS (R402): Returns SAFE_STATUS_EXT, optionally clearing. -/
  | safeGetStatus (dt : Nat) (mbx : Fin 32)
  /-- PWR_SET_CFG (R428): Writes the throttle and log configuration. -/
  | pwrSetCfg (dt : Nat) (mbx : Fin 32)
  /-- PWR_SAVE_IMAGE (R425): Saves the configuration image into an MRAM slot. -/
  | pwrSaveImage (dt : Nat) (mbx : Fin 32)
  /-- PWR_SELECT_IMAGE (R347): Selects the image slot loaded at boot, or none. -/
  | pwrSelectImage (dt : Nat) (mbx : Fin 32)
  /-- PWR_ERASE_IMAGE (R425): Marks an image slot invalid. -/
  | pwrEraseImage (dt : Nat) (mbx : Fin 32)
  /-- PWR_READ_LOG (R427): Emits the MRAM log as TELEMETRY records. -/
  | pwrReadLog (dt : Nat) (mbx : Fin 32)
  /-- PWR_GET_STATUS (R429): Returns PWR_STATUS, optionally clearing. -/
  | pwrGetStatus (dt : Nat) (mbx : Fin 32)
  /-- TXN_OPEN (R306): Opens a transaction and returns its TXN_ID. -/
  | txnOpen (dt : Nat) (mbx : Fin 32)
  /-- TXN_COMMIT (R309): Checks a transaction's set and accepts it for its boundary, or refuses it. -/
  | txnCommit (dt : Nat) (mbx : Fin 32)
  /-- TXN_ABORT (R308): Discards a transaction. -/
  | txnAbort (dt : Nat) (mbx : Fin 32)
  /-- TXN_GET_STATUS (R348): Returns the state of a transaction. -/
  | txnGetStatus (dt : Nat) (mbx : Fin 32)
  /-- POWER_UP (R406): VDDIO_33 comes within tolerance during power-up and the device starts driving SAFE_N low. -/
  | powerUp (dt : Nat)
  /-- TRIP_N_DEASSERT (R377): A TRIP_N ball rises again, which updates TRIP_ACTIVE and can end cause EM_TRIP once every source in TRIP_SAFE_MAP is deasserted. -/
  | tripNDeassert (dt : Nat) (pin : Fin 4)
  /-- RX_OUTPUT_DEASSERT (R143): A receive input falls below RX_TH minus the hysteresis and the timing output deasserts, so the channel can produce its next event. -/
  | rxOutputDeassert (dt : Nat) (ch : Fin 1024)
  /-- MC_FILTER_SAMPLE (R148): The monitor majority filter takes a sample at its period Ts, and its filtered and routed outputs may assert or deassert, which can trip channels. -/
  | mcFilterSample (dt : Nat) (m : Fin 34)
  /-- SD_REFCLK_RETURN (R453): SD_REFCLK counts present again, or for the first time, after 2 µs of rising edges, and the SPLL and NPLL band search and acquisition begin. -/
  | sdRefclkReturn (dt : Nat)
  /-- CAL_ZERO_SHOT (R260): Every SHOT_PERIOD_US during a CAL.ZERO block, the device fires one calibration shot on EM with a random dither. `dither` in ticks. -/
  | calZeroShot (dt : Nat) (dither : BitVec 12)
  /-- FRAME_TRANSMITTED (R370): An egress frame finishes transmission on a switch port; its buffer space returns to the pool and the next frame is chosen by strict priority within the open gates. -/
  | frameTransmitted (dt : Nat) (port : Fin 2)
  /-- SYS_GET_CTRL_PORT (R324): Reads back CTRL_UDP_PORT. -/
  | sysGetCtrlPort (dt : Nat) (mbx : Fin 32)
  /-- SYS_GET_INFO (R349): Returns the firmware version, factory calibration identity, device identity and LPDDR5 size. -/
  | sysGetInfo (dt : Nat) (mbx : Fin 32)
  /-- TB_GET_TPLL (R333): Reads back both TPLL configuration words. -/
  | tbGetTpll (dt : Nat) (mbx : Fin 32)
  /-- TB_GET_MODE (R324): Reads back TB_MODE_CFG. -/
  | tbGetMode (dt : Nat) (mbx : Fin 32)
  /-- TB_GET_EPOCH (R324): Reads back the staged epoch. -/
  | tbGetEpoch (dt : Nat) (mbx : Fin 32)
  /-- EM_GET_CHANNEL (R324): Reads back EM_CH_CFG. -/
  | emGetChannel (dt : Nat) (mbx : Fin 32)
  /-- EM_GET_LIMITS (R324): Reads back EM_LIMITS. -/
  | emGetLimits (dt : Nat) (mbx : Fin 32)
  /-- EM_GET_VOLLEY (R324): Reads back a volley pattern. -/
  | emGetVolley (dt : Nat) (mbx : Fin 32)
  /-- EM_GET_STRETCH (R324): Reads back a gate-stretch table. -/
  | emGetStretch (dt : Nat) (mbx : Fin 32)
  /-- PB_GET_DESC (R324): Reads back resident descriptors. -/
  | pbGetDesc (dt : Nat) (mbx : Fin 32)
  /-- PB_GET_SEGMENT (R324): Reads back a segment table entry. -/
  | pbGetSegment (dt : Nat) (mbx : Fin 32)
  /-- PB_GET_JUMP (R324): Reads back a jump slot. -/
  | pbGetJump (dt : Nat) (mbx : Fin 32)
  /-- PB_GET_CONFIG (R324): Reads back PB_CFG. -/
  | pbGetConfig (dt : Nat) (mbx : Fin 32)
  /-- PB_GET_STL (R324): Reads back STL_CFG. -/
  | pbGetStl (dt : Nat) (mbx : Fin 32)
  /-- PB_GET_STREAM (R324): Reads back PB_STREAM_CFG. -/
  | pbGetStream (dt : Nat) (mbx : Fin 32)
  /-- CMP_GET_RX (R324): Reads back CMP_RX_CFG. -/
  | cmpGetRx (dt : Nat) (mbx : Fin 32)
  /-- CMP_GET_RX_TILE (R324): Reads back CMP_RX_TILE. -/
  | cmpGetRxTile (dt : Nat) (mbx : Fin 32)
  /-- CMP_GET_MC (R324): Reads back CMP_MC_CFG. -/
  | cmpGetMc (dt : Nat) (mbx : Fin 32)
  /-- CMP_GET_MP (R324): Reads back an MP configuration. -/
  | cmpGetMp (dt : Nat) (mbx : Fin 32)
  /-- CMP_GET_MARGIN (R324): Reads back CMP_MARGIN. -/
  | cmpGetMargin (dt : Nat) (mbx : Fin 32)
  /-- WIN_GET_PROFILE (R324): Reads back a window profile. -/
  | winGetProfile (dt : Nat) (mbx : Fin 32)
  /-- WIN_GET_TILE (R324): Reads back WIN_TILE_CFG of one tile. -/
  | winGetTile (dt : Nat) (mbx : Fin 32)
  /-- WIN_GET_REC (R324): Reads back WIN_REC_CFG of one tile. -/
  | winGetRec (dt : Nat) (mbx : Fin 32)
  /-- HIST_GET_TILE (R324): Reads back HIST_TILE_CFG of one tile. -/
  | histGetTile (dt : Nat) (mbx : Fin 32)
  /-- HIST_GET_PERS (R324): Reads back HIST_PERS_CFG. -/
  | histGetPers (dt : Nat) (mbx : Fin 32)
  /-- ECHO_GET_CFG (R324): Reads back ECHO_Q_CFG. -/
  | echoGetCfg (dt : Nat) (mbx : Fin 32)
  /-- ECHO_GET_COEF (R341): Reads back a coefficient bank. -/
  | echoGetCoef (dt : Nat) (mbx : Fin 32)
  /-- CAL_GET_USER (R343): Returns active and pending user-layer words. -/
  | calGetUser (dt : Nat) (mbx : Fin 32)
  /-- CAL_GET_RESULT (R266): Returns the results of the last calibration. -/
  | calGetResult (dt : Nat) (mbx : Fin 32)
  /-- CAL_GET_SKEW (R456): Returns the factory skew of each band for named emitters. -/
  | calGetSkew (dt : Nat) (mbx : Fin 32)
  /-- TEAM_GET_CFG (R324): Reads back TEAM_CFG. -/
  | teamGetCfg (dt : Nat) (mbx : Fin 32)
  /-- OUT_GET_QUEUE (R324): Reads back queue contexts. -/
  | outGetQueue (dt : Nat) (mbx : Fin 32)
  /-- OUT_GET_ROUTE (R324): Reads back a route entry. -/
  | outGetRoute (dt : Nat) (mbx : Fin 32)
  /-- OUT_GET_PORT (R324): Reads back a port configuration. -/
  | outGetPort (dt : Nat) (mbx : Fin 32)
  /-- OUT_GET_GATE (R374): Reads back gate words and operational entries. -/
  | outGetGate (dt : Nat) (mbx : Fin 32)
  /-- OUT_GET_FILTER (R324): Reads back a stream filter. -/
  | outGetFilter (dt : Nat) (mbx : Fin 32)
  /-- OUT_GET_STREAM (R324): Reads back a stream entry. -/
  | outGetStream (dt : Nat) (mbx : Fin 32)
  /-- OUT_GET_TIME (R324): Reads back the time settings. -/
  | outGetTime (dt : Nat) (mbx : Fin 32)
  /-- SAFE_GET_CFG (R324): Reads back SAFE_CFG. -/
  | safeGetCfg (dt : Nat) (mbx : Fin 32)
  /-- PWR_GET_CFG (R324): Reads back PWR_CFG. -/
  | pwrGetCfg (dt : Nat) (mbx : Fin 32)
deriving DecidableEq, Repr

end Sys2Proof
end

