-- ==== Sys2Proof/Machine/Bits.lean ====
section
/-! DEFINITION. Bit fields, sparse tables, rounding and the CRC-32C: the helpers every meaning uses. -/

namespace Sys2Proof.Machine

/-- Field [hi:lo] of a word, as a number. -/
def fld (w : Word) (hi lo : Nat) : Nat := (w.toNat >>> lo) % 2 ^ (hi - lo + 1)

/-- Bit i of a word. -/
def bitOf (w : Word) (i : Nat) : Bool := w.toNat.testBit i

/-- A number of n bits read as two's complement. -/
def signed (n v : Nat) : Int := if v % 2 ^ n < 2 ^ (n - 1) then (v % 2 ^ n : Nat) else (v % 2 ^ n : Nat) - (2 ^ n : Nat)

/-- Field [hi:lo] of a word as a signed number. -/
def sfld (w : Word) (hi lo : Nat) : Int := signed (hi - lo + 1) (fld w hi lo)

/-- An integer's two's complement pattern of n bits. -/
def twos (n : Nat) (v : Int) : Nat := (v % ((2 ^ n : Nat) : Int)).toNat

/-- A Bool as a bit. -/
def b2n (b : Bool) : Nat := if b then 1 else 0

/-- A word from its fields, most significant first: (width, value) pairs. -/
def pack (fs : List (Nat × Nat)) : Word :=
  BitVec.ofNat 64 (fs.foldl (fun a p => a * 2 ^ p.1 + p.2 % 2 ^ p.1) 0)

/-- A word with field [hi:lo] replaced. -/
def setFld (w : Word) (hi lo v : Nat) : Word :=
  BitVec.ofNat 64 (w.toNat - fld w hi lo * 2 ^ lo + v % 2 ^ (hi - lo + 1) * 2 ^ lo)

/-- A field of 36 bits in a message word (R13: bits [63:36] are zero). -/
def w36 (v : Nat) : Word := BitVec.ofNat 64 (v % 2 ^ 36)

/-- The two message words of a DT72 value (R13: bits [35:0], then bits [71:36]). -/
def dtWords (t : Int) : List Word :=
  [w36 (twos 72 t), w36 (twos 72 t / 2 ^ 36)]

/-- Saturating increment of a counter of n bits. -/
def satAdd (n c k : Nat) : Nat := min (2 ^ n - 1) (c + k)

/-- The numbers lo, lo+1, …, hi. -/
def upTo (lo hi : Nat) : List Nat := (List.range (hi + 1 - lo)).map (lo + ·)

/-- The bits set in a mask below n, lowest first. -/
def maskBits (n m : Nat) : List Nat := (List.range n).filter (fun i => m.testBit i)

/-- The entry of a sparse table at key i; d where it is not listed. -/
def tabGet {α : Type} (d : α) : Tab α → Nat → α
  | [], _ => d
  | (k, v) :: t, i => if k = i then v else tabGet d t i

/-- The sparse table with the entry at key i removed. -/
def tabDel {α : Type} (t : Tab α) (i : Nat) : Tab α := t.filter (fun p => p.1 != i)

/-- The sparse table with a value put at key i whatever it is. -/
def tabPut {α : Type} : Tab α → Nat → α → Tab α
  | [], i, x => [(i, x)]
  | (k, v) :: t, i, x =>
    if k = i then (i, x) :: t else if i < k then (i, x) :: (k, v) :: t else (k, v) :: tabPut t i x

/-- Write to a sparse table: writing the default removes the entry, so equal tables are equal lists. -/
def tabSet {α : Type} [DecidableEq α] (d : α) (t : Tab α) (i : Nat) (x : α) : Tab α :=
  if x = d then tabDel t i else tabPut t i x

/-- One entry of a sparse table changed by a function. -/
def tabUpd {α : Type} [DecidableEq α] (d : α) (t : Tab α) (i : Nat) (f : α → α) : Tab α :=
  tabSet d t i (f (tabGet d t i))

/-- The canonical form of a sparse table with default d: keys strictly rising, no entry equal to the default. -/
def tabWf {α : Type} [DecidableEq α] (d : α) : Tab α → Bool
  | [] => true
  | (k, v) :: t => decide (v ≠ d) && (t.all fun p => decide (k < p.1)) && tabWf d t

/-- Round a quotient to the nearest integer, halves away from zero (R455). -/
def rndDiv (n : Int) (d : Nat) : Int :=
  if n < 0 then -(((2 * n.natAbs + d) / (2 * d) : Nat) : Int) else (((2 * n.natAbs + d) / (2 * d) : Nat) : Int)

/-- A span of running time in fine units as whole milliseconds, to the nearest (R455). -/
def wholeMs (t : Nat) : Nat := (rndDiv (t : Int) fineMs).toNat

/-- Fine units in whole microseconds, to the nearest (R455). -/
def wholeUs (t : Nat) : Nat := (rndDiv (t : Int) fineUs).toNat

/-- A number clamped to lo … hi. -/
def clampI (lo hi v : Int) : Int := max lo (min hi v)

/-- The integer square root of v below 2^n, bit by bit from above. -/
def isqrtBits : Nat → Nat → Nat → Nat
  | 0, _, r => r
  | n + 1, v, r => if (r + 2 ^ n) * (r + 2 ^ n) ≤ v then isqrtBits n v (r + 2 ^ n) else isqrtBits n v r

/-- The integer square root (floor), for arguments below 2^192. -/
def isqrt (v : Nat) : Nat := isqrtBits 96 v 0

/-- One byte into the CRC-32C register (reflected polynomial 0x82F63B78). -/
def crcByte (c b : Nat) : Nat :=
  (List.range 8).foldl (fun a _ => if a % 2 = 1 then (a / 2) ^^^ 0x82F63B78 else a / 2) (c ^^^ (b % 256))

/-- CRC-32C of a list of bytes. -/
def crc32c (bs : List Nat) : Nat := (bs.foldl crcByte 0xFFFFFFFF) ^^^ 0xFFFFFFFF

/-- The product of two residues in the CRC's reflected field. -/
def crcMul (a b : Nat) : Nat :=
  ((List.range 32).foldl (fun (r : Nat × Nat) i =>
    ((if a.testBit (31 - i) then r.1 ^^^ r.2 else r.1), if r.2 % 2 = 1 then (r.2 / 2) ^^^ 0x82F63B78 else r.2 / 2)) (0, b)).1

/-- The CRC-32C register after n further zero bytes, n below 2^20: its product with the residue of x^(8n). -/
def crcZeros (n c : Nat) : Nat :=
  crcMul c ((List.range 20).foldl (fun (r : Nat × Nat) i =>
    ((if n.testBit i then crcMul r.1 r.2 else r.1), crcMul r.2 r.2)) (0x80000000, 0x00800000)).1

/-- The bytes of a number, least significant first. -/
def leBytes (n v : Nat) : List Nat := (List.range n).map (fun i => (v >>> (8 * i)) % 256)

/-- The number of little-endian bytes. -/
def ofLe : List Nat → Nat
  | [] => 0
  | b :: t => b % 256 + 256 * ofLe t

/-- The bytes of message words, each least significant byte first (R292). -/
def wordBytes (ws : List Word) : List Nat := ws.flatMap (fun w => leBytes 8 w.toNat)

/-- Insert into a list sorted by a key, after equal keys. -/
def insBy {α : Type} (key : α → Nat) (x : α) : List α → List α
  | [] => [x]
  | y :: t => if key y ≤ key x then y :: insBy key x t else x :: y :: t

/-- A list sorted by a key (stable). -/
def sortBy {α : Type} (key : α → Nat) (l : List α) : List α := l.foldl (fun a x => insBy key x a) []

/-- Cut a list into pieces of n (n > 0), at most fuel pieces. -/
def chunks {α : Type} (n : Nat) : Nat → List α → List (List α)
  | 0, _ => []
  | fuel + 1, l => if l.isEmpty then [] else l.take n :: chunks n fuel (l.drop n)

end Sys2Proof.Machine
end

