-- ==== Sys2Proof/Machine/State.lean ====
section
/-! DEFINITION. The state of the block: every register, buffer, queue, counter, mode and pin the spec gives the
GLN1064, as plain data, and the queue of waiting commands. Times named `…At` are instants: of device time
(fine units, Int) where the field says DT, otherwise fine units of running time since reset (Nat). -/

namespace Sys2Proof.Machine

/-- The faults of a step: there are none, since the spec gives every command an effect. -/
inductive Fault where
deriving DecidableEq, Repr

/-- The refusals of a step. -/
inductive Refusal where
  /-- Raised by an arm of Dispatch.lean for a command that has no meaning yet. Safe. -/
  | notModelled (mnemonic : String)
deriving DecidableEq, Repr

/-! ### Control: mailboxes, transactions, journal (ch. 11) -/

/-- The state of a mailbox (R291). -/
inductive MbxSt where
  | idle | posted | done
deriving DecidableEq, Repr

/-- The sender of a control datagram (R301, R302): its addresses, its UDP port and the port of arrival. -/
structure UdpSrc where
  ip : Nat := 0
  port : Nat := 0
  swPort : Nat := 0
  mac : Nat := 0
deriving DecidableEq, Repr

/-- A mailbox (R291, R292): its state, its 32 command words, its 32 response words, and for a UDP mailbox the
sender and the words of its last command datagram (R302). -/
structure Mbx where
  st : MbxSt := .idle
  cmd : Tab Word := []
  resp : Tab Word := []
  src : Option UdpSrc := none
  /-- The last command datagram after its prefix (R302). -/
  last : UdpData := {}
deriving DecidableEq, Repr

/-- One effect of an accepted change set: a configuration object written, or one of the two stageable actions
(R307). -/
inductive SetOp where
  /-- The object with key k (ConfigStore) takes these words. -/
  | write (k : Nat) (ws : Obj)
  /-- PB.ARM_JUMP on a slot. -/
  | armJump (slot : Nat) (on : Bool)
  /-- ECHO.SWAP_BANK of a quadrant to a bank over m closures. -/
  | swapBank (q bank m : Nat)
deriving DecidableEq, Repr

/-- A command as the journal and the staging keep it (Tables 7 and 14). -/
structure CmdRec where
  opcode : Nat := 0
  mbx : Nat := 0
  tag : Nat := 0
  txn : Nat := 0
  seq : Nat := 0
  payload : List Word := []
deriving DecidableEq, Repr

/-- A staged command: its record and the effects it will have (R307). -/
structure Staged where
  cmd : CmdRec := {}
  ops : List SetOp := []
deriving DecidableEq, Repr

/-- The state of a transaction (Table 17: TXN_STATE). -/
inductive TxnSt where
  | open | committed | aborted | timedOut | refused
deriving DecidableEq, Repr

/-- A transaction (R306 to R310). -/
structure Txn where
  st : TxnSt := .open
  iface : Nat := 0
  timeoutMs : Nat := 0
  lastAt : Nat := 0
  staged : List Staged := []
deriving DecidableEq, Repr

/-- An accepted change set that waits for its boundary (R303, R309): 1 next shot, 2 next pixel, 3 next frame. -/
structure WaitSet where
  seq : Nat := 0
  epoch : Nat := 0
  boundary : Nat := 0
  /-- A next-pixel set: a CLOSE descriptor has been expanded since it was accepted. -/
  closed : Bool := false
  /-- KIND 1 entries (a transaction's members) rather than KIND 0. -/
  isTxn : Bool := false
  txn : Nat := 0
  members : List Staged := []
deriving DecidableEq, Repr

/-- A background command that runs on (R298); at most one per group. -/
structure Bg where
  group : Nat := 0
  cmd : CmdRec := {}
deriving DecidableEq, Repr

/-- A journal entry (Table 14). -/
structure JEntry where
  jseq : Nat := 0
  kind : Nat := 0
  srcIf : Nat := 3
  cmd : CmdRec := { mbx := 255 }
  dt : Int := 0
  epoch : Nat := 0
  digest : Nat := 0
  /-- The digest has been computed (R314). -/
  digestOk : Bool := true
  boundary : Nat := 4
  frameLo : Nat := 0
deriving DecidableEq, Repr

/-- Mailboxes, transactions, journal, epoch and digest (ch. 11). -/
structure Ctl where
  /-- HOST_STATUS [31] (Table 2). Reset 0. -/
  mbxReady : Bool := false
  /-- HOST_STATUS [30]: firmware stopped. Reset 0. -/
  fwFault : Bool := false
  /-- HOST_STATUS [28]. Reset 0. -/
  lpFitted : Bool := false
  /-- LPDDR5 capacity in MiB found at boot (Table 17). Reset 0. -/
  lpMib : Nat := 0
  /-- HOST_STATUS [23:16]. Reset 0. -/
  bootStage : Nat := 0
  /-- The 32 mailboxes, those not IDLE with empty slots listed (R290 to R292). -/
  mbx : Tab Mbx := []
  /-- Posted mailboxes in doorbell order (R294, R297). -/
  queue : List Nat := []
  /-- The next command sequence number (R296). Reset 1. -/
  seq : Nat := 1
  /-- Background commands running (R298). -/
  bg : List Bg := []
  /-- IRQ_PENDING and IRQ_ENABLE, the PCI Express and the SPI copies (R289). Reset 0. -/
  irqPendP : Nat := 0
  irqPendS : Nat := 0
  irqEnP : Nat := 0
  irqEnS : Nat := 0
  /-- HOST_ERRORS (Table 5). Reset 0. -/
  busyCount : Nat := 0
  dbIgnored : Nat := 0
  spiCrcErrors : Nat := 0
  /-- Transactions by TXN_ID issued since reset, and the next ID (R306). -/
  txns : Tab Txn := []
  nextTxn : Nat := 1
  /-- Sets waiting for their boundaries, in acceptance order (R304, R310). -/
  waiting : List WaitSet := []
  /-- The configuration epoch of R305: sets accepted. Reset 0 (log entry 6). -/
  epoch : Nat := 0
  /-- Epoch of the last set that took effect, and the digest then (R320). -/
  effEpoch : Nat := 0
  effDigest : Nat := 0
  /-- Sets that took effect and are not published yet: epoch and digest, oldest first (R320). -/
  unpub : List (Nat × Nat) := []
  /-- CFG_EPOCH and CFG_DIGEST (R320). Reset 0 (log entry 6). -/
  pubEpoch : Nat := 0
  pubDigest : Nat := 0
  /-- The journal ring in controller memory, oldest first, at most 4,096 entries (R313). -/
  jrnl : List JEntry := []
  /-- JRNL_SEQ: sequence number of the newest entry (R315, R317). -/
  jseq : Nat := 0
  /-- Newest JSEQ written to the MRAM mirror. -/
  jmirr : Nat := 0
  /-- JOURNAL_LOST (R318). Reset 0. -/
  jlost : Nat := 0
  /-- Mailboxes rung before MBX_READY that are still posted, in doorbell order (the text under Table 9 of ch. 11). -/
  early : List Nat := []
  /-- Running time of the last frame boundary or periodic mirror write, and a mirror write that the one in progress
  delays (R313). -/
  mirrorAt : Nat := 0
  mirrorWait : Bool := false
deriving DecidableEq, Repr

/-! ### Timebase (ch. 02) -/

/-- TPLL_STATE (Table 11). -/
inductive TpllSt where
  | reset | search | acquire | locked | coast | reacquire | slewing | fault
deriving DecidableEq, Repr

/-- A stored band slot (R42). -/
structure BandSlot where
  band : Nat := 0
  frac : Nat := 0
  refSel : Nat := 0
  loopWord : Nat := 0
deriving DecidableEq, Repr

/-- The SPLL or the NPLL (R453): locked now, locked before, good windows in a row, frozen. -/
structure Pll where
  lock : Bool := false
  good : Nat := 0
  coast : Bool := false
deriving DecidableEq, Repr

/-- The timebase (ch. 02). -/
structure Tb where
  /-- TPLL_STATE. Reset 0. -/
  st : TpllSt := .reset
  refPresent : Bool := false
  refBad : Bool := false
  /-- COAST: the loop is frozen. -/
  coast : Bool := false
  realign : Bool := false
  freqFault : Bool := false
  /-- BAND_SLOT. Reset 0xF. -/
  bandSlot : Nat := 15
  vcoBand : Nat := 0
  loopWord : Nat := 0
  /-- PHASE_OFS, signed fine units. -/
  phaseOfs : Int := 0
  coastCount : Nat := 0
  /-- Lock windows within EXP ± 2 in a row (R40). -/
  good : Nat := 0
  /-- A search or a frozen-loop judgement stands before acquisition (R58). -/
  judging : Bool := false
  /-- First lock since reset has been declared (R46): TIM runs and DT72 counts. -/
  epochSet : Bool := false
  /-- Running time of the holdover timer's start (R55). -/
  holdAt : Option Nat := none
  /-- DT of the last good reference edge of the present or last coast (R56). -/
  lastGood : Int := 0
  /-- Running time of the last lock declaration (R393, Table 1 of ch. 14). -/
  lockAt : Option Nat := none
  /-- TPLL_FREQ waits for lock held 10 ms. -/
  freqHold : Bool := false
  /-- Running time of the acceptance of a re-acquiring TB.SET_TPLL or band command (R37, R333). -/
  reacqAt : Option Nat := none
  /-- The band slots stored (R42). -/
  slots : Tab BandSlot := []
  /-- The fractional setting that a band hop has loaded (R42); none: the one that R38 derives from REF_FREQ_HZ. -/
  fracHop : Option Nat := none
  /-- DT of the last lock declaration that ended a coast: windows open before it held COAST (R56). -/
  coastEnd : Int := 0
  /-- The last 65 AON periods in fine units, oldest first: 64 and the one that a loss may drop; running time at which
  the last of them ended (R54). -/
  aonHist : List Nat := []
  aonAt : Nat := 0
  /-- AON calibration: mean of the last 64 periods, frozen out of lock. Reset: nominal 31,250 ns (log entry 7). -/
  aonCal : Nat := 256000000
  /-- Bad AON periods in a row and good ones in a row since an AON fault (R388). -/
  aonBad : Nat := 0
  aonGood : Nat := 0
  /-- DT of the last slew step in FOLLOW mode (R61). -/
  slewAt : Int := 0
  /-- DT of the last spread transfer and whole ticks transferred (R50). -/
  ssAt : Int := 0
  ssTicks : Nat := 0
  spll : Pll := {}
  npll : Pll := {}
  /-- SD_REFCLK counts present. -/
  sdPresent : Bool := false
  /-- A divider restart waits for its quiet interval (R47). -/
  restart : Bool := false
  /-- A divider restart by HUDDLE_IN waits for its quiet interval (R47, R281). -/
  huddleWait : Bool := false
  /-- A follower's captured phase step waiting for its frame boundary (R282), fine units. -/
  stepWait : Option Int := none
  /-- Steps that device time has taken (the model's own field; log entry 122). -/
  era : Nat := 0
  /-- What the accountant's count of its buckets is ahead of device time: epochs that were loaded (R85; log entry 20). -/
  accOfs : Int := 0
deriving DecidableEq, Repr

/-! ### Umpire (ch. 14) -/

/-- A decision that waits to be dealt with (R377, R379). -/
structure Decision where
  bit : Nat
  obj : Nat := 0
  detail : Nat := 0
  /-- Its decision time, in device time and in running time (R379). -/
  at_ : Int := 0
  up : Nat := 0
  /-- EM_TRIP whose source is in TRIP_SAFE_MAP. -/
  force : Bool := false
deriving DecidableEq, Repr

/-- Alert suppression of one code (R378). -/
structure Supp where
  lastAt : Option Nat := none
  count : Nat := 0
deriving DecidableEq, Repr

/-- The Umpire (ch. 14). -/
structure Safe where
  /-- SAFE. Reset 1. -/
  safe : Bool := true
  /-- SAFE_N_LOW: the ball is driven low. Reset 1 at reset release (Table 4 of ch. 11). -/
  safeNLow : Bool := true
  selftest : Bool := true
  confirmPending : Bool := false
  /-- Running time the present pair was published (R394). -/
  pubAt : Nat := 0
  firstCause : Nat := 1
  lastCode : Nat := 1
  entries : Nat := 1
  entryDt : Int := 0
  /-- Running time of the decision that entered (R379). -/
  entryUp : Nat := 0
  seen : Nat := 0
  /-- ACTIVE. Reset 0x1. -/
  active : Nat := 1
  confirmedEpoch : Nat := 0
  /-- Running time of the last accepted confirmation; none before the first. -/
  confirmAt : Option Nat := none
  /-- Running time HOST_LIVE_MS was last set (R395). -/
  liveAt : Nat := 0
  ceTotal : Nat := 0
  /-- Running times of the corrected errors of the last 1 s, newest first; the most that a 1 s window has held over
  CE_LIMIT and that is not judged yet; and the memory of the last (R389). -/
  ceAt : List Nat := []
  ceOver : Nat := 0
  ceMem : Nat := 0
  /-- Alerts per code: the last sent and the number held back since (R378). -/
  supp : Tab Supp := []
  alertsSuppressed : Nat := 0
  /-- Overflow counters of crossings 3 and 5 (R28). Reset 0. -/
  xing3 : Nat := 0
  xing5 : Nat := 0
  /-- Running time of the most recent decision (R379, R382). -/
  decUp : Option Nat := none
  /-- Silent frames per receive channel, and the channels that are dead (value 1; R396). -/
  deadCnt : Tab Nat := []
  deadOn : Tab Nat := []
  /-- Receive channels that timed an event, and tiles that acquired a shot, since the last FRAME (value 1; R396). -/
  deadSeen : Tab Nat := []
  deadShots : Tab Nat := []
  tempInferred : Int := 0
  tempSensor : Int := 0
  /-- Running time of the last watchdog service; none until firmware serves it (R387). -/
  wdAt : Option Nat := none
  /-- ALERT_SEQ of the last alert (R358). Reset 0. -/
  alertSeq : Nat := 0
  /-- Decisions of the present step (empty between steps). -/
  todo : List Decision := []
  /-- Plausibility history: sensor samples in a row that are identical, and the inferred temperatures of the checks among
  the last 1,000 of them, each with the length of the run then (R393). -/
  sameCnt : Nat := 0
  sameVal : Int := 0
  sameInf : List (Nat × Int) := []
  missing : Nat := 0
  /-- Plausible checks in a row while TEMP_IMPLAUSIBLE is active. -/
  plausCnt : Nat := 0
  /-- Running time of the last heartbeat (R397), and of reset release (R402). -/
  heartAt : Nat := 0
  since : Nat := 0
deriving DecidableEq, Repr

/-! ### Power, temperature, boot and MRAM (ch. 15) -/

/-- A saved configuration image (R319, R425): its records. -/
structure Image where
  recs : List (Nat × Obj) := []
deriving DecidableEq, Repr

/-- A copy of the image directory (R425): its sequence number; the valid slots, each with the CRC-32C of its image; the boot
slot; the copy's own CRC-32C; and whether its page is whole. -/
structure ImageDir where
  seqNo : Nat := 0
  slots : List (Nat × Nat) := []
  boot : Option Nat := none
  crc : Nat := 0
  whole : Bool := false
deriving DecidableEq, Repr

/-- What a queued MRAM write stores (R424 to R426). -/
inductive NvmJob where
  | journal (upto : Nat)
  | userCopy (copy : Nat) (vals : List (Nat × Obj)) (left : Nat)
  | imageInvalidate (slot : Nat)
  | imagePage (slot : Nat) (img : Image) (left : Nat)
  | imageValid (slot : Nat)
  | imageErase (slot : Nat)
  | imageSelect (slot : Option Nat)
  | bootSlot (slot : Nat)
  | log (n : Nat)
deriving DecidableEq, Repr

/-- A user calibration copy in MRAM (R264): active words by configuration key, its sequence number, the device identity
and the CRC-32C written with them, and whether its pages are whole. -/
structure UserCopy where
  vals : List (Nat × Obj) := []
  seqNo : Nat := 0
  ident : Nat := 0
  crc : Nat := 0
  valid : Bool := false
deriving DecidableEq, Repr

/-- A log record (R427). -/
structure LogRec where
  kind : Nat := 0
  detail : Nat := 0
  dt : Int := 0
  jseq : Nat := 0
  /-- Running time of the event, from which the 1 s to its writing counts (R427). -/
  up : Nat := 0
deriving DecidableEq, Repr

/-- The contents of the MRAM, which survive reset (R408, R424). Factory contents are given by the part; the spec
states none: log entry 8. -/
structure Mram where
  mirror : List JEntry := []
  /-- Copy 0 leaves the factory valid with a user layer of zero (R264). -/
  copy0 : UserCopy := { valid := true }
  copy1 : UserCopy := {}
  images : Tab Image := []
  /-- The two copies of the image directory; as delivered neither has been written (log entry 8). -/
  dir0 : ImageDir := {}
  dir1 : ImageDir := {}
  log : List LogRec := []
  /-- QSPI firmware slot chosen by SYS.SELECT_BOOT (R330). -/
  bootSlot : Nat := 0
deriving DecidableEq, Repr

/-- Power, temperature, boot and MRAM runtime (ch. 15). -/
structure Pwr where
  /-- VDDIO_33 is up: the power-on detector sees it at or above 2.9 V (R408). -/
  io33 : Bool := false
  /-- VDDIO_33 has been within tolerance since: SAFE_N is driven (R406). -/
  ioTol : Bool := false
  /-- RESET_N or the power-on detector holds the device in reset. -/
  inReset : Bool := true
  /-- RESET_N is low; VDD_CORE is at or above 0.68 V (R408). -/
  rstLow : Bool := true
  coreOk : Bool := true
  /-- The hard trip holds the device in reset until RESET_N is released (R421). -/
  tripHold : Bool := false
  /-- Shutdown (R419). -/
  shut : Bool := false
  /-- A soft shutdown is in progress (R418): running time of the decision. -/
  shutAt : Option Nat := none
  /-- SHUTDOWN_CAUSE: 0 none, 1 soft, and its temperature; survives RESET_N (R408). -/
  sdCause : Nat := 0
  sdTemp : Int := 0
  /-- The hard thermal latch; survives RESET_N (R421). -/
  hardLatch : Bool := false
  /-- LAST_SHUTDOWN as taken at this boot. -/
  lastShut : Nat := 0
  tempNow : Int := 0
  tempMax : Int := -32768
  tempMin : Int := 32767
  /-- BAND_DECIDED; 7 before the first sample. -/
  band : Nat := 7
  bandAt : Nat := 0
  bandChanges : Nat := 0
  /-- Samples at or above 125 °C in a row (R417). -/
  hot : Nat := 0
  /-- The last up to 1,000 samples, newest first (R393). -/
  samples : List Int := []
  /-- A sample below 110 °C has been taken since reset release (R422, R423). -/
  cool : Bool := false
  droop1 : Bool := false
  droop2 : Bool := false
  /-- SYS divider in force as its log2 (0, 1, 2) (R414). -/
  div : Nat := 0
  /-- Running time since when the demand for ÷4, and for any division, is gone (R413). -/
  relAt : Option Nat := none
  relAt1 : Option Nat := none
  droopEvents : Nat := 0
  /-- Running time of the start of the present droop episode and its deepest divider (R427). -/
  droopAt : Nat := 0
  droopDeep : Nat := 0
  throttleFine : Nat := 0
  bootImageBad : Bool := false
  nvmFails : Nat := 0
  pagesWritten : Nat := 0
  /-- MRAM page writes waiting, and the one in progress with its retries (R424, R426). -/
  nvmQ : List NvmJob := []
  nvmNow : Option NvmJob := none
  nvmRetry : Bool := false
  /-- A change of divider is held in the log buffer: records not written yet (R427). -/
  logBuf : List LogRec := []
  mram : Mram := {}
  /-- QSPI slot booted, and the slot being tried. -/
  slot : Nat := 0
  triedOther : Bool := false
deriving DecidableEq, Repr

/-! ### Result queues and the switch (ch. 13) -/

/-- The header of a UDP frame of the device (R365, R366): VID 0 is untagged; with an R-TAG its sequence number (R364:
802.1CB). -/
structure UdpHdr where
  dstMac : Nat := 0
  srcMac : Nat := 0
  vid : Nat := 0
  pcp : Nat := 0
  rtag : Option Nat := none
  dstIp : Nat := 0
  srcIp : Nat := 0
  dstUdp : Nat := 0
  srcUdp : Nat := 0
deriving DecidableEq, Repr

/-- What a frame is: a transit frame, a UDP frame of the device, an 802.1AS message, or the answer of the ARP responder to a
station. Of the messages of two-step transmit a sync names its domain and its follow-up the gPTP time in ns at which it left;
the answer to a peer's delay request names the time in ns at which the request came, and its follow-up that at which the
answer left, both of the device's own count. -/
inductive FrameInfo where
  | transit
  | udp (h : UdpHdr)
  | sync (domain : Nat)
  | followUp (domain : Nat) (gptpNs : Int)
  | pdelay
  | pdelayResp (receivedNs : Int)
  | pdelayFollow (sentNs : Int)
  | arp (dstMac : Nat)
deriving DecidableEq, Repr

/-- A frame in the switch (R364, R369): its length on the wire, its admission level (0 C0 … 3 C3), the queue of a device
frame and the number of records it carries a fragment of, its header, and its content: all bytes of a transit frame, the
payload of a device frame. -/
structure Frame where
  len : Nat := 64
  cls : Nat := 3
  queue : Option Nat := none
  recs : Nat := 0
  info : FrameInfo := .transit
  bytes : List Nat := []
  /-- Running time at which its first byte has left, behind the preamble; 0 while it waits. -/
  began : Nat := 0
deriving DecidableEq, Repr

/-- What leaves the block while one command runs. -/
inductive Out where
  /-- Words written by DMA into the host ring of a queue at a byte offset (R360). -/
  | hostWrite (q off : Nat) (ws : List Word)
  /-- PROD written into a queue's index block (R360). -/
  | hostProd (q prod : Nat)
  | msix (vec : Nat)
  /-- Bytes on SPI_MISO (R299). -/
  | miso (bs : List Nat)
  /-- A frame that has finished on a port (R370). -/
  | frame (port : Nat) (f : Frame)
  /-- A message that the device originates on the Nolgil channel: its kind (Table 3 of ch. 10) and its fields. -/
  | nolgil (kind : Nat) (vals : List Int)
  /-- A received message relayed to the other side: upstream or downstream (R273). -/
  | nolgilRelay (up : Bool) (kind : Nat) (vals : List Int)
  /-- HUDDLE_OUT driven (R279). -/
  | huddleOut
  /-- A gate pulse edge at EMG of a channel: rising or falling, its programmed time, and the spread cycle and fine
  code it is launched at (R69). -/
  | edge (ch : Nat) (rise : Bool) (at_ cycle code : Int)
  /-- A steering or driver word shifted out on a link: its bits in the order they leave on STL_DAT (R125). -/
  | link (n : Nat) (driver : Bool) (bits : List Bool)
  /-- The report of a refused volley: channel, shot sequence number, the programmed time of its first failed edge where
  an edge failed (R74). -/
  | refusedVolley (ch seq : Nat) (edge : Option Int)
  /-- The report of a stream header whose BLOCK_SEQ does not follow the block before: expected and found (R131). -/
  | blockSeq (expected found : Nat)
deriving DecidableEq, Repr

/-- A datagram being filled for a network queue (R366): its fragments, and the records they belong to. -/
structure Dgram where
  frags : List (List Word) := []
  recs : Nat := 0
  firstAt : Nat := 0
deriving DecidableEq, Repr

/-- The running part of a queue (Table 1: PROD, RSEQ, DROPS; Table 12: CONS_SEEN; R360 interrupts; R366). `wait`: records,
as their fragments, that did not fit the free space last computed, until the device has read CONS (R361; log entry
123). `torn`: no port took an earlier fragment of the record that the next datagram goes on with. -/
structure QRun where
  prod : Nat := 0
  rseq : Nat := 0
  drops : Nat := 0
  cons : Nat := 0
  irqAt : Option Nat := none
  irqWait : Bool := false
  dgram : Dgram := {}
  wait : List (List (List Word)) := []
  torn : Bool := false
deriving DecidableEq, Repr

/-- Class counters (Table 12). -/
structure ClsCnt where
  records : Nat := 0
  dropsAdmit : Nat := 0
  dropsRing : Nat := 0
deriving DecidableEq, Repr

/-- Result queues and alerts (ch. 13). -/
structure Outq where
  q : Tab QRun := []
  /-- The C0 stores of R362 per destination: host ring, network, SPI; each held alert is its queue and its body. -/
  c0Host : List (Nat × List Word) := []
  c0Net : List (Nat × List Word) := []
  c0Spi : List (Nat × List Word) := []
  /-- Destinations whose first merge is reported, as bits, until fewer than 128 alerts are held for them (R362). -/
  merged : Nat := 0
  /-- SPI alert buffer (R363): NEWEST_SEQ, ACKED_SEQ, SEEN_SEQ, the slots 1 to 31. -/
  newest : Nat := 0
  acked : Nat := 0
  seenSeq : Nat := 0
  slots : Tab (List Word) := []
  cls : Tab ClsCnt := []
  telemSeq : Nat := 0
  /-- Running time at which the telemetry period in progress began (R371). -/
  telemAt : Nat := 0
  /-- A telemetry period has begun whose record is not started (R371). -/
  telemDue : Bool := false
  telemSkipped : Nat := 0
  /-- Datagram number of each route (R366). -/
  dgNum : Tab Nat := []
  /-- What left the block during the last command (the model's own field; log entry 4). -/
  outs : List Out := []
deriving DecidableEq, Repr

/-- A gate control list (R364: 802.1Qbv): cycle and base in ns, entries (gates, interval in ns). -/
structure GateList where
  cycleNs : Nat := 0
  baseNs : Nat := 0
  entries : List (Nat × Nat) := []
deriving DecidableEq, Repr

/-- The running part of a switch port (Table 12, R364 to R370). -/
structure Port where
  link : Bool := false
  asCapable : Bool := false
  gmKnown : Bool := false
  propDelay : Nat := 0
  preempt : Bool := false
  admitDrops : Nat := 0
  tx : Nat := 0
  qciDrops : Nat := 0
  cbDiscards : Nat := 0
  gptpOfs : Int := 0
  /-- Running time of the last sync and peer-delay messages sent. -/
  syncs : Nat := 0
  pdelays : Nat := 0
  /-- The 8 egress queues, those not empty. -/
  egress : Tab (List Frame) := []
  /-- The frame on the line with its queue, and a preemptable frame suspended by it (R370). -/
  sending : Option (Nat × Frame) := none
  paused : Option (Nat × Frame) := none
  /-- Running time at which the frame on the line, or the rest of it, began; bytes of it and of the suspended frame that
  were sent before (R370). -/
  sendAt : Nat := 0
  sentB : Nat := 0
  pausedB : Nat := 0
  /-- The operational gate list, the interval in force with its end on the schedule's scale in 0.1 ns, and the list
  waiting for its base time (R364). -/
  oper : Option GateList := none
  gateIdx : Nat := 0
  gateEnd : Int := 0
  gatesOpen : Nat := 255
  hold : Bool := false
  admin : Option GateList := none
  /-- The schedule ran on gPTP time at its last change (R367). -/
  onGptp : Bool := false
deriving DecidableEq, Repr

/-- A flow meter and the blocking of its filter (802.1Qci): tokens in units of 1/8,192,000,000 bit, running time of the
last update, filled once. -/
structure Meter where
  tokens : Nat := 0
  at_ : Nat := 0
  primed : Bool := false
  blocked : Bool := false
deriving DecidableEq, Repr

/-- 802.1CB of one stream: generation counter, and vector recovery (highest number, history bits, take any, running time
of the last frame accepted). -/
structure CbRun where
  gen : Nat := 0
  at_ : Nat := 0
  high : Nat := 0
  hist : Nat := 0
  takeAny : Bool := true
deriving DecidableEq, Repr

/-- The TSN switch (R364 to R372). -/
structure Sw where
  ports : Tab Port := []
  /-- Learned addresses: source MAC, VLAN, port; newest first, at most 4,096. -/
  macs : List (Nat × Nat × Nat) := []
  meters : Tab Meter := []
  cb : Tab CbRun := []
deriving DecidableEq, Repr

/-! ### Teams (ch. 10) -/

/-- The team link (ch. 10, Table 6). -/
structure Team where
  formed : Bool := false
  ofsValid : Bool := false
  stepPending : Bool := false
  /-- Δ of a STEP_NOTICE held (R282). -/
  stepDelta : Option Int := none
  uplink : Bool := false
  downlink : Bool := false
  watchAlarm : Bool := false
  peerSafe : Nat := 0
  peerCoast : Nat := 0
  peerIdle : Nat := 0
  peerLock : Nat := 0
  /-- Members that run a calibration, as last reported (R257, R261; log entry 110). -/
  peerCal : Nat := 0
  hopUp : Nat := 0
  skewCount : Nat := 0
  linkDrops : Nat := 0
  huddleRunning : Nat := 0
  unannounced : Nat := 0
  hopOfs : Int := 0
  /-- The last up to 1,024 skew-watch estimates in half fine units, newest first, and the hop's reference in fine units
  (R275, R278). -/
  watch : List Int := []
  watchRef : List Int := []
  /-- A CAL.TEAM step has set the reference. -/
  watchHas : Bool := false
  /-- Followers whose FORM replies have reached the master (R270). -/
  heard : List Nat := []
  /-- Running time at which the master drives HUDDLE_OUT (R279), and at which CAL.TEAM starts by itself (R280). -/
  huddleAt : Option Nat := none
  autoCalAt : Option Nat := none
  /-- The common arming times to come in own device time, one for each arm that was accepted (R187). -/
  armAt : List Int := []
  /-- Pending team triggers: originator and team time (R187). -/
  trigs : List (Nat × Int) := []
  /-- DT at which a coast of the master or of the reference path last ended, and at which pixels last ceased to be
  TEAM_STALE (R285). -/
  coastEnd : Int := 0
  staleEnd : Int := 0
  /-- TEAM_OFS to load at the apply time D, in own device time (R261). -/
  calApply : Option (Int × Int) := none
  /-- A step of this device is pending while windows are open: from this DT pixels are TEAM_STALE (R282). -/
  staleAt : Option Int := none
deriving DecidableEq, Repr

/-! ### Emitter channels (ch. 03) -/

/-- A pulse of a volley: the programmed time of its rising edge without K terms, its width before stretch in fine units
(R67, Table 2 of ch. 03), and its stretch in each band as the table stood when the shot was expanded (R81, R107). -/
structure Pulse where
  rise : Int := 0
  width : Nat := 0
  stretch : List Nat := []
deriving DecidableEq, Repr

/-- A volley in a channel's queue (R72 to R75), pending or launched lately: its shot, its pulses, how many of its
edges have launched, and whether the rest was discarded. -/
structure Vol where
  seq : Nat := 0
  pulses : List Pulse := []
  launched : Nat := 0
  dead : Bool := false
deriving DecidableEq, Repr

/-- A volley on its way to the edge scheduler (crossing 1 of R27). -/
structure Offer where
  ch : Nat := 0
  seq : Nat := 0
  /-- The pulses of its pattern at shot time + DITHER + EM_DELAY. -/
  pulses : List Pulse := []
  /-- CURRENT_CODE of the descriptor (R84). -/
  code : Nat := 0
  /-- Device time of its expansion. -/
  arrive : Int := 0
deriving DecidableEq, Repr

/-- An emitter channel (ch. 03). -/
structure EmCh where
  /-- OUT_STATE: 0 DOWN, 1 IDLE, 2 ARMED. -/
  out : Nat := 0
  /-- The arm of OUT_CTRL awaits the first eligible volley; the bias has settled (R93). -/
  armPend : Bool := false
  settled : Bool := false
  /-- ARMED is to become this state after the volley in progress (R93). -/
  leave : Option Nat := none
  vols : List Vol := []
  /-- Energy buckets by index, for the windows of 10 µs, 1 ms and 100 ms (R85). -/
  b10us : Tab Nat := []
  b1ms : Tab Nat := []
  b100ms : Tab Nat := []
  /-- TRIP_LATCHED and TRIP_FIRST (R90, Table 10). -/
  latched : Bool := false
  tripFirst : Nat := 0
  /-- Falling edges forced by a trip or the safe state that the loopback has still to see (R96: TRIP_CUT). -/
  cuts : Nat := 0
  /-- Launched edges whose loopback comparison is due: polarity and programmed time (R96). -/
  lbWait : List (Bool × Int) := []
  /-- Errors of the last up to 4,096 matched edges, newest first (R98). -/
  lbErr : List Int := []
  lbKind : Nat := 0
  energyRefused : Nat := 0
  collision : Nat := 0
  late : Nat := 0
  tripSkip : Nat := 0
  outOff : Nat := 0
  lbFaults : Nat := 0
deriving DecidableEq, Repr

/-! ### Playbook (ch. 04) -/

/-- PB_STATE (Table 11). -/
inductive PbSt where
  | idle | running | starved | skipping | stopping | fault
deriving DecidableEq, Repr

/-- Where the walk of R110 stands: about to fetch a descriptor, holding one to expand, waiting for the decision
point of its segment, or stopped. -/
inductive Walk where
  | none
  | fetch
  | expand (d : Obj) (anchor : Int)
  | decide
deriving DecidableEq, Repr

/-- A word waiting for its update edge on a link (R125 to R127). -/
structure LinkWord where
  at_ : Int := 0
  driver : Bool := false
  word : Nat := 0
deriving DecidableEq, Repr

/-- A steering link: the words placed, when it is free again, the word last taken over by the receiver. -/
structure Link where
  words : List LinkWord := []
  freeAt : Int := 0
  last : Nat := 0
deriving DecidableEq, Repr

/-- The Playbook (ch. 04). -/
structure Pb where
  st : PbSt := .idle
  starve : Nat := 0
  faultCause : Nat := 0
  /-- Fault that ended expansion; PB_STATE becomes fault at the halt (R111). -/
  faulting : Nat := 0
  underrun : Bool := false
  latch : Option Nat := none
  /-- Jump slots whose ARMED is set, rising (R109). -/
  armed : List Nat := []
  stack : List (Nat × Nat) := []
  seg : Nat := 0
  /-- The segment entry copied at entry (R108). -/
  entry : Obj := []
  /-- Descriptors in this pass: LENGTH, or DESC_COUNT of the header (R131). -/
  len : Nat := 0
  /-- A streamed segment has its header. -/
  header : Bool := false
  /-- Index of the next descriptor of the segment, and of the one last reached (CUR_INDEX, Table 11 of ch. 04). -/
  idx : Nat := 0
  curIdx : Nat := 0
  walk : Walk := .none
  /-- The next descriptor is anchored by the re-phase rule (R133). -/
  rephase : Bool := true
  anchor : Int := 0
  /-- Origin of the last expanded shot since the run started or resumed (R112, R132). -/
  origin : Option Int := none
  /-- Earliest DT at which the next expansion may begin: completion of the previous one (R114). -/
  expandAt : Int := 0
  /-- The last descriptor of the segment was passed while skipping (R112). -/
  passed : Bool := false
  /-- A shot of the run has been expanded (R106). -/
  anyShot : Bool := false
  /-- PB.STOP: 0 AT_SHOT, 1 AT_FRAME, 2 AT_SEGMENT (R117). -/
  stop : Option Nat := none
  frame : Nat := 0
  shots : Nat := 0
  skipped : Nat := 0
  underruns : Nat := 0
  lateSkip : Nat := 0
  steerLate : Nat := 0
  jumpReplaced : Nat := 0
  discard : Nat := 0
  gaps : Nat := 0
  forced : Nat := 0
  mirrorLosses : Nat := 0
  jumpsTaken : Nat := 0
  scSteps : Nat := 0
  overflow : Nat := 0
  bad : Nat := 0
  rd : Nat := 0
  wr : Nat := 0
  hostCons : Nat := 0
  /-- The host's producer index, as rung (R129). -/
  hostProd : Nat := 0
  /-- Last datagram sequence number accepted, and a malformed datagram met since (R130). -/
  netSeq : Option Nat := none
  netBad : Bool := false
  /-- BLOCK_SEQ of the last block taken (R131). -/
  blockSeq : Option Nat := none
  /-- A gap lies in the ring before this ring position (R130). -/
  gapAt : List Nat := []
  /-- The running grid: the shot clock runs; its change point plus phase, its spacing, events counted on it, and
  events counted since the first lock (R119, R123). -/
  gridOn : Bool := false
  gridT : Int := 0
  gridPer : Nat := 819200000
  gridK : Nat := 0
  /-- Change points still ahead: the grid before each, by origin and spacing, whose events count until then (R119). -/
  gridOld : List (Int × Nat × Int) := []
  scEvent : Nat := 0
  /-- MP0 edge times, newest first (R123), edges in tolerance in a row, lock and scan direction (R124). -/
  mpEdges : List Int := []
  mpGood : Nat := 0
  mirrorLocked : Bool := false
  scanDir : Bool := false
  links : Tab Link := []
  /-- Device times of the update edges of the last 64 µs on active links (R145, R151), newest first. -/
  upds : List Int := []
  /-- The last current code sent since PB.START (R127). -/
  lastCode : Option Nat := none
  /-- Volleys on their way to the scheduler (R72). -/
  offers : List Offer := []
  /-- The frame whose boundary was last passed by a shot origin, for CMP_DEFERRED and STEP_DEFERRED (R155, R252). -/
  bound : Nat := 0
  /-- Boundaries that no shot origin has passed yet: the frame, and the origin of its first expanded shot, oldest first. -/
  bnds : List (Nat × Int) := []
deriving DecidableEq, Repr

/-! ### Comparators (ch. 05) -/

/-- A change that waits for the quiet interval of a frame boundary: the frame that begins there, the key of the object
changed and its new value (R155, R168, R199). -/
structure BndChg where
  frame : Nat
  key : Nat
  obj : Obj
deriving DecidableEq, Repr

/-- A receive comparator (Table 9 of ch. 05): the word in effect (R155), the timing output, ACTIVE, settling, the
output's latest transitions (newest first), counters. -/
structure Rx where
  app : Option Word := none
  out : Bool := false
  active : Bool := false
  settling : Bool := false
  trans : List (Int × Bool) := []
  blanked : Nat := 0
  filteredOut : Nat := 0
  high : Nat := 0
deriving DecidableEq, Repr

/-- A monitor comparator or mirror input (Table 10 of ch. 05, R149 to R156). -/
structure Mon where
  /-- The outputs of MC_TH_HI and MC_TH_LO. -/
  hiOut : Bool := false
  loOut : Bool := false
  /-- The outputs are held asserted: not resolved (R153). Reset: held. -/
  held : Bool := true
  /-- Threshold results: the run's result (true beyond, false clear) and its length; resolved value (R153). -/
  runHi : Option Bool := none
  runHiN : Nat := 0
  runLo : Option Bool := none
  runLoN : Nat := 0
  resHi : Option Bool := none
  resLo : Option Bool := none
  /-- The routed output is held at this value after a change (R156), since this running time. -/
  hold : Option Bool := none
  holdAt : Nat := 0
  /-- DT of the last raw rise. Filter samples, newest first, each with the raw rise before it, and the filtered output. -/
  riseAt : Int := 0
  hist : List (Bool × Int) := []
  filt : Bool := true
  routed : Bool := true
  assertCount : Nat := 0
  /-- RESOLVE_PERIODS of the present count. -/
  periods : Nat := 0
  unresolvedSeen : Bool := false
  unresolved : Bool := false
  /-- DT of the raw crossing that began the qualifying samples (R158). -/
  crossAt : Int := 0
  /-- The filtered output has asserted and no MP0 edge has been taken from that assertion yet (R158). -/
  crossNew : Bool := false
deriving DecidableEq, Repr

/-- A timed event on its way through qualification (R144, R198): channel in the tile, TDC time, CMP_STATE HIGH, the
buffer it is tagged with (R203), window (0 OUT, 1 PRE, 2 POST, 3 HOLD), receive time or time from the reference
point in LSBs, pre-window bin, shot, and TIME (in LSBs) and SHOT_TAG of its record (R180). -/
structure PendEv where
  c : Nat := 0
  t : Int := 0
  high : Bool := false
  bufB : Bool := false
  win : Nat := 0
  r : Int := 0
  preBin : Nat := 0
  tag : Nat := 0
  rt : Int := 0
  rtag : Nat := 0
  /-- What the read of its bin finds in the granule: 0 good, 1 corrected, 2 uncorrectable (R389). -/
  ecc : Nat := 0
  /-- PILE stood on the channel when it was timed (R166). It was timed before the recorder's present arming (R178). -/
  pile : Bool := false
  noRec : Bool := false
  /-- As they stood when it was timed: the receive word, the tile's receive word, the coincidence word and word 0 of
  WIN_REC_CFG; and the time from the event to its decision (R190, R199; log entry 31). -/
  rxw : Word := 0
  tileW : Word := 0
  coinW : Word := 0
  recW : Word := 0
  wait : Int := 0
  /-- The decision, once it is made, which the recorder still has to take: blanked, filtered, rejected by coincidence
  (R144, R198). -/
  verdict : Option (Bool × Bool × Bool) := none
deriving DecidableEq, Repr

/-! ### Shot windows, recorder and histograms (ch. 06 and 07) -/

/-- How a tile judged a shot (R169; late-skipped R115; passed while skipping R132; out of service R256). -/
inductive Judge where
  | acquired | refused | disarmed | late | skipped | outOfService
deriving DecidableEq, Repr

/-- A shot as one tile holds it from its expansion on. -/
structure ShotEnt where
  seq : Nat := 0
  judge : Judge := .acquired
  origin : Int := 0
  /-- Pre-window and post-window in ticks (Table 4 of ch. 06). -/
  p : Nat := 0
  l : Nat := 0
  /-- Start of the pre-window: max (O − P, A_t). -/
  preAt : Int := 0
  /-- A_t after this shot. -/
  rearm : Int := 0
  /-- The profile arms the tile: the flags below act. -/
  arms : Bool := true
  opens : Bool := false
  closes : Bool := false
  /-- CLOSE added at 65,535 shots (R105). -/
  frameStart : Bool := false
  frame : Nat := 0
  tag : Nat := 0
  volleyRefused : Bool := false
  steerLate : Bool := false
  halt : Bool := false
  /-- Word 0 of HIST_TILE_CFG and the words of ECHO_Q_CFG as they stood at the expansion (R196, R221). -/
  histW : Word := 0
  echoW : Obj := []
deriving DecidableEq, Repr

/-- The accumulation of one pixel on one channel (R173, R201, R205, R255, R285): counts, flags and bins. -/
structure Pix where
  opened : Bool := false
  /-- The pixel has been extended at least once and awaits a buffer (R204). -/
  ext : Bool := false
  ord : Nat := 0
  frame : Nat := 0
  tag : Nat := 0
  k : Nat := 6
  wide : Bool := false
  ofs : Nat := 0
  shots : Nat := 0
  shotsAcq : Nat := 0
  holdSkips : Nat := 0
  preShort : Nat := 0
  skipped : Nat := 0
  calSkips : Nat := 0
  calGen : Nat := 0
  calBand : Nat := 0
  /-- CAL_GEN at the first acquired shot of the merged pixel in progress (R205, R255); none before it. -/
  genAcq : Option Nat := none
  origin : Option Int := none
  /-- End of the last window of its acquired shots (R56, R285). -/
  winEnd : Option Int := none
  /-- PRE_EXPO sums in receive LSBs, and PRE_BIN counts, bins 0 to 7. -/
  preExpo : List Nat := [0, 0, 0, 0, 0, 0, 0, 0]
  preBin : List Nat := [0, 0, 0, 0, 0, 0, 0, 0]
  postTimed : Nat := 0
  pile : Nat := 0
  outLow : Nat := 0
  outHigh : Nat := 0
  coincRej : Nat := 0
  satEvents : Nat := 0
  extCount : Nat := 0
  coast : Bool := false
  slew : Bool := false
  steerLate : Bool := false
  haltClose : Bool := false
  calMixed : Bool := false
  calStale : Bool := false
  teamCoast : Bool := false
  teamStale : Bool := false
  ecc : Bool := false
  bins : Tab Nat := []
  /-- ECHO_Q_CFG latched at the first merged OPEN (R221); synchronising resets at the origin of the last shot. -/
  echoW : Obj := []
  rst : Nat := 0
  /-- Range zero of the channel at that OPEN (R249). -/
  z : Int := 0
  /-- Sequence numbers of the acquired shots merged, newest first, and of the shots that count as refused (R76). -/
  acqSeqs : List Nat := []
  refSeqs : List Nat := []
deriving DecidableEq, Repr

/-- A pixel handed to its quadrant's engine (R203): channel, close instant, accumulation. -/
structure Closed where
  ch : Nat := 0
  at_ : Int := 0
  /-- The closure it belongs to: the steps that device time had taken, and the close instant (R217, R229). -/
  era : Nat := 0
  inst : Int := 0
  phaseOfs : Int := 0
  pix : Pix := {}
deriving DecidableEq, Repr

/-- A receive channel's TDC and histogram side (ch. 06, ch. 07). -/
structure Chan where
  eventsTimed : Nat := 0
  pileTotal : Nat := 0
  recWritten : Nat := 0
  satTotal : Nat := 0
  coincTotal : Nat := 0
  outSpan : Nat := 0
  extRun : Nat := 0
  /-- ACC_BUF: B accumulates. -/
  accB : Bool := false
  /-- The other buffer is held by the engine, and the DT of its release. -/
  held : Bool := false
  relAt : Option Int := none
  /-- After a halt the channel waits for the release to close (R206). -/
  haltWait : Bool := false
  /-- DT of the last timed event (R165). -/
  lastEvt : Option Int := none
  /-- A lost event since the last timed event, and one since the last record that an event not recorded has passed on
  (R166). -/
  pileMark : Bool := false
  pileCarry : Bool := false
  /-- Pixels read for dumps since PB.START (R208). -/
  dumpCnt : Nat := 0
  /-- Qualified pre-window events and lost events of the shot about to be acquired. -/
  preBin : List Nat := []
  prePile : Nat := 0
  pix : Pix := {}
deriving DecidableEq, Repr

/-- The window states of Table 2 of ch. 06. -/
inductive WinSt where
  | disarmed | armed | post | hold
deriving DecidableEq, Repr

/-- The recorder states of Table 8 of ch. 06. -/
inductive RecSt where
  | disarmed | hold | armed | filling | frozen | reading
deriving DecidableEq, Repr

/-- A marker record on its way to the rings in time order (R177, R181): its kind, its time, its TIME field, which for a
HOLDOFF_SKIP still ahead is not known yet, and its SHOT_TAG. -/
structure RecMark where
  kind : Nat := 0
  t : Int := 0
  time : Option Nat := none
  tag : Nat := 0
deriving DecidableEq, Repr

/-- The event recorder of a tile (R177 to R191). -/
structure Rec where
  st : RecSt := .disarmed
  cause : Nat := 0
  trigDev : Nat := 0
  prePartial : Bool := false
  shortMask : Nat := 0
  holdIgn : Nat := 0
  busy : Nat := 0
  trigDt : Int := 0
  captures : Nat := 0
  armIgnored : Nat := 0
  armDt : Int := 0
  /-- The layout of the capture (R177). -/
  cascade : Bool := false
  /-- Reference point and reference shot of records outside the pre-window (R180). -/
  refAt : Int := 0
  refTag : Nat := 0
  /-- Rings, newest record first; ring 0 alone in cascade mode. Records written to each since arming: the write
  pointers (R177, R182). -/
  rings : Tab (List Word) := []
  wr : Tab Nat := []
  /-- Markers not yet written. -/
  marks : List RecMark := []
  /-- The trigger time, as device time has stepped since, that divides history and aftermath (R183). -/
  split : Int := 0
  /-- The freeze whose earlier records still pass through qualification: its time (R185, R199). -/
  freezeAt : Option Int := none
  /-- The time of the last freeze, as device time has stepped since: the end of the capture held (R56). -/
  frzDt : Int := 0
  /-- Pending team triggers that this tile's recorder has displaced (R187). -/
  gone : List (Nat × Int) := []
  /-- The local trigger of a team tile in the present 1 ns cycle, its cause and time, which goes over the link once the
  cycle is over (R184, R187). -/
  sent : Option (Nat × Int) := none
  /-- Records taken at or after the trigger per ring, and history kept. -/
  aft : Tab Nat := []
  hist : Tab Nat := []
  /-- POST_TRIG_COUNT latched at the trigger; the next event record carries TRIG. -/
  postCnt : Nat := 0
  trigMark : Bool := false
  /-- Result queue of a read that waits for the freeze or runs (R188). -/
  readQ : Option Nat := none
  /-- Rate windows: index of the current one, and events per channel in it (R183). -/
  rateIdx : Int := 0
  rateCnt : Tab Nat := []
  rateHit : Bool := false
  coasted : Bool := false
  lossDt : Int := 0
deriving DecidableEq, Repr

/-- A tile's windows, recorder and histogram side. -/
structure Tile where
  win : WinSt := .disarmed
  /-- The re-arm time A_t as the expansions have set it (R169). -/
  at_ : Int := 0
  /-- Shots judged and not yet past, oldest first; the shot whose post-window is open. -/
  shots : List ShotEnt := []
  cur : Option ShotEnt := none
  /-- End of the last acquired post-window (R202), and its re-arm time. -/
  lastEnd : Int := 0
  rearm : Int := 0
  /-- Pixels opened on the tile in this frame (R209), and that frame. -/
  ord : Nat := 0
  ordFrame : Nat := 0
  /-- As expanded so far: a pixel is open on the tile, its shots since OPEN (R105). -/
  exOpen : Bool := false
  exShots : Nat := 0
  shotsAcq : Nat := 0
  holdoffSkip : Nat := 0
  preShort : Nat := 0
  extensions : Nat := 0
  extRunMax : Nat := 0
  haltCloses : Nat := 0
  /-- Timed events whose qualification is not decided or whose record is still to come, and those decided lately that
  passed blanking and the majority filter: channel and DT (R198). -/
  pend : List PendEv := []
  past : List (Nat × Int) := []
  /-- WIN_EN as it is in effect, and the coincidence word in effect (changed in quiet intervals, R168, R199). -/
  winEn : Bool := false
  coinc : Option Word := none
  /-- Out of service for a calibration (R256), and leaving it. -/
  calOut : Bool := false
  calAsk : Bool := false
  rcd : Rec := {}
deriving DecidableEq, Repr

/-- Persistence of one quadrant (R209 to R213): slots of 8 rows of entries, tags (frame number, 15 bits) that are
valid, the clear of R213, counters. -/
structure Pers where
  rows : Tab (List (List Nat)) := []
  tags : Tab (Option Nat) := []
  clearing : Bool := false
  naPixels : Nat := 0
  sweepFrames : Nat := 0
deriving DecidableEq, Repr

/-! ### Echo extraction (ch. 08) -/

/-- A published echo before its persistence count (R232 to R235). -/
structure Echo where
  time : Nat := 0
  range : Nat := 0
  amp : Nat := 0
  width : Nat := 0
  score : Nat := 0
  edge : Bool := false
deriving DecidableEq, Repr

/-- What the chain gives for one pixel (Table 6 of ch. 08). -/
structure EchoRes where
  echoes : List Echo := []
  found : Nat := 0
  dropped : Nat := 0
  negDrops : Nat := 0
  bg : Nat := 0
  noise : Nat := 0
deriving DecidableEq, Repr

/-- A pixel with its results, in its pass or in the pipeline tail (R218, R219). -/
structure Done where
  px : Closed := {}
  res : EchoRes := {}
  bgInit : Bool := false
  bgNone : Bool := false
  fade : Bool := false
  bank : Nat := 0
  /-- Engine cycles left of the pass, or of the tail behind it, counted from a running time (R218, R414). -/
  left : Nat := 0
  since : Nat := 0
deriving DecidableEq, Repr

/-- A channel's background tracker (R222 to R226): ρ_t and the frozen value in 2⁻³², FROZEN_VALID, pixels still to
carry BG_INIT, and the synchronising resets taken. -/
structure Track where
  rho : Nat := 0
  frozen : Nat := 0
  valid : Bool := false
  initLeft : Nat := 0
  rst : Nat := 0
deriving DecidableEq, Repr

/-- The echo engine of a quadrant (ch. 08, Table 9). -/
structure Eng where
  /-- Closed pixels awaiting their pass, in the order they are taken (R24 stage 9). -/
  closed : List Closed := []
  pass : Option Done := none
  tail : List Done := []
  pixelsDone : Nat := 0
  /-- FADE_RUN, the bank faded from or active, the target, M and i (R229). -/
  run : Bool := false
  bank : Nat := 0
  target : Nat := 0
  m : Nat := 0
  pos : Nat := 0
  /-- The queued request: bank and M (R230). -/
  queued : Option (Nat × Nat) := none
  replaced : Nat := 0
  peaksDropped : Nat := 0
  negDrops : Nat := 0
  bgResets : Nat := 0
  /-- The closure in progress (Closed), and its template, FADE and BANK. -/
  closure : Option (Nat × Int) := none
  h : List Int := []
  hFade : Bool := false
  hBank : Nat := 0
  /-- Synchronising resets so far, the origins of FRAME shots that are resets to come, and the instants of those taken
  that a shot not yet merged may precede (R226). -/
  resets : Nat := 0
  frameResets : List Int := []
  resetAt : List Int := []
  /-- Synchronising resets at the last PB.START, its own among them. -/
  startRst : Nat := 0
deriving DecidableEq, Repr

/-! ### Calibration (ch. 09) -/

/-- A result of CAL.GET_RESULT (Table 13 of ch. 09). -/
structure CalRes where
  rms : Nat := 0
  peak : Nat := 0
  samples : Nat := 0
  cause : Nat := 0
  passes : Nat := 0
deriving DecidableEq, Repr

/-- A user-layer field that a calibration has found: the object's key, the word, the field's bits and its new value. -/
structure Trim where
  key : Nat := 0
  word : Nat := 0
  hi : Nat := 0
  lo : Nat := 0
  val : Nat := 0
deriving DecidableEq, Repr

/-- The calibration unit (ch. 09, Table 12). -/
structure Cal where
  /-- CAL_STATE, CAL_KIND, LAST_CAUSE. -/
  st : Nat := 0
  kind : Nat := 0
  lastCause : Nat := 0
  /-- BAND_ACTIVE (reset 2), BAND_PENDING (reset 7: none). -/
  bandActive : Nat := 2
  bandPending : Nat := 7
  /-- STANDBY is loading; loaded at this running time; STEP_PENDING. -/
  loading : Bool := false
  loadBand : Nat := 2
  loadedAt : Option Nat := none
  stale : Bool := false
  factoryOk : Bool := false
  userLost : Bool := false
  gen : Nat := 0
  deferred : Nat := 0
  skipTotal : Nat := 0
  /-- User-layer values waiting for the step, by configuration key (R250). -/
  pendUser : Tab Obj := []
  /-- The calibration in progress: acceptance (running time), tiles named, tiles not finished, request words. -/
  startAt : Nat := 0
  mask : Nat := 0
  left : List Nat := []
  req : List Word := []
  /-- Results of the last calibration and its kind; 0 none since reset (R343). -/
  results : Tab CalRes := []
  resKind : Nat := 0
  /-- TEAM_SIZE_M1 at the start of the last CAL.TEAM: the members that it measures and has results of (R276, R343). -/
  teamN : Nat := 0
  passed : Nat := 0
  failed : Nat := 0
  /-- CAL.ZERO: shots fired in the present block, blocks done, firing time used in µs, accepted events per channel
  (shot index, receive time), index and origin of the shots of the block (R260). -/
  shot : Nat := 0
  blocks : Nat := 0
  fired : Nat := 0
  events : Tab (List (Nat × Int)) := []
  shotAt : List (Nat × Int) := []
  /-- Running time of the last calibration shot (R259: SHOT_PERIOD_US). -/
  firedAt : Option Nat := none
  /-- New values of the channels or converters that passed, to wait for the step. -/
  newVals : List Trim := []
  /-- The user-layer objects that the last calibration's results change (R265). -/
  resKeys : List Nat := []
  /-- Tiles of CAL.LIN, or member 0 for CAL.TEAM, whose measurement a step has made begin again (R263). -/
  redo : List Nat := []
  /-- Running time at which the measurement in progress began (R257, R276). -/
  passAt : Nat := 0
  /-- APPLIED: a step has taken the results into ACTIVE (Table 13). -/
  applied : Bool := false
  /-- A CAL.TEAM offset waits for its step (R261), which sets TEAM_OFS_VALID. -/
  teamStep : Bool := false
deriving DecidableEq, Repr

/-- The factory partition (R243) and the identities of Table 17 of ch. 12. The spec gives the tables' shape, not
their contents: all zero (log entry 8). -/
structure Factory where
  lE : Tab Int := []
  lR : Tab Int := []
  lRef : Tab Int := []
  cmpDelay : Tab Int := []
  monDelay : Tab Int := []
  trim : Tab Int := []
  skew : Tab Int := []
  zero : Tab Int := []
  sense : Tab Int := []
  /-- Driver and receiver asymmetry of the upstream hop (0) and the downstream hop (1), in fine units (R275). -/
  asym : Tab Int := []
  /-- The header's CRC-32C of each table of Table 2, those that differ from the CRC of an all-zero table (R243). -/
  crcs : Tab Nat := []
  mac : Nat := 0
  calId : Nat := 0
  date : Nat := 0
  deviceId : Nat := 0
  fwMajor : Nat := 0
  fwMinor : Nat := 0
  fwBuild : Nat := 0
deriving DecidableEq, Repr

/-! ### The whole block -/

/-- The instruction of the test port (R446): BYPASS, IDCODE, or another one, whose code the spec does not give. -/
inductive TapInstr where
  | bypass
  | idcode
  | other (code : Nat)
deriving DecidableEq, Repr

/-- The states of the test port's controller (IEEE 1149.1). -/
inductive TapSt where
  | testLogicReset | runTest
  | selectDr | captureDr | shiftDr | exit1Dr | pauseDr | exit2Dr | updateDr
  | selectIr | captureIr | shiftIr | exit1Ir | pauseIr | exit2Ir | updateIr
deriving DecidableEq, Repr

/-- The test port (R446: IEEE 1149.1): the state of its controller, its instruction, IDCODE after a reset of the port, the
shift register of the instruction and the data register that it selects, both with the next bit to leave first, and the
update latches of the boundary-scan cells. No row of the command table clocks it (log entry 127). -/
structure Tap where
  st : TapSt := .testLogicReset
  ir : TapInstr := .idcode
  irShift : List Bool := []
  dr : List Bool := []
  cells : List Bool := []
deriving DecidableEq, Repr

/-- The state of the GLN1064 as a block. -/
structure State where
  /-- The waiting commands, first in, first out. -/
  pending : List Instr := []
  /-- Device time in fine units (DT72 is its low 72 bits), counting once the epoch is set (R46). -/
  now : Int := 0
  /-- Running time since power-up in fine units. -/
  up : Nat := 0
  /-- Free values drawn (the model's own field; log entry 3). -/
  free : Nat := 0
  /-- The configuration objects that differ from their reset words, by key (ConfigStore; R319). -/
  cfg : Tab Obj := []
  ctl : Ctl := {}
  tb : Tb := {}
  safe : Safe := {}
  pwr : Pwr := {}
  outq : Outq := {}
  sw : Sw := {}
  team : Team := {}
  /-- Emitter channels, receive comparators and channels, monitors (0 to 31 MC, 32 and 33 MP), tiles, engines,
  persistence and trackers, those not at their reset value. -/
  em : Tab EmCh := []
  pb : Pb := {}
  rx : Tab Rx := []
  mon : Tab Mon := []
  /-- Running time up to which the monitors' filters have been sampled (R148). -/
  smpUp : Nat := 0
  /-- Frame boundaries without a quiet interval at which a receive change waited (R155). -/
  cmpDeferred : Nat := 0
  /-- Receive, window and coincidence changes that wait for the quiet interval of their frame boundary, oldest first
  (R155, R168, R199). -/
  bndQ : List BndChg := []
  /-- Receive tile words in effect, those not at their reset value (R155). -/
  rxTile : Tab Word := []
  /-- TRIP_N levels held low, bit i (R88). -/
  tripN : Nat := 0
  chan : Tab Chan := []
  tile : Tab Tile := []
  eng : Tab Eng := []
  track : Tab Track := []
  pers : Tab Pers := []
  cal : Cal := {}
  fact : Factory := {}
  tap : Tap := {}
deriving DecidableEq, Repr

/-- The block as RESET_N holds it: every field at its reset value, memory empty, nothing pending. POWER_UP and
RESET_RELEASE start it (R406, R408). -/
def State.reset : State := {}

end Sys2Proof.Machine
end

