-- ==== Sys2Proof/Machine/EchoMath.lean ====
section
/-! DEFINITION. The echo extraction chain of chapter 08 as arithmetic: background, matched filter, peaks, centroid,
corrected time. All of it is exact integer arithmetic; roundings are those of R455. Filtered values carry the scale
2³⁸, in which the background B of R224 is the integer SHOTS_ACQ · 2^HIST_K · ρ₃₂. -/

namespace Sys2Proof.Machine

/-- The measured background density ρ_m in 2⁻³² events per tick per shot (R222); none without exposure. -/
def measuredRho (preBin preExpo : Nat) : Option Nat :=
  if preExpo = 0 then none else some (rndDiv ((preBin * 2 ^ 32 : Nat) : Int) preExpo).toNat

/-- The tracker's update (R223). -/
def trackRho (rho meas shift : Nat) : Nat :=
  (rndDiv ((rho : Int) * (2 ^ shift : Nat) + meas - rho) (2 ^ shift)).toNat

/-- The coefficients of a bank from its 16 words (Table 8 of ch. 08). -/
def bankCoef (o : Obj) : List Int :=
  o.flatMap (fun w => [sfld w 15 0, sfld w 31 16, sfld w 47 32, sfld w 63 48])

/-- The template of the i-th closure of a fade over m closures from a to b (R229). -/
def fadeCoef (a b : List Int) (i m : Nat) : List Int :=
  List.zipWith (fun x y => x + Int.tdiv ((y - x) * i) m) a b

/-- Tap count T (Table 7 of ch. 08). -/
def tapCount (w0 : Word) : Nat := 8 * 2 ^ fld w0 56 55

/-- The dot product of the template with the newest-first window. -/
def dotL : List Int → List Int → Int
  | a :: s, b :: t => a * b + dotL s t
  | _, _ => 0

/-- The matched filter (R227): the newest-first window slides over the bins. R227 accumulates in 48 bits and gives no scale:
how many fraction bits of B, and so of x' and y, it keeps is open. The model keeps all of them, exact and without a bound
(DESIGN CHOICE, log entry 180). -/
def convL (h : List Int) (t : Nat) : List Int → List Int → List Int
  | _, [] => []
  | win, x :: xs => dotL h ((x :: win).take t) :: convL h t ((x :: win).take t) xs

/-- Candidates of R232: bins b with y over the threshold, above the bin before and not below the bin after. The
list starts at the first valid bin; `prev` is none before it. -/
def candidates (isOver : Int → Bool) : Nat → Option Int → List Int → List (Nat × Int)
  | _, _, [] => []
  | b, prev, y :: ys =>
    let up := match prev with | none => true | some q => decide (q < y)
    let dn := match ys with | [] => true | z :: _ => decide (z ≤ y)
    (if isOver y && up && dn then [(b, y)] else []) ++ candidates isOver (b + 1) (some y) ys

/-- Insert a candidate into a list of descending y, earliest first on ties. -/
def insPeak (c : Nat × Int) : List (Nat × Int) → List (Nat × Int)
  | [] => [c]
  | d :: t => if d.2 < c.2 then c :: d :: t else d :: insPeak c t

/-- Candidates in descending order of y, those closer than sep to a kept one discarded (R232). -/
def separate (sep : Nat) (cs : List (Nat × Int)) : List (Nat × Int) :=
  ((cs.foldl (fun a c => insPeak c a) []).foldl
    (fun kept c => if kept.any (fun k => decide ((max k.1 c.1) - (min k.1 c.1) < sep)) then kept else kept ++ [c]) [])

/-- The peaks kept, in ascending order of p (R232). -/
def keepPeaks (sel : Bool) (maxEcho sep : Nat) (cs : List (Nat × Int)) : List (Nat × Int) :=
  let s := separate sep cs
  if sel then (sortBy (fun c => c.1) s).take maxEcho else sortBy (fun c => c.1) (s.take maxEcho)

/-- y at bin b, where it is valid (R227). -/
def yAt (ys : List Int) (t b : Nat) : Option Int := if b < t - 1 then none else ys[b]?

/-- The half-maximum crossing on one side (R233): distance from p as a fraction, and whether a crossing was found.
`bins` is the run of y values going away from p, starting at p. -/
def crossing (yp : Int) : Nat → List Int → (Int × Nat) × Bool
  | d, a :: b :: r =>
    if 2 * b ≤ yp then
      -- between a (above half) and b: distance d + (a − half) / (a − b)
      (((d : Int) * (2 * (a - b)) + (2 * a - yp), (2 * (a - b)).toNat), true)
    else crossing yp (d + 1) (b :: r)
  | d, _ => (((d : Int), 1), false)

/-- The threshold test y > θ of R231 on scaled values: both parts of the maximum must be exceeded. -/
def overTheta (alpha floor_ sumH sumH2 b38 : Nat) (y : Int) : Bool :=
  decide (0 < y) && decide (((alpha * floor_ * sumH * 2 ^ 38 : Nat) : Int) < y * 4096) &&
    decide (alpha * alpha * b38 * sumH2 * 2 ^ 38 < (y.toNat * 16) * (y.toNat * 16))

/-- SCORE of R233 in 1/16, rounded and saturated; `free` where the denominator is zero (log entry 3). -/
def scoreOf (floor_ sumH sumH2 b38 free : Nat) (y : Int) : Nat :=
  let yn := y.toNat
  if floor_ * floor_ * sumH * sumH * 2 ^ 38 ≤ b38 * sumH2 * 2 ^ 16 then
    if b38 * sumH2 = 0 then free % 65536
    else min 65535 ((isqrt (1024 * yn * yn / (2 ^ 38 * b38 * sumH2)) + 1) / 2)
  else min 65535 (rndDiv ((4096 * yn : Nat) : Int) (2 ^ 38 * floor_ * sumH)).toNat

/-- NOISE of R237: n in 1/256 count, rounded and saturated; `free` for an all-zero template. -/
def noiseOf (sumH sumH2 b38 free : Nat) : Nat :=
  if sumH = 0 then free % 2 ^ 24
  else min (2 ^ 24 - 1) ((isqrt (512 * 512 * b38 * sumH2 / (2 ^ 38 * sumH * sumH)) + 1) / 2)

/-- The corrected time of R234 in fine units, from the peak bin and δ in 2⁻¹⁶. -/
def correctedTime (ofs k t p : Nat) (delta align z : Int) : Int :=
  rndDiv (64 * (2 ^ k : Nat) * ((p : Int) * 2 ^ 17 + delta * 2 + 2 ^ 16)
    + ((4096 * ofs : Nat) - (32 * (t - 1) * 2 ^ k : Nat) - align - z) * 2 ^ 17) (2 ^ 17)

/-- RANGE of R235 in 0.1 mm. -/
def rangeOf (t ppm : Int) : Nat := (rndDiv (t * 1829788 * (1000000 + ppm)) 10000000000000).toNat

/-- One echo from its peak (R233 to R235); none if its corrected time is negative. -/
def echoAt (cfg : Obj) (k ofs n sumH sumH2 b38 free : Nat) (z : Int) (ys : List Int) (p : Nat) (yp : Int) :
    Option Echo :=
  let w0 := cfg.getD 0 0
  let w1 := cfg.getD 1 0
  let t := tapCount w0
  let half := if fld w0 54 54 = 1 then 2 else 1
  let lo := max (t - 1) (p - half)
  let hi := min (n - 1) (p + half)
  let win := (upTo lo hi).map (fun (b : Nat) => (((b : Int) - p), max 0 (ys.getD b 0)))
  let s := win.foldl (fun a q => a + q.2) 0
  let m := win.foldl (fun a q => a + q.1 * q.2) 0
  let delta := rndDiv (m * 65536) s.toNat
  let cl := crossing yp 0 ((ys.take (p + 1)).reverse.take (p + 2 - t))
  let cr := crossing yp 0 (ys.drop p)
  let edge := decide (p = t - 1) || decide (p = n - 1) || decide (p < t - 1 + half) || decide (n - 1 < p + half)
    || !cl.2 || !cr.2
  let tm := correctedTime ofs k t p delta (sfld w1 23 0) z
  if tm < 0 then none
  else some
    { time := (rndDiv tm 64).toNat
      range := rangeOf tm (sfld w1 35 24)
      amp := min (2 ^ 24 - 1) (rndDiv (16 * s) (sumH * 2 ^ 38)).toNat
      width := min 4095 (rndDiv (16 * (cl.1.1 * cr.1.2 + cr.1.1 * cl.1.2)) (cl.1.2 * cr.1.2)).toNat
      score := scoreOf (fld w1 63 40) sumH sumH2 b38 free yp
      edge := edge }

/-- A channel's bins as a list of n counts. -/
def binList (n : Nat) (t : Tab Nat) : List Nat :=
  (List.range n).map (fun b => tabGet 0 t b)

/-- The chain of Table 1 of ch. 08 for one pixel with background density ρ (2⁻³²), template h, range zero z. Where Σ h
over the used taps is zero or negative no peak is searched for and NOISE is free (DESIGN CHOICE, log entry 3). -/
def echoChain (cfg : Obj) (px : Pix) (rho : Nat) (h : List Int) (z : Int) (free : Nat) : EchoRes :=
  let w0 := cfg.getD 0 0
  let w1 := cfg.getD 1 0
  let t := tapCount w0
  let hT := h.take t
  let sumH := (hT.foldl (· + ·) 0).toNat
  let sumH2 := (hT.foldl (fun a x => a + x * x) 0).toNat
  let n := if px.wide then 2048 else 4096
  let b38 := px.shotsAcq * 2 ^ px.k * rho
  let bg := min (2 ^ 28 - 1) (rndDiv ((b38 : Nat) : Int) (2 ^ 30)).toNat
  let noise := noiseOf sumH sumH2 b38 free
  if px.shotsAcq = 0 ∨ sumH = 0 then { bg := bg, noise := noise }
  else
    let xs := (binList n px.bins).map (fun c => ((c * 2 ^ 38 : Nat) : Int) - b38)
    let ys := convL hT t [] xs
    let cs := candidates (overTheta (fld w0 40 33) (fld w1 63 40) sumH sumH2 b38) (t - 1) none (ys.drop (t - 1))
    let ks := keepPeaks (fld w0 53 53 = 1) (fld w0 52 49) (fld w0 48 41) cs
    let es := ks.filterMap (fun c => echoAt cfg px.k px.ofs n sumH sumH2 b38 free z ys c.1 c.2)
    { echoes := es, found := min 65535 cs.length, dropped := cs.length - ks.length,
      negDrops := ks.length - es.length, bg := bg, noise := noise }

end Sys2Proof.Machine
end

