-- ==== Sys2Proof/Config.lean ====
section
/-! DEFINITION. What the spec leaves open: free values. None has a body, so no proof can see one. -/

namespace Sys2Proof

/-- A free value: whatever the hardware answers where the spec gives a bound or no value (log entry 3).
Applied to the state's counter of free values drawn so far. -/
opaque Config.freeValue : Nat → Nat

/-- A free choice between two outcomes the spec leaves open (log entry 3). -/
opaque Config.freeBool : Nat → Bool

/-- The PCP of a tagged frame of a class: the spec says that it comes from the class, not how (R365; log entry 126). -/
opaque Config.classPcp : Nat → Nat

/-- The length of the boundary-scan chain, and the cell of each LVCMOS ball in it: the spec gives neither (R446; log
entry 127). -/
opaque Config.scanLength : Nat
opaque Config.scanCell : Nat → Nat

/-- The test port's instruction register: its length, what it captures above its two fixed bits, the code of IDCODE, and the
codes by which the cells drive the balls. IEEE 1149.1 leaves them to the device and the spec gives none (R446; log entry
127). -/
opaque Config.irLength : Nat
opaque Config.irCapture : Nat → Bool
opaque Config.idcodeCode : Nat
opaque Config.scanDrives : Nat → Bool

end Sys2Proof
end

