-- ==== Sys2Proof/Machine/CfgStore.lean ====
section
/-! DEFINITION. The configuration: its kinds of objects, one per configuration command of ch. 12, with reset words,
writable bits, change classes and ranges from the register tables, and the one sparse store that holds every object
that differs from its reset words (R319). -/

namespace Sys2Proof.Machine

/-- The kinds of configuration objects, in the order of R319: ascending opcode, then OPT. -/
inductive CfgKind where
  | ctrlPort | tpll | mode | epoch | emCh | emLim | volley | stretch | desc | seg | jump | pb | stl | stream
  | rx | rxTile | mc | mp | margin | profile | winTile | rcd | histTile | pers | echo | coef
  | calRx | calEm | calDev | team | queue | route | port | gate | filter | cb | time | safe | pwr
deriving DecidableEq, Repr

/-- Every kind, in order. -/
def allKinds : List CfgKind :=
  [.ctrlPort, .tpll, .mode, .epoch, .emCh, .emLim, .volley, .stretch, .desc, .seg, .jump, .pb, .stl, .stream,
   .rx, .rxTile, .mc, .mp, .margin, .profile, .winTile, .rcd, .histTile, .pers, .echo, .coef,
   .calRx, .calEm, .calDev, .team, .queue, .route, .port, .gate, .filter, .cb, .time, .safe, .pwr]

/-- Place of a kind in that order. -/
def kindIx : CfgKind → Nat
  | .ctrlPort => 0 | .tpll => 1 | .mode => 2 | .epoch => 3 | .emCh => 4 | .emLim => 5 | .volley => 6
  | .stretch => 7 | .desc => 8 | .seg => 9 | .jump => 10 | .pb => 11 | .stl => 12 | .stream => 13 | .rx => 14
  | .rxTile => 15 | .mc => 16 | .mp => 17 | .margin => 18 | .profile => 19 | .winTile => 20 | .rcd => 21
  | .histTile => 22 | .pers => 23 | .echo => 24 | .coef => 25 | .calRx => 26 | .calEm => 27 | .calDev => 28
  | .team => 29 | .queue => 30 | .route => 31 | .port => 32 | .gate => 33 | .filter => 34 | .cb => 35
  | .time => 36 | .safe => 37 | .pwr => 38

/-- The key of object i of a kind in the store: ascending keys are the order of the image (R319). -/
def cfgKey (k : CfgKind) (i : Nat) : Nat := kindIx k * 2 ^ 20 + i

/-- The kind of a key. -/
def keyKind (n : Nat) : Option CfgKind := allKinds[n / 2 ^ 20]?

/-- The opcode of the command that writes a kind (ch. 12). -/
def kindOp : CfgKind → Nat
  | .ctrlPort => 0x0001 | .tpll => 0x0101 | .mode => 0x0102 | .epoch => 0x0103 | .emCh => 0x0201 | .emLim => 0x0202
  | .volley => 0x0203 | .stretch => 0x0204 | .desc => 0x0301 | .seg => 0x0302 | .jump => 0x0303 | .pb => 0x0304
  | .stl => 0x0305 | .stream => 0x0306 | .rx => 0x0401 | .rxTile => 0x0402 | .mc => 0x0403 | .mp => 0x0404
  | .margin => 0x0405 | .profile => 0x0501 | .winTile => 0x0502 | .rcd => 0x0503 | .histTile => 0x0601
  | .pers => 0x0602 | .echo => 0x0701 | .coef => 0x0702 | .calRx => 0x0801 | .calEm => 0x0801 | .calDev => 0x0801
  | .team => 0x0901 | .queue => 0x0A01 | .route => 0x0A02 | .port => 0x0A03 | .gate => 0x0A04 | .filter => 0x0A05
  | .cb => 0x0A06 | .time => 0x0A07 | .safe => 0x0B01 | .pwr => 0x0C01

/-- Number of objects of a kind; a command that names no object has one (R323). -/
def kindCount : CfgKind → Nat
  | .emCh => 64 | .emLim => 64 | .volley => 256 | .stretch => 64 | .desc => 65536 | .seg => 4096 | .jump => 256
  | .stl => 4 | .rx => 1024 | .rxTile => 64 | .mc => 32 | .mp => 2 | .profile => 64 | .winTile => 64 | .rcd => 64
  | .histTile => 64 | .echo => 4 | .coef => 4 | .calRx => 1024 | .calEm => 64 | .queue => 1048576 | .route => 256
  | .port => 3 | .gate => 2 | .filter => 128 | .cb => 64 | .time => 3
  | .ctrlPort => 1 | .tpll => 1 | .mode => 1 | .epoch => 1 | .pb => 1 | .stream => 1 | .margin => 1 | .pers => 1
  | .calDev => 1 | .team => 1 | .safe => 1 | .pwr => 1

/-- Parameter words per object in its command. -/
def kindWords : CfgKind → Nat
  | .ctrlPort => 1 | .tpll => 1 | .mode => 1 | .epoch => 2 | .emCh => 2 | .emLim => 2 | .volley => 4 | .stretch => 6
  | .desc => 4 | .seg => 2 | .jump => 1 | .pb => 5 | .stl => 1 | .stream => 2 | .rx => 1 | .rxTile => 1 | .mc => 2
  | .mp => 1 | .margin => 1 | .profile => 2 | .winTile => 1 | .rcd => 2 | .histTile => 2 | .pers => 2 | .echo => 2
  | .coef => 16 | .calRx => 1 | .calEm => 2 | .calDev => 1 | .team => 1 | .queue => 4 | .route => 3 | .port => 3
  | .gate => 3 | .filter => 2 | .cb => 2 | .time => 1 | .safe => 3 | .pwr => 3

/-- How a configuration command names its objects (R322, R323): one object in FIRST; a range with at most so many
objects, each with its own words; a range of any count, one set of words written to each; a tile mask in W1. -/
inductive SelForm where
  | one | range (most : Nat) | fill | mask
deriving DecidableEq, Repr

/-- The selection form of a kind's writer. -/
def kindForm : CfgKind → SelForm
  | .desc => .range 7 | .queue => .range 7 | .calRx => .range 29 | .calEm => .range 14 | .rx => .fill
  | .winTile => .mask | .rcd => .mask | .histTile => .mask
  | .ctrlPort => .one | .tpll => .one | .mode => .one | .epoch => .one | .emCh => .one | .emLim => .one
  | .volley => .one | .stretch => .one | .seg => .one | .jump => .one | .pb => .one | .stl => .one | .stream => .one
  | .rxTile => .one | .mc => .one | .mp => .one | .margin => .one | .profile => .one | .pers => .one | .echo => .one
  | .coef => .one | .calDev => .one | .team => .one | .route => .one | .port => .one | .gate => .one
  | .filter => .one | .cb => .one | .time => .one | .safe => .one | .pwr => .one

/-- A mask of bit ranges (hi, lo). -/
def bitsOf (fs : List (Nat × Nat)) : Nat := fs.foldl (fun a f => a ||| ((2 ^ (f.1 - f.2 + 1) - 1) <<< f.2)) 0

/-- The reset words of object i of a kind; mac is DEV_MAC of the factory header (Table 8 of ch. 13). -/
def resetWords (mac : Nat) (k : CfgKind) (i : Nat) : Obj :=
  match k with
  | .ctrlPort => [0xB798]
  | .tpll => [0x45F5E100]
  | .mode => [0x000007D000006400]
  | .epoch => [0, 0]
  | .emCh => [0, 0]
  | .emLim => [0, 0]
  | .volley => [0x8000800000000000, 0x0000800000000000, 0x0000800000000000, 0x0000800000000000]
  | .stretch => [0, 0, 0, 0, 0, 0]
  | .desc => [0, 0, 0, 0]
  | .seg => [0x10000, 1]
  | .jump => [0]
  | .pb => [0x00000032000007D0, 0x30D40000, 0, 0x00C8000140000000, 0]
  | .stl => [0x800]
  | .stream => [0x0000F000C1800000, 0]
  | .rx => [pack [(16, 0), (4, 0), (1, 1), (4, 1), (4, 1), (3, 0), (6, 0), (6, 0), (10, 0x3FF), (10, 0x3FF)]]
  | .rxTile => [pack [(28, 0), (4, 1), (16, 0x10), (16, 0xFFFC)]]
  | .mc => [pack [(2, 1), (6, 0), (4, 0), (4, 1), (4, 1), (6, 0), (18, 0), (10, 0x3FF), (10, 0)], 0]
  | .mp => [pack [(2, 1), (6, 0), (4, 0), (4, 1), (4, 1), (6, 0), (18, 0), (10, 0x3FF), (10, 0)]]
  | .margin => [0]
  | .profile => [0, pack [(16, 0), (16, 0x1000), (2, 0), (14, 0x800), (16, 0)]]
  | .winTile => [pack [(16, 0), (1, 1), (1, 0), (6, 0), (8, 1), (32, 0)]]
  | .rcd => [pack [(17, 0x400), (1, 0), (1, 0), (1, 0), (1, 1), (4, 0xF), (1, 1), (1, 0), (5, 0), (16, 0x64), (16, 0x3E8)],
             pack [(16, 0xFFFF), (12, 0), (4, 6), (16, 0xFFFF), (16, 0)]]
  | .histTile => [pack [(15, 0), (1, 0), (4, 6), (12, 0), (32, 0)],
                  pack [(16, 0xFFFF), (6, 0), (1, 0), (5, 2), (15, 0), (5, 2), (16, 0)]]
  | .pers => [pack [(1, 1), (1, 0), (2, 0), (4, 2), (5, 0), (3, 4), (16, 0x40), (32, 0)], 0]
  | .echo => [pack [(7, 0), (2, 3), (1, 1), (1, 0), (4, 8), (8, 4), (8, 0x50), (1, 0), (2, 1), (3, 3), (27, 0)],
              pack [(24, 0x40), (40, 0)]]
  | .coef => List.replicate 16 0
  | .calRx => [0]
  | .calEm => [0, 0]
  | .calDev => [0]
  | .team => [pack [(1, 0), (1, 0), (1, 0), (1, 1), (4, 0), (4, 1), (4, 0), (8, 0x14), (40, 0)]]
  | .queue => [pack [(1, 0), (2, 3), (2, 0), (3, 0), (4, 0), (2, 1), (6, 0), (5, 0xC), (39, 0)], 0, 0, 0]
  | .route => [0, 0, pack [(16, 0), (8, 0x0A), (40, 0)]]
  | .port => if i = 2 then [pack [(48, mac), (16, 0)], 0, 0]
             else [pack [(11, 0), (3, 6), (3, 5), (3, 1), (24, 0xD63488), (14, 0x3FFF), (6, 0)], 0, 0]
  | .gate => pack [(11, 0), (9, 1), (44, 0)] :: 0 :: 0 :: List.replicate 256 (pack [(32, 0xFF), (32, 0)])
  | .filter => [0, 0]
  | .cb => [0, pack [(8, 0x10), (16, 0x64), (40, 0)]]
  | .time => if i = 2 then [pack [(8, 0), (1, 1), (55, 0)]] else [pack [(1, 0), (16, 0x320), (4, 0xD), (43, 0)]]
  | .safe => [pack [(2, 0), (4, 3), (10, 0x27), (16, 0x32), (16, 0), (16, 0x1388)], pack [(36, 0), (16, 0x10), (12, 0)],
              BitVec.allOnes 64]
  | .pwr => [pack [(2, 0), (2, 1), (8, 0x7E), (52, 0)], 0, 0]

/-- The bits of each word that are not reserved (the register tables). -/
def openBits (k : CfgKind) (i : Nat) : List Nat :=
  match k with
  | .ctrlPort => [bitsOf [(15, 0)]]
  | .tpll => [bitsOf [(31, 0)]]
  | .mode => [bitsOf [(48, 32), (15, 2)]]
  | .epoch => [bitsOf [(35, 0)], bitsOf [(35, 0)]]
  | .emCh => [bitsOf [(35, 0)], bitsOf [(37, 0)]]
  | .emLim => [bitsOf [(63, 0)], bitsOf [(31, 0)]]
  | .volley => List.replicate 4 (bitsOf [(63, 63), (59, 0)])
  | .stretch => List.replicate 6 (bitsOf [(63, 0)])
  | .desc => [bitsOf [(63, 0)], bitsOf [(59, 0)], bitsOf [(59, 0)], bitsOf [(63, 46), (36, 24), (21, 16), (13, 0)]]
  | .seg => [bitsOf [(63, 36), (32, 0)], bitsOf [(23, 0)]]
  | .jump => [bitsOf [(15, 15), (13, 0)]]
  | .pb => [bitsOf [(47, 31), (27, 26), (15, 0)], bitsOf [(63, 62), (35, 0)], bitsOf [(35, 0)], bitsOf [(63, 28)],
            bitsOf [(35, 0)]]
  | .stl => [bitsOf [(15, 6)]]
  | .stream => [bitsOf [(47, 21), (15, 0)], bitsOf [(63, 0)]]
  | .rx => [bitsOf [(47, 35), (31, 26), (19, 0)]]
  | .rxTile => [bitsOf [(35, 0)]]
  | .mc => [bitsOf [(63, 53), (51, 38), (19, 0)], bitsOf [(55, 48), (31, 0)]]
  | .mp => [bitsOf [(63, 53), (51, 38), (19, 0)]]
  | .margin => [bitsOf [(47, 0)]]
  | .profile => [bitsOf [(63, 0)], bitsOf [(47, 32), (29, 16)]]
  | .winTile => [bitsOf [(47, 46), (39, 32), (23, 0)]]
  | .rcd => [bitsOf [(63, 38), (36, 0)], bitsOf [(63, 48), (35, 16)]]
  | .histTile => [bitsOf [(48, 44), (31, 0)], bitsOf [(63, 48), (41, 36), (20, 0)]]
  | .pers => [bitsOf [(63, 62), (59, 56), (50, 32)], bitsOf [(63, 0)]]
  | .echo => [bitsOf [(56, 27)], bitsOf [(63, 40), (35, 0)]]
  | .coef => List.replicate 16 (bitsOf [(63, 0)])
  | .calRx => [bitsOf [(63, 40), (27, 16), (7, 0)]]
  | .calEm => [bitsOf [(63, 40), (27, 16)], bitsOf [(47, 36), (31, 12), (7, 0)]]
  | .calDev => [bitsOf [(23, 0)]]
  | .team => [bitsOf [(63, 52), (47, 40)]]
  | .queue => List.replicate 4 (bitsOf [(63, 0)])
  | .route => [bitsOf [(63, 2)], bitsOf [(63, 0)], bitsOf [(63, 56), (47, 40)]]
  | .port => if i = 2 then [bitsOf [(63, 16), (11, 0)], bitsOf [(63, 15)], bitsOf [(63, 56)]]
             else [bitsOf [(63, 6)], 0, 0]
  | .gate => [bitsOf [(63, 62), (60, 44)], bitsOf [(31, 0)], bitsOf [(63, 0)]] ++ List.replicate 256 (bitsOf [(39, 0)])
  | .filter => [bitsOf [(63, 0)], bitsOf [(63, 0)]]
  | .cb => [bitsOf [(63, 2)], bitsOf [(63, 40)]]
  | .time => if i = 2 then [bitsOf [(63, 55)]] else [bitsOf [(63, 39)]]
  | .safe => [bitsOf [(63, 0)], bitsOf [(63, 12)], bitsOf [(63, 0)]]
  | .pwr => [bitsOf [(63, 52)], 0, 0]

/-- The bits of class I in each word. -/
def idleBits (k : CfgKind) (i : Nat) : List Nat :=
  match k with
  | .tpll => [bitsOf [(31, 0)]]
  | .mode => [bitsOf [(8, 2)]]
  | .emCh => [0, bitsOf [(35, 0)]]
  | .pb => [bitsOf [(47, 31), (27, 26), (15, 0)], bitsOf [(63, 62)], 0, bitsOf [(29, 29)], 0]
  | .stl => [bitsOf [(15, 6)]]
  | .stream => [bitsOf [(47, 21), (15, 0)], bitsOf [(63, 0)]]
  | .mc => [bitsOf [(63, 62), (57, 57)], 0]
  | .mp => [bitsOf [(57, 57)]]
  | .rcd => [bitsOf [(46, 45)], 0]
  | .pers => [bitsOf [(63, 62), (59, 56)], bitsOf [(63, 0)]]
  | .echo => [bitsOf [(56, 55)], 0]
  | .team => [bitsOf [(63, 52)]]
  | .port => if i = 2 then [] else [bitsOf [(63, 62)], 0, 0]
  | .ctrlPort => [] | .epoch => [] | .emLim => [] | .volley => [] | .stretch => [] | .desc => [] | .seg => []
  | .jump => [] | .rx => [] | .rxTile => [] | .margin => [] | .profile => [] | .winTile => [] | .histTile => []
  | .coef => [] | .calRx => [] | .calEm => [] | .calDev => [] | .queue => [] | .route => [] | .gate => []
  | .filter => [] | .cb => [] | .time => [] | .safe => [] | .pwr => []

/-- The bits of class F in each word; what is neither F nor I is class L. -/
def frameBits (k : CfgKind) (i : Nat) : List Nat :=
  match k with
  | .mode => [bitsOf [(15, 9)]]
  | .emCh => [bitsOf [(35, 0)], 0]
  | .volley => List.replicate 4 (bitsOf [(63, 0)])
  | .stretch => List.replicate 6 (bitsOf [(63, 0)])
  | .pb => [0, bitsOf [(35, 0)], bitsOf [(35, 0)], bitsOf [(63, 30)], bitsOf [(35, 0)]]
  | .rx => [bitsOf [(63, 0)]]
  | .rxTile => [bitsOf [(63, 0)]]
  | .margin => [bitsOf [(23, 0)]]
  | .profile => [bitsOf [(63, 0)], bitsOf [(63, 0)]]
  | .winTile => [bitsOf [(63, 0)]]
  | .histTile => [bitsOf [(48, 16)], bitsOf [(63, 16)]]
  | .pers => [bitsOf [(50, 32)], 0]
  | .echo => [bitsOf [(54, 27)], bitsOf [(63, 0)]]
  | .calRx => [bitsOf [(63, 0)]]
  | .calEm => [bitsOf [(63, 0)], bitsOf [(63, 0)]]
  | .calDev => [bitsOf [(63, 0)]]
  | .queue => [bitsOf [(63, 50), (43, 39)], bitsOf [(63, 0)], bitsOf [(63, 0)], 0]
  | .route => [bitsOf [(63, 0)], bitsOf [(63, 0)], bitsOf [(63, 0)]]
  | .port => if i = 2 then [bitsOf [(63, 0)], bitsOf [(63, 32)], 0] else [bitsOf [(61, 6)], 0, 0]
  | .cb => [bitsOf [(63, 0)], bitsOf [(63, 0)]]
  | .ctrlPort => [] | .tpll => [] | .epoch => [] | .emLim => [] | .desc => [] | .seg => [] | .jump => [] | .stl => []
  | .stream => [] | .mc => [] | .mp => [] | .rcd => [] | .coef => [] | .team => [] | .gate => [] | .filter => []
  | .time => [] | .safe => [] | .pwr => []

/-- Hysteresis and filter ranges of R159 and R161 on a word. -/
def filtRange (w : Word) (nHi nLo kHi kLo hHi hLo : Nat) : Bool :=
  decide (1 ≤ fld w nHi nLo) && decide (1 ≤ fld w kHi kLo) && decide (fld w hHi hLo ≤ 50)

/-- The stated field ranges of a kind (OUT_OF_RANGE at check 3 of R295); o holds the object's words. BASE + LENGTH of a
segment is held to 65,536 whether VALID is set or not, while the refill ring is judged against valid segments alone
(ringOk): R108 names neither case apart (DESIGN CHOICE, log entry 113). -/
def rangeOk (k : CfgKind) (i : Nat) (o : Obj) : Bool :=
  let w := fun n => o.getD n 0
  match k with
  | .ctrlPort => decide (1 ≤ fld (w 0) 15 0)
  | .tpll => decide (fld (w 0) 29 28 ≤ 1) && decide (10000000 ≤ fld (w 0) 27 0) && decide (fld (w 0) 27 0 ≤ 200000000)
  | .mode => decide (100 ≤ fld (w 0) 48 32) && decide (fld (w 0) 48 32 ≤ 100000) && decide (1 ≤ fld (w 0) 14 9)
      && decide (fld (w 0) 14 9 ≤ 50) && decide (fld (w 0) 8 6 ≤ 3) && decide (fld (w 0) 5 4 ≤ 2)
  | .emCh => decide (fld (w 0) 35 12 ≤ 65535) && decide (fld (w 1) 37 36 ≠ 3)
  | .volley => (List.range 4).all (fun p => decide (2048 ≤ fld (w p) 59 36))
  | .desc => decide (fld (w 3) 63 62 = 0)
  | .seg => decide (fld (w 0) 61 60 ≠ 3) && decide (1 ≤ fld (w 0) 32 16) && decide (fld (w 0) 32 16 ≤ 65536)
      && decide (1 ≤ fld (w 1) 23 0)
      && (decide (fld (w 0) 62 62 = 1) || decide (fld (w 0) 15 0 + fld (w 0) 32 16 ≤ 65536))
  | .pb => decide (2 ≤ fld (w 0) 47 32) && decide (fld (w 0) 47 32 ≤ 1000) && decide (fld (w 1) 63 62 ≤ 1)
      && decide (4096000 ≤ fld (w 1) 35 0) && decide (1 ≤ fld (w 3) 63 48) && decide (1 ≤ fld (w 3) 47 32)
  | .stl => decide (8 ≤ fld (w 0) 11 6) && decide (fld (w 0) 11 6 ≤ 32)
  | .stream => decide (fld (w 0) 27 26 ≠ 3)
      && decide (8 ≤ fld (w 0) 25 21) && decide (fld (w 0) 25 21 ≤ 20) && decide (fld (w 1) 5 0 = 0)
      && (decide (fld (w 0) 27 26 = 0) || (decide (8 ≤ fld (w 0) 31 28) && decide (fld (w 0) 31 28 ≤ 15)
        && decide (fld (w 0) 47 32 % 2 ^ fld (w 0) 31 28 = 0)))
  | .rx => filtRange (w 0) 42 39 38 35 31 26
  | .rxTile => decide (fld (w 0) 35 32 ≤ 3) && decide (1 ≤ fld (w 0) 31 16)
  | .mc => decide (fld (w 0) 59 58 ≤ 1) && filtRange (w 0) 51 48 47 44 43 38 && decide (fld (w 1) 55 54 ≤ 1)
      && (decide (fld (w 0) 55 55 = 0) || decide (1 ≤ fld (w 1) 31 16))
  | .mp => filtRange (w 0) 51 48 47 44 43 38
  | .profile => decide (fld (w 1) 29 16 % 8 = 0) && decide (fld (w 1) 29 16 ≤ 16376) && decide (16 ≤ fld (w 1) 47 32)
  | .winTile => decide (fld (w 0) 46 46 = 0) || decide (1 ≤ fld (w 0) 39 32)
  | .rcd => decide (1 ≤ fld (w 0) 15 0) && decide (fld (w 0) 63 47 ≤ 65536) && decide (1 ≤ fld (w 1) 31 16)
  | .histTile => decide (fld (w 0) 47 44 ≤ 10) && decide (2 ≤ fld (w 1) 40 36) && decide (fld (w 1) 40 36 ≤ 16)
      && decide (1 ≤ fld (w 1) 20 16) && decide (fld (w 1) 20 16 ≤ 16)
  | .pers => decide (1 ≤ fld (w 0) 50 48)
  | .echo => decide (1 ≤ fld (w 0) 52 49) && decide (fld (w 0) 52 49 ≤ 8) && decide (1 ≤ fld (w 0) 48 41)
      && decide (1 ≤ fld (w 0) 40 33) && decide (fld (w 0) 31 30 ≠ 3) && decide (-2000 ≤ sfld (w 1) 35 24)
      && decide (sfld (w 1) 35 24 ≤ 2000)
  | .team => decide (1 ≤ fld (w 0) 55 52) && decide (1 ≤ fld (w 0) 47 40)
  | .queue => decide (fld (w 0) 60 59 ≠ 3) && decide (fld (w 0) 58 56 ≤ 4) && decide (fld (w 0) 51 50 ≠ 3)
      && decide (12 ≤ fld (w 0) 43 39) && decide (fld (w 0) 43 39 ≤ 30)
      && (match fld (w 0) 60 59 with
          | 0 => decide (fld (w 1) 11 0 = 0) && decide (fld (w 2) 3 0 = 0)
          | 1 => decide (fld (w 1) 63 8 = 0) && decide ((w 2) = 0)
          | _ => decide ((w 1) = 0) && decide ((w 2) = 0))
  | .route => decide (1 ≤ fld (w 2) 47 40)
      && (decide (fld (w 2) 62 62 = 0) || decide (fld (w 0) 3 2 = 3))
  | .port => i == 2 || (decide (fld (w 0) 63 62 ≠ 3) && decide (fld (w 0) 52 50 ≤ 6) && decide (fld (w 0) 49 47 ≤ 6)
      && decide (fld (w 0) 46 44 ≤ 6))
  | .gate => decide (1 ≤ fld (w 0) 52 44) && decide (fld (w 0) 52 44 ≤ 256) && decide (7 ≤ fld (w 1) 31 0)
      && decide (fld (w 1) 31 0 ≤ 1000000000) && decide (fld (w 0) 60 53 + (o.length - 3) ≤ 256)
  | .cb => decide (1 ≤ fld (w 1) 63 56) && decide (fld (w 1) 63 56 ≤ 32)
  | .time => i != 2 || decide (fld (w 0) 63 56 ≤ 127)
  | .safe => decide (1 ≤ fld (w 0) 61 58) && decide (1 ≤ fld (w 0) 15 0)
  | .pwr => decide (fld (w 0) 63 62 ≠ 3) && decide (fld (w 0) 61 60 ≠ 0) && decide (fld (w 0) 61 60 ≠ 3)
      && decide (fld (w 0) 52 52 = 0) && decide (fld (w 0) 59 59 = 0)
  | .epoch => true | .emLim => true | .stretch => true | .jump => true | .margin => true | .coef => true
  | .calRx => true | .calEm => true | .calDev => true | .filter => true

/-- No reserved bit is set in the words of an object (R15, R323). -/
def reservedOk (k : CfgKind) (i : Nat) (o : Obj) : Bool :=
  (List.zipWith (fun (w : Word) m => decide (w.toNat &&& m = w.toNat)) o (openBits k i)).all id

/-- The configuration object i of a kind in a store. -/
def cfgIn (mac : Nat) (t : Tab Obj) (k : CfgKind) (i : Nat) : Obj := tabGet (resetWords mac k i) t (cfgKey k i)

/-- The store with object i of a kind set. -/
def cfgPutIn (mac : Nat) (t : Tab Obj) (k : CfgKind) (i : Nat) (o : Obj) : Tab Obj :=
  tabSet (resetWords mac k i) t (cfgKey k i) o

/-- The configuration object i of a kind in force. -/
def cfgObj (s : State) (k : CfgKind) (i : Nat) : Obj := cfgIn s.fact.mac s.cfg k i

/-- Word n of a configuration object in force. -/
def cfgW (s : State) (k : CfgKind) (i n : Nat) : Word := (cfgObj s k i).getD n 0

/-- Field [hi:lo] of word n of a configuration object in force. -/
def cfgF (s : State) (k : CfgKind) (i n hi lo : Nat) : Nat := fld (cfgW s k i n) hi lo

/-- The words an object takes when a command writes `new` over `old` (R336: ARMED of a jump slot is not written;
R351: DROPS and word 3 of a queue are not written; R158: fixed fields of an MP input; GATE: APPLY and FIRST_ENTRY
are not kept, and the entries replace those from FIRST_ENTRY on). -/
def mergeWords (k : CfgKind) (old new : Obj) : Obj :=
  match k with
  | .jump => new.map (fun w => setFld w 15 15 0)
  | .queue => [setFld (new.getD 0 0) 31 0 0, new.getD 1 0, new.getD 2 0, 0]
  | .mp => new.map (fun w => setFld (setFld (setFld w 63 62 1) 61 58 0) 55 55 0)
  | .gate =>
    let w1 := new.getD 0 0
    let first := fld w1 60 53
    let ents := new.drop 3
    [setFld (setFld w1 63 63 0) 60 53 0, new.getD 1 0, new.getD 2 0]
      ++ (List.range 256).map (fun e => if first ≤ e ∧ e < first + ents.length then ents.getD (e - first) 0
                                        else old.getD (3 + e) 0)
  | .ctrlPort => new | .tpll => new | .mode => new | .epoch => new | .emCh => new | .emLim => new | .volley => new
  | .stretch => new | .desc => new | .seg => new | .pb => new | .stl => new | .stream => new | .rx => new
  | .rxTile => new | .mc => new | .margin => new | .profile => new | .winTile => new | .rcd => new | .histTile => new
  | .pers => new | .echo => new | .coef => new | .calRx => new | .calEm => new | .calDev => new | .team => new
  | .route => new | .port => new | .filter => new | .cb => new | .time => new | .safe => new | .pwr => new

/-- SEL naming one object or a range (Table 1 of ch. 12). -/
def selWord (opt first last : Nat) : Word := pack [(1, 0), (4, opt), (19, 0), (20, last), (20, first)]

/-- OPT and FIRST that name object i of a kind (ECHO.SET_COEF: bank in OPT; CAL.SET_USER: its three options). -/
def selOf (k : CfgKind) (i : Nat) : Nat × Nat :=
  match k with
  | .coef => (i / 4, i % 4)
  | .calEm => (1, i)
  | .calDev => (2, 0)
  | _ => (0, i)

/-- The payloads that would set an object's present values (R319). A gate list longer than one command takes
several, 26 entries each (log entry 9). -/
def setPayloads (k : CfgKind) (i : Nat) (o : Obj) : List (List Word) :=
  let sel := selOf k i
  match kindForm k with
  | .mask => [selWord 0 0 0 :: BitVec.ofNat 64 (2 ^ i) :: o]
  | _ =>
    match k with
    | .gate =>
      let n := (List.range 256).foldl (fun a e => if o.getD (3 + e) 0 = pack [(32, 0xFF), (32, 0)] then a else e + 1)
        (max 1 (fld (o.getD 0 0) 52 44))
      (List.range ((n + 25) / 26)).map (fun c =>
        selWord 0 i i :: setFld (o.getD 0 0) 60 53 (26 * c) :: o.getD 1 0 :: o.getD 2 0
          :: ((o.drop (3 + 26 * c)).take (min 26 (n - 26 * c))))
    | _ => [selWord sel.1 sel.2 sel.2 :: o]

/-- A key names a descriptor slot of the refill ring, while a stream is open (R128). -/
def inRing (t : Tab Obj) (key : Nat) : Bool :=
  let w := (cfgIn 0 t .stream 0).getD 0 0
  let base := cfgKey .desc (fld w 47 32)
  fld w 27 26 != 0 && decide (base ≤ key) && decide (key < base + 2 ^ fld w 31 28)

/-- The objects that the configuration image covers: all but the refill ring (R319). -/
def imageTab (t : Tab Obj) : Tab Obj := t.filter (fun e => !inRing t e.1)

/-- The words of an object as its record carries them: reserved bits zero. Only a descriptor slot, which a stream may
have filled, can hold others (R319). -/
def imageWords (k : CfgKind) (i : Nat) (o : Obj) : Obj :=
  if k = .desc then List.zipWith (fun (w : Word) m => BitVec.ofNat 64 (w.toNat &&& m)) o (openBits k i) else o

/-- The configuration image: header word 0 and payload of each record (R319). -/
def imageOf (t : Tab Obj) : List (List Word) :=
  (imageTab t).flatMap (fun e =>
    match keyKind e.1 with
    | some k => (setPayloads k (e.1 % 2 ^ 20) (imageWords k (e.1 % 2 ^ 20) e.2)).map
        (fun p => pack [(16, kindOp k), (16, 8 * p.length), (32, 0)] :: p)
    | none => [])

/-- The digest: CRC-32C of the image (R320). -/
def digestOf (t : Tab Obj) : Nat := crc32c (wordBytes (imageOf t).flatten)

end Sys2Proof.Machine
end

