-- ==== Sys2Proof/Machine/Ops.lean ====
section
/-! DEFINITION. The shared operations: time, free values, decisions of the Umpire, records and alerts, interrupts,
the journal, mailboxes and responses. -/

namespace Sys2Proof.Machine

/-! ### Time -/

/-- Running time passes: device time counts once the epoch is set (R46) and the device is not shut down (R419). -/
def passTime (d : Nat) (s : State) : State :=
  { s with
    up := s.up + d
    now := if s.tb.epochSet && !s.pwr.shut && !s.pwr.inReset then s.now + d else s.now
    pwr := if s.pwr.div = 0 then s.pwr else { s.pwr with throttleFine := s.pwr.throttleFine + d } }

/-- Time moves on to a device-time instant that is still ahead (log entry 5). -/
def reach (t : Int) (s : State) : State := if s.now < t then passTime (t - s.now).toNat s else s

/-- Time moves on to an instant of running time that is still ahead. -/
def reachUp (t : Nat) (s : State) : State := if s.up < t then passTime (t - s.up) s else s

/-- Draw a free value (log entry 3). -/
def drawFree (s : State) : Nat × State := (Config.freeValue s.free, { s with free := s.free + 1 })

/-- Draw a free choice (log entry 3). -/
def drawBool (s : State) : Bool × State := (Config.freeBool s.free, { s with free := s.free + 1 })

/-- TPLL_STATE as a number (Table 11 of ch. 02). -/
def tpllNum : TpllSt → Nat
  | .reset => 0 | .search => 1 | .acquire => 2 | .locked => 3 | .coast => 4 | .reacquire => 5 | .slewing => 6
  | .fault => 7

/-- The TPLL counts as locked where a command or check needs lock: TPLL_STATE locked or slewing (log entry 10). -/
def tpllLocked (s : State) : Bool := s.tb.st == .locked || s.tb.st == .slewing

/-- The Playbook is idle (R17): not started since reset, or halted. -/
def isIdle (s : State) : Bool := s.pb.st == .idle || s.pb.st == .fault

/-! ### Decisions -/

/-- A cause of Table 1 of ch. 14 is decided now; what fell due before a command is dealt with before it, and what the
command brings at the end of its step (R377, R379). -/
def decideCause (bit obj detail : Nat) (s : State) : State :=
  { s with safe := { s.safe with
    todo := s.safe.todo ++ [{ bit := bit, obj := obj, detail := detail, at_ := s.now, up := s.up }] } }

/-- A cause of Table 1 is gone. -/
def causeGone (bit : Nat) (s : State) : State :=
  if s.safe.active.testBit bit then { s with safe := { s.safe with active := s.safe.active - 2 ^ bit } } else s

/-- The ALERT_CODE of a cause bit (Table 1 of ch. 14). -/
def causeCode (bit : Nat) : Nat :=
  [0x0001, 0x0002, 0x0003, 0x0010, 0x0011, 0x0012, 0x0020, 0x0021, 0x0022, 0x0023, 0x0024, 0x0025, 0x0026, 0x0030,
   0x0031, 0x0032, 0x0040, 0x0041, 0x0042, 0x0050, 0x0051, 0x0060, 0x0061, 0x0062, 0x0063, 0x0064, 0x0070, 0x0071,
   0x0072, 0x0080, 0x00F0].getD bit 0

/-! ### Interrupts -/

/-- A condition of Table 3 of ch. 11 sets its bit in the PCI Express copy; vector 0 is sent when the enabled copy
leaves zero (R289). -/
def irqP (bit : Nat) (s : State) : State :=
  let new := s.ctl.irqPendP ||| 2 ^ bit
  let was := s.ctl.irqPendP &&& s.ctl.irqEnP
  let is_ := new &&& s.ctl.irqEnP
  { s with
    ctl := { s.ctl with irqPendP := new }
    outq := if was = 0 ∧ is_ ≠ 0 then { s.outq with outs := s.outq.outs ++ [.msix 0] } else s.outq }

/-- The same in the SPI copy; SPI_IRQ_N follows the copy (R289). -/
def irqS (bit : Nat) (s : State) : State :=
  { s with ctl := { s.ctl with irqPendS := s.ctl.irqPendS ||| 2 ^ bit } }

/-- A condition sets its bit in both copies. -/
def irqBoth (bit : Nat) (s : State) : State := irqS bit (irqP bit s)

/-- SPI_IRQ_N is low (R289). -/
def spiIrqLow (s : State) : Bool := decide (s.ctl.irqPendS &&& s.ctl.irqEnS ≠ 0)

/-! ### Journal (R312 to R318) -/

/-- Append a journal entry; the ring holds 4,096, and an unmirrored entry pushed out is lost (R318). -/
def journal (e : JEntry) (s : State) : State :=
  let e' := { e with jseq := (s.ctl.jseq + 1) % 2 ^ 32, dt := s.now, frameLo := s.pb.frame % 65536 }
  let l := s.ctl.jrnl ++ [e']
  if l.length ≤ 4096 then { s with ctl := { s.ctl with jrnl := l, jseq := e'.jseq } }
  else
    let lost := (l.getD 0 {}).jseq > s.ctl.jmirr
    let s1 := { s with ctl := { s.ctl with jrnl := l.drop 1, jseq := e'.jseq,
                                           jlost := if lost then satAdd 32 s.ctl.jlost 1 else s.ctl.jlost } }
    if lost then irqBoth 3 s1 else s1

/-- A journal entry the device makes itself (SRC_IF 0x3, SEQ 0, OPCODE 0). -/
def journalDev (kind : Nat) (s : State) : State :=
  journal { kind := kind, epoch := s.ctl.effEpoch, digest := s.ctl.effDigest,
            boundary := if isIdle s then 4 else 0 } s

/-- The interface a mailbox is assigned to (Table 6 of ch. 11). -/
def mbxIface (m : Nat) : Nat := if m < 16 then 0 else if m < 24 then 1 else 2

/-- A journal entry of a command. -/
def journalCmd (kind boundary : Nat) (c : CmdRec) (s : State) : State :=
  journal { kind := kind, srcIf := mbxIface c.mbx, cmd := c, epoch := s.ctl.effEpoch, digest := s.ctl.effDigest,
            boundary := boundary } s

/-- Entries awaiting the mirror (R318). -/
def unmirrored (s : State) : Nat := (s.ctl.jrnl.filter (fun e => decide (e.jseq > s.ctl.jmirr))).length

/-- The eight words of an entry (Table 14 of ch. 11). -/
def jWords (e : JEntry) : List Word :=
  [pack [(32, e.jseq), (16, e.cmd.opcode), (4, e.srcIf), (4, e.kind), (8, e.cmd.mbx)],
   pack [(16, e.cmd.tag), (16, e.cmd.txn), (32, e.cmd.seq)]] ++ dtWords e.dt ++
  [pack [(32, e.epoch), (32, e.digest)],
   pack [(32, crc32c (wordBytes e.cmd.payload)), (3, e.boundary), (13, 0), (16, e.frameLo)],
   e.cmd.payload.getD 0 0, e.cmd.payload.getD 1 0]

/-! ### Log (R427) -/

/-- A log record, if its kind is enabled in LOG_EN. -/
def logRec (kind detail : Nat) (s : State) : State :=
  if (cfgF s .pwr 0 0 59 52).testBit kind then
    { s with pwr := { s.pwr with logBuf := s.pwr.logBuf ++ [{ kind := kind, detail := detail, dt := s.now,
                                                              jseq := s.ctl.jseq, up := s.up }] } }
  else s

/-! ### Result queues (R350 to R363) -/

/-- Queue IDs exist up to this count (R350). -/
def queueCount (s : State) : Nat := if s.ctl.lpFitted then 1048576 else 4096

/-- The running part of a queue. -/
def qRun (s : State) (q : Nat) : QRun := tabGet {} s.outq.q q

/-- Change the running part of a queue. -/
def qUpd (q : Nat) (f : QRun → QRun) (s : State) : State :=
  { s with outq := { s.outq with q := tabUpd {} s.outq.q q f } }

/-- Change the counters of a class (Table 12 of ch. 13). -/
def clsUpd (c : Nat) (f : ClsCnt → ClsCnt) (s : State) : State :=
  { s with outq := { s.outq with cls := tabUpd {} s.outq.cls c f } }

/-- Something leaves the block. -/
def out (o : Out) (s : State) : State := { s with outq := { s.outq with outs := s.outq.outs ++ [o] } }

/-- The record header (Table 2 of ch. 13). -/
def recHeader (rtype cls cont more len count rseq : Nat) : Word :=
  pack [(4, rtype), (2, cls), (1, cont), (1, more), (16, len), (8, count), (32, rseq)]

/-- The fragments of a record (R354): each its header and at most 1,408 bytes of body. -/
def fragments (rtype cls count rseq : Nat) (body : List Word) : List (List Word) :=
  let cs := chunks 176 (body.length + 1) body
  cs.mapIdx (fun i b =>
    recHeader rtype cls (if i = 0 then 0 else 1) (if i + 1 = cs.length then 0 else 1) (8 * b.length)
      (if cs.length = 1 then count else i % 256) rseq :: b)

/-- The free space of a host ring in bytes (R361). -/
def ringFree (log2 prod cons : Nat) : Nat := 2 ^ log2 - (prod + 2 ^ log2 - cons) % 2 ^ log2 - 8

/-- The interrupt of a queue (R360): its vector, or IRQ_PENDING bit 5. -/
def queueIrq (q : Nat) (s : State) : State :=
  let vec := cfgF s .queue q 0 49 44
  qUpd q (fun r => { r with irqAt := some s.up, irqWait := false })
    (if vec = 0 then irqBoth 5 s else out (.msix vec) s)

/-- RSEQ of the record a fragment begins (R354). -/
def headRseq (ws : List Word) : Nat := fld (ws.getD 0 0) 31 0

/-- Bytes of a record with its fragment headers. -/
def recBytes (frags : List (List Word)) : Nat := 8 * frags.flatten.length

/-- The headers of a PAD record that fills words of a ring to its end, each with its byte index: fragments as R354 cuts
any record, the last taking what remains (R360; log entry 89). -/
def padHeads (cls rseq at_ words : Nat) : List (Nat × Word) :=
  let k := (words + 176) / 177
  (List.range k).map (fun i =>
    let n := min 177 (words - 177 * i)
    (at_ + 8 * 177 * i, recHeader 15 cls (if i = 0 then 0 else 1) (if i + 1 = k then 0 else 1) (8 * (n - 1))
      (if k = 1 then 1 else i % 256) rseq))

/-- A record goes into a host ring contiguously, with PAD to the ring's end before it where it would cross that end; then
PROD and the interrupt, at once for C0 and no sooner than IRQ_COAL_US after the last otherwise (R360). -/
def ringPlace (q : Nat) (frags : List (List Word)) (s : State) : State :=
  let size := 2 ^ cfgF s .queue q 0 43 39
  let p := (qRun s q).prod
  let crosses := decide (size < p + recBytes frags)
  let s0 := if crosses then
      (padHeads (cfgF s .queue q 0 62 61) (headRseq frags.flatten) p ((size - p) / 8)).foldl
        (fun a h => out (.hostWrite q h.1 [h.2]) a) s
    else s
  let p0 := if crosses then 0 else p
  let s1 := qUpd q (fun r => { r with prod := (p0 + recBytes frags) % size }) (out (.hostWrite q p0 frags.flatten) s0)
  let s2 := out (.hostProd q (qRun s1 q).prod) s1
  let coal := cfgF s2 .queue q 0 38 32
  let due := match (qRun s2 q).irqAt with
    | none => true
    | some t => decide (t + coal * fineUs ≤ s2.up)
  if cfgF s2 .queue q 0 62 61 = 0 || due then queueIrq q s2 else qUpd q (fun r => { r with irqWait := true }) s2

/-- A DMA write into the ring of a queue of a class that is served after a class (R370). -/
def dmaAfter (s : State) (cls : Nat) (o : Out) : Bool :=
  match o with
  | .hostWrite q _ _ => decide (cls < cfgF s .queue q 0 62 61)
  | _ => false

/-- A record is written into a host ring. Of the DMA writes of one command those of a class leave before those of the
classes after it, C0 first (R370; log entry 143). -/
def ringWrite (q : Nat) (frags : List (List Word)) (s : State) : State :=
  let s1 := ringPlace q frags { s with outq := { s.outq with outs := [] } }
  let later := dmaAfter s (cfgF s .queue q 0 62 61)
  let os := s.outq.outs.takeWhile (fun o => !later o) ++ s1.outq.outs ++ s.outq.outs.dropWhile (fun o => !later o)
  { s1 with outq := { s1.outq with outs := os } }

/-- Bytes that a record of n bytes takes in a host ring at index p, PAD included. -/
def ringNeed (size p n : Nat) : Nat := if p + n ≤ size then n else size - p + n

/-- n bytes fit the free space of a host ring as last computed (R361). -/
def ringFits (s : State) (q n : Nat) : Bool :=
  let log2 := cfgF s .queue q 0 43 39
  let r := qRun s q
  decide (ringNeed (2 ^ log2) r.prod n ≤ ringFree log2 r.prod r.cons)

/-- A port of the switch. -/
def portGet (s : State) (p : Nat) : Port := tabGet {} s.sw.ports p

/-- Change a port. -/
def portUpd (p : Nat) (f : Port → Port) (s : State) : State :=
  { s with sw := { s.sw with ports := tabUpd {} s.sw.ports p f } }

/-- Time on the scale that a port's schedule runs on, in 0.1 ns (R364, R367). -/
def schedT (s : State) (p : Nat) : Int :=
  s.now * 10 / 8192 + (if (portGet s p).onGptp then 10 * (portGet s p).gptpOfs else 0)

/-- Time moves on to an instant of a port's schedule that is still ahead. -/
def reachSched (p : Nat) (t : Int) (s : State) : State :=
  reach (-(-((t - (if (portGet s p).onGptp then 10 * (portGet s p).gptpOfs else 0)) * 8192) / 10)) s

/-- The intervals of a gate list as they run: cut at the cycle, the last one lasting to its end. -/
def gateRun (cycle : Nat) : Nat → List (Nat × Nat) → List (Nat × Nat × Nat)
  | _, [] => []
  | t, (g, d) :: r =>
    if cycle ≤ t then []
    else
      let e := if r.isEmpty then cycle else min cycle (t + d)
      (g, t, e - t) :: gateRun cycle (t + d) r

/-- A cycle of a list in 0.1 ns. -/
def gateCycle (l : GateList) : Nat := 10 * max 1 l.cycleNs

/-- A list as it is timed, in 0.1 ns: intervals rounded down to the datapath cycle of 6.4 ns (R364). -/
def gateTimes (l : GateList) : List (Nat × Nat × Nat) :=
  gateRun (gateCycle l) 0 (l.entries.map (fun e => (e.1, 10 * e.2 / 64 * 64)))

/-- The first cycle start of a list at or after its base time that has not passed, on its scale in 0.1 ns. -/
def cycleStart (l : GateList) (t : Int) : Int :=
  let base : Int := 10 * l.baseNs
  if t ≤ base then base else base + -((base - t) / (gateCycle l : Int)) * (gateCycle l : Int)

/-- A grandmaster is known to the device's one gPTP domain (R364, R367). -/
def gmKnown (s : State) : Bool := [0, 1].any (fun p => (portGet s p).asCapable && (portGet s p).gmKnown)

/-- The schedule of a port runs on gPTP time while SCHED_GPTP is set, the port is asCapable and a grandmaster is known.
At a change of time scale the interval in force lasts to the next cycle start on the new scale, where the operational
list restarts (R367; log entry 58). -/
def schedScale (p : Nat) (s : State) : State :=
  let x := portGet s p
  let g := cfgF s .time 2 0 55 55 == 1 && x.asCapable && gmKnown s
  if g == x.onGptp then s
  else
    let s1 := portUpd p (fun y => { y with onGptp := g }) s
    match x.oper with
    | some l => portUpd p (fun y => { y with
        gateIdx := (gateTimes l).length - 1, gateEnd := cycleStart l (schedT s1 p) }) s1
    | none => s1

/-- The schedules of both ports follow what is known of a grandmaster. -/
def schedBoth (s : State) : State := schedScale 1 (schedScale 0 s)

/-- A port goes down (R368): what it sends is lost, its neighbour is unknown; frames in its egress queues stay (log
entry 57). -/
def portDown (p : Nat) (s : State) : State :=
  schedBoth (portUpd p (fun x => { x with
    link := false, asCapable := false, gmKnown := false, preempt := false, sending := none, paused := none }) s)

/-- Bytes in the pool of 1,984 KiB: every frame below C0 that a port holds (R369). -/
def poolFill (s : State) : Nat :=
  s.sw.ports.foldl (fun a p =>
    let inQ := p.2.egress.foldl (fun b e => b + e.2.foldl (fun c f => if f.cls = 0 then c else c + f.len) 0) 0
    let one := fun (x : Option (Nat × Frame)) => match x with
      | some (_, f) => if f.cls = 0 then 0 else f.len
      | none => 0
    a + inQ + one p.2.sending + one p.2.paused) 0

/-- The pool limit of a level (R369). -/
def poolLimit : Nat → Nat
  | 1 => 1856 * 1024
  | 2 => 1472 * 1024
  | _ => 1024 * 1024

/-- Line time of bytes at 10 Gb/s, in fine units. -/
def lineTime (bytes : Nat) : Nat := (bytes * 65536 + 9) / 10

/-- Bytes of the frame on the line that have been sent, at a running time, since it, or the rest of it, began, after 8
bytes of preamble. -/
def lineSent (at_ : Nat) (x : Port) : Nat := (at_ - x.sendAt) * 10 / 65536 - 8

/-- 0.1 ns until the gate of a queue closes: none where it never does. -/
def gateLeft (s : State) (p q : Nat) : Option Nat :=
  let pt := portGet s p
  match pt.oper with
  | none => none
  | some l =>
    let run := gateTimes l
    let rest := run.drop (pt.gateIdx + 1) ++ run.take (pt.gateIdx + 1)
    let stay := rest.takeWhile (fun e => e.1.testBit q)
    if stay.length = rest.length then none
    else some ((pt.gateEnd - schedT s p).toNat + (stay.map (fun e => e.2.2)).sum)

/-- A frame starts only if it ends before its gate closes (R364, length-aware closing), at 10 Gb/s with 20 bytes of
preamble and gap. -/
def gateFits (s : State) (p q len : Nat) : Bool :=
  match gateLeft s p q with
  | none => true
  | some t => decide ((len + 20) * 8 ≤ t)

/-- The gates of a C0 window: queue 7 open, every other closed (R372). -/
def c0Gates (gates : Nat) : Bool := gates == 128

/-- The start of the C0 window that begins within 200 ns on a port, on its schedule: the next interval in force, or the
first one of the list that waits (R372). -/
def windowSoon (s : State) (p : Nat) : Option Int :=
  let pt := portGet s p
  let opens := fun (l : GateList) (i : Nat) => c0Gates ((gateTimes l).getD i (0, 0, 0)).1
  let next := match pt.oper with
    | some l => if opens l ((pt.gateIdx + 1) % max 1 (gateTimes l).length) && decide (pt.gateEnd - schedT s p ≤ 2000) then
        some pt.gateEnd else none
    | none => none
  match next, pt.admin with
  | some t, _ => some t
  | none, some l =>
    let t := cycleStart l (schedT s p)
    if opens l 0 && decide (t - schedT s p ≤ 2000) then some t else none
  | none, none => none

/-- Hold is asserted on a port with preemption: through a C0 window, and in the 200 ns before one (R372). -/
def holdNow (s : State) (p : Nat) : Bool := (portGet s p).preempt && ((portGet s p).hold || (windowSoon s p).isSome)

/-- The head of an egress queue goes on the line at a running time, or where a fragment cut off still leaves, after it. -/
def startFrame (p q at_ : Nat) (s : State) : State :=
  match tabGet [] (portGet s p).egress q with
  | f :: r => portUpd p (fun x => { x with
      sending := some (q, { f with began := max at_ x.sendAt + lineTime 8 }), sendAt := max at_ x.sendAt, sentB := 0, egress := tabSet [] x.egress q r }) s
  | [] => s

/-- The suspended frame goes on while the gate of its queue is open, unless hold is asserted (R370). -/
def resumeFrame (p : Nat) (s : State) : State :=
  let closed := match (portGet s p).paused with
    | some (q, _) => !(portGet s p).gatesOpen.testBit q
    | none => false
  if holdNow s p || closed then s
  else portUpd p (fun x => { x with sending := x.paused, sendAt := s.up, sentB := x.pausedB, paused := none }) s

/-- The frame on the line is suspended at a running time. It leaves in fragments of at least 64 bytes (R364): the cut
waits until so many have been sent, and there is none where fewer would remain. The line is free when the fragment has
left. -/
def cutFrame (p at_ : Nat) (s : State) : State :=
  let x := portGet s p
  let sent := lineSent (max at_ x.sendAt) x
  let cut := max 64 sent
  match x.sending with
  | none => s
  | some (_, f) =>
    if f.len < x.sentB + cut + 64 then s
    else portUpd p (fun y => { y with paused := y.sending, pausedB := y.sentB + cut, sending := none
                                      sendAt := max at_ y.sendAt + lineTime (cut - sent) }) s

/-- Hold before a C0 window suspends a preemptable frame on the line 200 ns before the window opens at a time of the
port's schedule (R372). -/
def holdCut (p : Nat) (win : Int) (s : State) : State :=
  let x := portGet s p
  match x.sending with
  | some (q, _) =>
    if (cfgF s .port p 0 60 53).testBit q || x.paused.isSome || !x.preempt then s
    else cutFrame p (s.up - ((schedT s p - (win - 2000)) * 8192 / 10).toNat) s
  | none => s

/-- The hold before the window that begins within 200 ns, if one does. -/
def holdFor (p : Nat) (s : State) : State :=
  match windowSoon s p with
  | some t => holdCut p t s
  | none => s

/-- An express frame suspends the preemptable one on the line, where it can be cut (R370). -/
def preemptFrame (p q : Nat) (s : State) : State :=
  let s1 := cutFrame p s.up s
  if (portGet s1 p).sending.isSome then s else startFrame p q s.up s1

/-- Choose the next frame of a port (R370): strict priority from queue 7 within the open gates; on a port with
preemption an express frame suspends a preemptable one, and a suspended frame goes on before a queue not above it.
The gate must stay open for the whole frame (R364, length-aware closing): `fits` gives that. Hold before a C0 window
comes first (R372). -/
def nextFrame (s0 : State) (p : Nat) (fits : Nat → Nat → Bool) : State :=
  let s := holdFor p s0
  let pt := portGet s p
  let express := cfgF s .port p 0 60 53
  let cand := ((List.range 8).reverse).find? (fun q =>
    pt.gatesOpen.testBit q && (match tabGet [] pt.egress q with
      | f :: _ => fits q f.len
      | [] => false) && (!holdNow s p || express.testBit q))
  if !pt.link then s
  else match pt.sending, pt.paused, cand with
  | none, none, some q => startFrame p q s.up s
  | none, some (q', _), some q => if q' < q ∧ express.testBit q then startFrame p q s.up s else resumeFrame p s
  | none, some _, none => resumeFrame p s
  | some (q', _), none, some q =>
    if pt.preempt ∧ express.testBit q ∧ !express.testBit q' ∧ q' < q then preemptFrame p q s else s
  | some _, some _, some _ => s
  | none, none, none => s
  | some _, _, none => s

/-- The next frame of a port starts where one can (R370). -/
def portServe (p : Nat) (s : State) : State := nextFrame s p (gateFits s p)

/-- A frame of a level is admitted: C0 always, the others while the pool is below their limit (R369). -/
def admits (s : State) (cls : Nat) : Bool := cls == 0 || decide (poolFill s < poolLimit cls)

/-- A frame enters an egress queue of a port if its level is admitted (R369); refused frames are counted. -/
def egressPut (p q : Nat) (f : Frame) (s : State) : State :=
  if admits s f.cls then
    portServe p (portUpd p (fun x => { x with egress := tabUpd [] x.egress q (· ++ [f]) }) s)
  else
    let s1 := portUpd p (fun x => { x with admitDrops := satAdd 32 x.admitDrops 1 }) s
    let s2 := if f.recs = 0 then s1
              else clsUpd f.cls (fun c => { c with dropsAdmit := satAdd 32 c.dropsAdmit f.recs }) s1
    match f.queue with
    | some qq => qUpd qq (fun r => { r with drops := satAdd 32 r.drops f.recs }) s2
    | none => s2

/-- The bytes of a device datagram's frame: Ethernet, VLAN tag, IPv4 and UDP headers and FCS around the payload. -/
def deviceFrameLen (tagged : Bool) (payload : Nat) : Nat := max 64 (14 + (if tagged then 4 else 0) + 20 + 8 + payload + 4)

/-- Whether a route is valid, and its ports (R365). -/
def routeOk (s : State) (r : Nat) : Bool := cfgF s .route r 2 63 63 = 1

/-- DEV_MAC, DEV_VID and DEV_IPV4 (Table 8 of ch. 13). -/
def devMac (s : State) : Nat := cfgF s .port 2 0 63 16
def devVid (s : State) : Nat := cfgF s .port 2 0 11 0
def devIp (s : State) : Nat := cfgF s .port 2 1 63 32

/-- The header that a route gives a device frame (Table 9 of ch. 13). -/
def routeHdr (s : State) (r cls : Nat) (rtag : Option Nat) : UdpHdr :=
  { dstMac := cfgF s .route r 0 63 16, srcMac := devMac s, vid := cfgF s .route r 0 15 4, pcp := Config.classPcp cls % 8
    rtag := rtag, dstIp := cfgF s .route r 1 63 32, srcIp := devIp s, dstUdp := cfgF s .route r 1 31 16
    srcUdp := cfgF s .route r 1 15 0 }

/-- Some port of a route takes a datagram of a class. -/
def datagramTaken (s : State) (route cls : Nat) : Bool :=
  [0, 1].any (fun p => (cfgF s .route route 0 3 2).testBit p && (portGet s p).link && admits s cls)

/-- A device datagram leaves by its route: to each port of EGRESS, in the egress queue of its class; with CB_EN it
takes the next sequence number of its stream in an R-TAG (R364 to R366). `recs` records have a fragment in it; `whole` of
them are delivered with it where some port takes it (Table 12 of ch. 13; log entry 144). -/
def sendDatagram (route cls : Nat) (queue : Option Nat) (recs whole : Nat) (payload : List Nat) (s : State) : State :=
  let egress := cfgF s .route route 0 3 2
  let cb := decide (cfgF s .route route 2 62 62 = 1)
  let st := cfgF s .route route 2 61 56
  let s1 := if cb then { s with sw := { s.sw with cb := tabUpd {} s.sw.cb st (fun c => { c with gen := (c.gen + 1) % 65536 }) } }
            else s
  let len := deviceFrameLen (decide (cfgF s .route route 0 15 4 ≠ 0)) (payload.length + (if cb then 6 else 0))
  let tag := if cb then some (tabGet {} s.sw.cb st).gen else none
  let f : Frame := { len := len, cls := cls, queue := queue, recs := recs, info := .udp (routeHdr s route cls tag)
                     bytes := payload }
  let s2 := if datagramTaken s1 route cls then clsUpd cls (fun c => { c with records := satAdd 64 c.records whole }) s1 else s1
  [0, 1].foldl (fun a p =>
    if egress.testBit p && (portGet a p).link then
      let q := if cls = 0 then 7 else cfgF a .port p 0 (55 - 3 * cls) (53 - 3 * cls)
      egressPut p q f a
    else if egress.testBit p ∧ cls ≠ 0 then
      -- a port that is down: records are refused at admission (R368)
      let a1 := portUpd p (fun x => { x with admitDrops := satAdd 32 x.admitDrops 1 }) a
      let a2 := clsUpd cls (fun c => { c with dropsAdmit := satAdd 32 c.dropsAdmit recs }) a1
      match queue with
      | some qq => qUpd qq (fun r => { r with drops := satAdd 32 r.drops recs }) a2
      | none => a2
    else a) s2

/-- The first fragment of a datagram goes on with a record of the one before (CONT of Table 2 of ch. 13). -/
def goesOn (frags : List (List Word)) : Bool := bitOf ((frags.headD []).getD 0 0) 57

/-- The records whose last fragment a datagram carries (MORE clear), less one of which an earlier fragment was lost. -/
def wholeRecs (torn : Bool) (frags : List (List Word)) : Nat :=
  let ends := (frags.filter (fun ws => !bitOf (ws.getD 0 0) 56)).length
  if torn && goesOn frags then ends - 1 else ends

/-- Whether a fragment of the record that goes on behind a datagram has been lost: with the datagram, or before it. -/
def tornNext (taken torn : Bool) (frags : List (List Word)) : Bool :=
  bitOf ((frags.reverse.headD []).getD 0 0) 56
    && (!taken || (torn && goesOn frags && frags.all (fun ws => bitOf (ws.getD 0 0) 56)))

/-- The datagram being filled of a queue leaves (R366). -/
def flushQueue (q : Nat) (s : State) : State :=
  let d := (qRun s q).dgram
  if d.frags.isEmpty then s
  else
    let route := cfgF s .queue q 1 7 0
    let num := tabGet 0 s.outq.dgNum route
    let dev := if cfgF s .team 0 0 63 63 = 1 then cfgF s .team 0 0 59 56 else 0
    let head := pack [(20, q), (4, dev), (8, 1), (32, num)]
    let s1 := { s with outq := { s.outq with dgNum := tabSet 0 s.outq.dgNum route ((num + 1) % 2 ^ 32) } }
    let cls := cfgF s .queue q 0 62 61
    let s2 := qUpd q (fun r => { r with dgram := {}, torn := tornNext (datagramTaken s route cls) r.torn d.frags }) s1
    sendDatagram route cls (some q) d.recs (wholeRecs (qRun s q).torn d.frags) (wordBytes (head :: d.frags.flatten)) s2

/-- A fragment enters the datagram being filled, which leaves first where it has no room: at most 1,464 bytes after its
own header. The datagram carries one record more unless the fragment goes on with one that it holds already (R366,
R369). -/
def netFrag (q : Nat) (ws : List Word) (s : State) : State :=
  let st := if recBytes (qRun s q).dgram.frags + 8 * ws.length ≤ 1464 then s else flushQueue q s
  qUpd q (fun r =>
    let fresh := r.dgram.frags.isEmpty
    { r with dgram := { frags := r.dgram.frags ++ [ws], firstAt := if fresh then st.up else r.dgram.firstAt
                        recs := if fresh || !bitOf (ws.getD 0 0) 57 then r.dgram.recs + 1 else r.dgram.recs } }) st

/-- Fragments enter the datagrams of a network queue: whole fragments, the datagram leaving when the next would not fit;
an ALERT leaves at once in one of its own (R366). -/
def netWrite (q : Nat) (alone : Bool) (frags : List (List Word)) (s : State) : State :=
  let s0 := if alone then flushQueue q s else s
  let s1 := frags.foldl (fun a ws => netFrag q ws a) s0
  let s2 := qUpd q (fun r => { r with prod := (r.prod + 1) % 2 ^ 32 }) s1
  if alone then flushQueue q s2 else s2

/-- A record of class C1, C2 or C3 is offered to a host ring: written, or dropped whole and counted where it does not fit
(R361). -/
def ringOffer (q : Nat) (frags : List (List Word)) (s : State) : State :=
  let cls := cfgF s .queue q 0 62 61
  if ringFits s q (recBytes frags) then
    clsUpd cls (fun c => { c with records := satAdd 64 c.records 1 }) (ringWrite q frags s)
  else
    clsUpd cls (fun c => { c with dropsRing := satAdd 16 c.dropsRing 1 })
      (qUpd q (fun x => { x with drops := satAdd 32 x.drops 1 }) s)

/-- CONS has been read, or the ring goes: the records that waited for it are offered in order (R361; log entry 123). -/
def ringDecide (q : Nat) (s : State) : State :=
  (qRun s q).wait.foldl (fun a f => ringOffer q f a) (qUpd q (fun r => { r with wait := [] }) s)

/-- A record of class C1, C2 or C3 enters a queue (R353, R354): it takes the queue's RSEQ. Where it does not fit the free
space of its host ring as last computed the device reads CONS, and the record waits for that read alone (R361; log entry
123). -/
def emitRecord (q rtype count : Nat) (body : List Word) (s : State) : State :=
  if q < queueCount s ∧ cfgF s .queue q 0 63 63 = 1 then
    let cls := cfgF s .queue q 0 62 61
    let r := qRun s q
    let frags := fragments rtype cls count r.rseq body
    let s1 := qUpd q (fun x => { x with rseq := (x.rseq + 1) % 2 ^ 32 }) s
    if cfgF s .queue q 0 60 59 = 0 then
      if r.wait.isEmpty && ringFits s q (recBytes frags) then ringOffer q frags s1
      else qUpd q (fun x => { x with wait := x.wait ++ [frags] }) s1
    else netWrite q false frags s1
  else s

/-! ### Alerts (R358, R361 to R363) -/

/-- The C0 store of a destination: 0 host ring, 1 network, 2 SPI. -/
def c0Get (s : State) (d : Nat) : List (Nat × List Word) :=
  if d = 0 then s.outq.c0Host else if d = 1 then s.outq.c0Net else s.outq.c0Spi

/-- Replace the C0 store of a destination. -/
def c0Set (d : Nat) (l : List (Nat × List Word)) (s : State) : State :=
  { s with outq := if d = 0 then { s.outq with c0Host := l } else if d = 1 then { s.outq with c0Net := l }
                   else { s.outq with c0Spi := l } }

/-- The ALERT_SEQ in an alert body (Table 5 of ch. 13). -/
def bodySeq (b : List Word) : Nat := fld (b.getD 4 0) 63 32

/-- Whether a destination can accept an alert of a queue now (R362, R363). -/
def destAccepts (d q : Nat) (body : List Word) (s : State) : Bool :=
  if d = 0 then ringFits s q 56
  else if d = 1 then
    let e := cfgF s .route (cfgF s .queue q 1 7 0) 0 3 2
    (e.testBit 0 && (portGet s 0).link) || (e.testBit 1 && (portGet s 1).link)
  else decide (bodySeq body ≤ s.outq.acked + 31)

/-- Deliver an alert of a queue to its destination. -/
def deliverAlert (d q : Nat) (body : List Word) (s : State) : State :=
  let r := qRun s q
  let frag := recHeader 4 0 0 0 48 1 r.rseq :: body
  let s0 := qUpd q (fun x => { x with rseq := (x.rseq + 1) % 2 ^ 32 }) s
  let s1 := clsUpd 0 (fun c => { c with records := satAdd 64 c.records 1 }) s0
  if d = 0 then ringWrite q [frag] s1
  else if d = 1 then netWrite q true [frag] s0
  else
    let n := bodySeq body
    irqBoth 6 { s1 with outq := { s1.outq with slots := tabPut s1.outq.slots (1 + n % 31) (frag ++ [0]), newest := n } }

/-- Deliver the held alerts of a destination in order while it accepts (R362). -/
def drainC0 (d : Nat) : Nat → State → State
  | 0, s => s
  | fuel + 1, s =>
    match c0Get s d with
    | [] => s
    | (q, b) :: r => if destAccepts d q b s then drainC0 d fuel (deliverAlert d q b (c0Set d r s)) else s

/-- MERGED of the newest held alert rises (R362). -/
def mergeInto (l : List (Nat × List Word)) : List (Nat × List Word) :=
  match l.reverse with
  | (q, b) :: r =>
    ((q, (setFld (b.getD 0 0) 43 36 (min 255 (fld (b.getD 0 0) 43 36 + 1))) :: b.drop 1) :: r).reverse
  | [] => []

/-- An alert for one queue: delivered in order, held, or merged into the newest of 256 held (R362). The first merge for
a destination is cause C0_MERGE (log entry 124). -/
def queueAlert (d q : Nat) (body : List Word) (s : State) : State :=
  let held := c0Get s d
  if held.isEmpty && destAccepts d q body s then deliverAlert d q body s
  else if held.length < 256 then c0Set d (held ++ [(q, body)]) s
  else
    let s1 := clsUpd 0 (fun c => { c with dropsRing := satAdd 16 c.dropsRing 1 })
      (qUpd q (fun r => { r with drops := satAdd 32 r.drops 1 }) (c0Set d (mergeInto held) s))
    if s.outq.merged.testBit d then s1
    else decideCause 29 q d { s1 with outq := { s1.outq with merged := s1.outq.merged ||| 2 ^ d } }

/-- The enabled alert queues: SRC_KIND 3, which lie at or below 1,023 (R352), with their destinations. -/
def alertQueues (s : State) : List (Nat × Nat) :=
  s.cfg.filterMap (fun e =>
    if kindIx .queue = e.1 / 2 ^ 20 then
      let w := e.2.getD 0 0
      if fld w 63 63 = 1 ∧ fld w 58 56 = 3 then some (fld w 60 59, e.1 % 2 ^ 20) else none
    else none)

/-- Send an alert (R358) with its decision time: the Umpire forms it and hands it to every enabled alert queue. -/
def sendAlert (kind code obj detail : Nat) (at_ : Int) (s : State) : State :=
  let n := (s.safe.alertSeq + 1) % 2 ^ 32
  let body := [pack [(16, code), (4, kind), (8, 0), (16, 0), (20, obj)]] ++ dtWords at_ ++
    [pack [(32, s.ctl.pubEpoch), (32, s.ctl.pubDigest)],
     pack [(32, n), (1, b2n s.safe.safe), (15, 0), (16, s.safe.firstCause)], BitVec.ofNat 64 detail]
  (alertQueues s).foldl (fun a dq => queueAlert dq.1 dq.2 body a) { s with safe := { s.safe with alertSeq := n } }

/-! ### MRAM writes (R424 to R426) -/

/-- The priority of a queued page write (R426). -/
def nvmPrio : NvmJob → Nat
  | .journal _ => 0
  | .userCopy _ _ _ => 1
  | .log _ => 3
  | .imageInvalidate _ => 2 | .imagePage _ _ _ => 2 | .imageValid _ => 2 | .imageErase _ => 2 | .imageSelect _ => 2
  | .bootSlot _ => 2

/-- Start the next queued page write if none is in progress; a write once started is never pre-empted, and none starts
once a shutdown has been decided (R418). -/
def nvmKick (s : State) : State :=
  if s.pwr.shutAt.isSome then s
  else match s.pwr.nvmNow with
  | some _ => s
  | none =>
    match sortBy nvmPrio s.pwr.nvmQ with
    | [] => s
    | j :: _ => { s with pwr := { s.pwr with nvmNow := some j, nvmRetry := false, nvmQ := s.pwr.nvmQ.erase j } }

/-- Queue a page write. -/
def nvmPut (j : NvmJob) (s : State) : State := nvmKick { s with pwr := { s.pwr with nvmQ := s.pwr.nvmQ ++ [j] } }

/-! ### The journal's mirror (R313, R314, R318) -/

/-- The entries that the mirror can write now: not yet mirrored, their digests filled, up to the first that is not
(R314). -/
def mirrorable (s : State) : List JEntry :=
  (s.ctl.jrnl.filter (fun e => decide (e.jseq > s.ctl.jmirr))).takeWhile (fun e => e.digestOk)

/-- A mirror write is queued or in progress. -/
def mirrorBusy (s : State) : Bool :=
  let j := fun (x : NvmJob) => match x with
    | .journal _ => true
    | .userCopy _ _ _ => false | .imageInvalidate _ => false | .imagePage _ _ _ => false | .imageValid _ => false
    | .imageErase _ => false | .imageSelect _ => false | .bootSlot _ => false | .log _ => false
  s.pwr.nvmQ.any j || (match s.pwr.nvmNow with
    | some x => j x
    | none => false)

/-- The mirror writes every entry it can, page after page of 64 (R313). -/
def mirrorStart (s : State) : State :=
  if mirrorBusy s then s
  else (chunks 64 4096 (mirrorable s)).foldl (fun a p => nvmPut (.journal ((p.reverse.headD {}).jseq)) a) s

/-- Every entry not yet mirrored is to be written: at the expansion of a FRAME descriptor, or 40 ms after the boundary
before; a mirror write in progress delays it (R313). -/
def mirrorTick (s : State) : State :=
  let s1 := { s with ctl := { s.ctl with mirrorAt := s.up } }
  if mirrorBusy s then { s1 with ctl := { s1.ctl with mirrorWait := true } } else mirrorStart s1

/-- A mirror write that waits starts once none is in progress, and with more than 1,024 entries waiting page follows
page (R313, R318); not once a shutdown has begun (R418). -/
def mirrorGo (s : State) : State :=
  if mirrorBusy s || s.pwr.shutAt.isSome || s.pwr.shut then s
  else if s.ctl.mirrorWait || decide (1024 < unmirrored s) then
    mirrorStart { s with ctl := { s.ctl with mirrorWait := false } }
  else s

end Sys2Proof.Machine
end

