-- ==== Sys2Proof/Machine/MailOps.lean ====
section
/-! DEFINITION. Mailboxes and responses (R290 to R302, R321), and the end of a background command (R298). -/

namespace Sys2Proof.Machine

/-! ### Status codes (Table 15 of ch. 11) -/

abbrev stOk : Nat := 0x0000
abbrev stBusy : Nat := 0x0001
abbrev stBadOpcode : Nat := 0x0002
abbrev stBadLength : Nat := 0x0003
abbrev stRange : Nat := 0x0004
abbrev stIncons : Nat := 0x0005
abbrev stNotIdle : Nat := 0x0006
abbrev stNvmFail : Nat := 0x0008
abbrev stSafe : Nat := 0x0009
abbrev stNoRes : Nat := 0x000A
abbrev stCalFailed : Nat := 0x000B
abbrev stNotLocked : Nat := 0x000C
abbrev stUnderrun : Nat := 0x000D
abbrev stNoTxn : Nat := 0x0010
abbrev stEpoch : Nat := 0x0011
abbrev stNotStage : Nat := 0x0012

/-! ### Mailboxes -/

/-- A mailbox. -/
def mbxGet (s : State) (m : Nat) : Mbx := tabGet {} s.ctl.mbx m

/-- Replace a mailbox. -/
def mbxPut (m : Nat) (b : Mbx) (s : State) : State := { s with ctl := { s.ctl with mbx := tabSet {} s.ctl.mbx m b } }

/-- Word w of a command slot (R292). -/
def slotWord (s : State) (m w : Nat) : Word := tabGet 0 (mbxGet s m).cmd w

/-- A slot holding these words, the rest zero. -/
def slotOf (ws : List Word) : Tab Word := ws.zipIdx.foldl (fun t p => tabSet 0 t p.2 p.1) []

/-- A bit of response word 1 and the words of a response (Table 7 of ch. 11). A response copies word 0 of its command,
with LENGTH its own (R292, R327). -/
def respWords (s : State) (m status : Nat) (raised staged resent : Bool) (seq : Nat) (ws : List Word) : List Word :=
  setFld (slotWord s m 0) 47 32 (8 * ws.length)
    :: pack [(16, status), (4, mbxIface m), (1, 0), (1, b2n raised), (1, b2n resent), (1, b2n staged), (8, m), (32, seq)]
    :: ws

/-- The response datagram of a UDP mailbox: to its sender, on the port of arrival, class C1 (R301). -/
def udpReply (m : Nat) (src : UdpSrc) (ws : List Word) (s : State) : State :=
  let bytes := wordBytes (pack [(8, m), (8, 1), (48, 0)] :: ws)
  let hdr : UdpHdr := { dstMac := src.mac, srcMac := devMac s, vid := devVid s, pcp := Config.classPcp 1 % 8
                        dstIp := src.ip, srcIp := devIp s, dstUdp := src.port, srcUdp := cfgF s .ctrlPort 0 0 15 0 }
  egressPut src.swPort (cfgF s .port src.swPort 0 52 50)
    { len := deviceFrameLen (decide (devVid s ≠ 0)) bytes.length, cls := 1, info := .udp hdr, bytes := bytes } s

/-- Write the response of a mailbox: it enters DONE, MBX_DONE and IRQ bit 0 of its interface are set (R289, R291). -/
def respond (m status : Nat) (raised staged : Bool) (seq : Nat) (ws : List Word) (s : State) : State :=
  let b := mbxGet s m
  let r := respWords s m status raised staged false seq ws
  let s1 := mbxPut m { b with st := .done, resp := slotOf r } s
  match mbxIface m with
  | 0 => irqP 0 s1
  | 1 => irqS 0 s1
  | _ => match b.src with
    | some src => udpReply m src r s1
    | none => s1

/-- Whether a background command of a group runs (R298). -/
def bgBusy (s : State) (g : Nat) : Bool := s.ctl.bg.any (fun b => b.group == g)

/-- A background command of a group ends with a status and response words; it is journaled where it changed something
(R312; log entry 24). -/
def bgDone (g : Nat) (changed : Bool) (status : Nat) (ws : List Word) (s : State) : State :=
  match s.ctl.bg.find? (fun b => b.group == g) with
  | none => s
  | some b =>
    let s1 := { s with ctl := { s.ctl with bg := s.ctl.bg.filter (fun x => x.group != g) } }
    let s2 := if changed then journalCmd 0 (if isIdle s1 then 4 else 0) b.cmd s1 else s1
    if s2.ctl.fwFault then s2 else respond b.cmd.mbx status false false b.cmd.seq ws s2

/-- Word 0 of a bg command's group: the high byte of its opcode. -/
def groupOf (opcode : Nat) : Nat := opcode / 256

end Sys2Proof.Machine
end

