-- ==== Sys2Proof/Machine/TimeOps.lean ====
section
/-! DEFINITION. The timebase's shared operations (ch. 02): expected counts, coast, faults, phase steps and status. -/

namespace Sys2Proof.Machine

/-- REF_FREQ_HZ in force (Table 3 of ch. 02). -/
def refHz (s : State) : Nat := cfgF s .tpll 0 0 27 0

/-- HOLDOVER_US in force (Table 10 of ch. 02). -/
def holdoverUs (s : State) : Nat := cfgF s .mode 0 0 48 32

/-- RETURN_MODE is FOLLOW (R61). -/
def followMode (s : State) : Bool := cfgF s .mode 0 0 15 15 == 1

/-- TEAM_EN is set (Table 2 of ch. 10). -/
def teamEn (s : State) : Bool := cfgF s .team 0 0 63 63 == 1

/-- The device is a follower of a team. -/
def isFollower (s : State) : Bool := teamEn s && cfgF s .team 0 0 62 62 == 0

/-- The device is the master of a team. -/
def isMaster (s : State) : Bool := teamEn s && cfgF s .team 0 0 62 62 == 1

/-- DEV_NUM of the device. -/
def devNum (s : State) : Nat := cfgF s .team 0 0 59 56

/-- Members of the team less one. -/
def teamSizeM1 (s : State) : Nat := cfgF s .team 0 0 55 52

/-- Every hop of this device is up. -/
def hopsUp (s : State) : Bool :=
  (s.team.uplink || devNum s == 0) && (s.team.downlink || devNum s == teamSizeM1 s)

/-- EXP of R39: counts of 1 GHz in 1,024 reference cycles. -/
def lockExp (hz : Nat) : Nat := (rndDiv (1024000000000 : Int) hz).toNat

/-- EXP of the SPLL and the NPLL: their VCO divided by 8 over 1,024 SD_REFCLK cycles (R40; log entry 15). -/
def sdExp (pll : Nat) : Nat := if pll = 1 then 4915 else 8448

/-- A count lies within EXP ± d. -/
def within (count exp_ d : Nat) : Bool := decide (exp_ ≤ count + d) && decide (count ≤ exp_ + d)

/-- REF_DIV, FB_INT and FB_FRAC derived from REF_FREQ_HZ (R38). -/
def refDiv (hz : Nat) : Nat := (hz + 99999999) / 100000000

/-- The feedback divider N in units of 2⁻²⁴, its fraction rounded to nearest (R38). -/
def fbDiv (hz : Nat) : Nat := (rndDiv ((8000000000 * refDiv hz * 2 ^ 24 : Nat) : Int) hz).toNat

/-- The fractional setting in force: the one a band hop has loaded, else the one of R38 (R42). -/
def fracNow (s : State) : Nat := s.tb.fracHop.getD (fbDiv (refHz s) % 2 ^ 24)

/-- Word 1 of TB_TPLL_CFG, derived from word 0 (R37, R38), with the fractional setting in force (R42). -/
def tpllWord1 (s : State) : Word :=
  let hz := refHz s
  pack [(26, 0), (4, refDiv hz), (10, fbDiv hz / 2 ^ 24), (24, fracNow s)]

/-- A phase wrapped into half a reference period either side of zero (R58), to the nearest fine unit. -/
def wrapPhase (hz : Nat) (x : Int) : Int :=
  let n := rndDiv (x * hz) (fineNs * 1000000000)
  x - rndDiv (n * ((fineNs * 1000000000 : Nat) : Int)) hz

/-- The mean of AON periods, the nominal period where none has been seen (R54; log entry 7). -/
def aonMean (l : List Nat) : Nat :=
  if l.isEmpty then 256000000 else (rndDiv ((l.foldl (· + ·) 0 : Nat) : Int) l.length).toNat

/-- The last 64 of the periods held. -/
def aonLast (l : List Nat) : List Nat := l.drop (l.length - 64)

/-- A time counted in calibrated AON periods, the number of periods to the nearest (R54, R376; log entry 129). -/
def aonSpan (s : State) (t : Nat) : Nat := (rndDiv (t : Int) (max 1 s.tb.aonCal)).toNat * s.tb.aonCal

/-- The AON calibration is frozen: a period that ended after the last good reference edge, `ago` before now, is left out
(R54). -/
def aonFreeze (ago : Nat) (s : State) : State :=
  if s.up < s.tb.aonAt + ago then
    { s with tb := { s.tb with aonHist := s.tb.aonHist.dropLast, aonCal := aonMean (aonLast s.tb.aonHist.dropLast) } }
  else s

/-- The loop control word is frozen at the mean of its last 1,024 updates (Table 7 of ch. 02): the mean that the event
gives, or a free value where no event does (log entry 103). -/
def freezeLoop (mean : Option Nat) (s : State) : State :=
  match mean with
  | some m => { s with tb := { s.tb with loopWord := m % 1024 } }
  | none =>
    let (f, s1) := drawFree s
    { s1 with tb := { s1.tb with loopWord := f % 1024 } }

/-- Some shot of a pixel had a window open at or after an instant, of those whose windows have opened by now (R56,
R285). -/
def pixReaches (t : Int) (x : Pix) : Bool :=
  match x.winEnd with
  | some e => decide (t < e)
  | none => false

/-- The pixels with a window open now are changed (R285). -/
def markOpen (f : Pix → Pix) (s : State) : State :=
  { s with chan := s.chan.map (fun p => if pixReaches s.now p.2.pix then (p.1, { p.2 with pix := f p.2.pix }) else p) }

/-- TEAM_COAST begins to hold: pixels with a window open carry it (R285). -/
def markTeamCoast (s : State) : State := if teamEn s then markOpen (fun x => { x with teamCoast := true }) s else s

/-- TEAM_STALE begins to hold (R282, R285). -/
def markTeamStale (s : State) : State := if teamEn s then markOpen (fun x => { x with teamStale := true }) s else s

/-- The records of a recorder reach past an instant: it records, or it holds a capture that froze later. -/
def recReaches (t : Int) (r : Rec) : Bool :=
  match r.st with
  | .hold => true | .armed => true | .filling => true
  | .frozen => decide (t < r.frzDt) | .reading => decide (t < r.frzDt)
  | .disarmed => false

/-- Mark every pixel that had a window open at or after an instant with COAST (R56), being accumulated or closed and not
yet published. A capture with records past the instant notes it (R56, R188); where two coasts fall in one capture it keeps
the later one (DESIGN CHOICE, log entry 151). -/
def markCoast (t : Int) (s : State) : State :=
  let mk := fun (x : Pix) => if pixReaches t x then { x with coast := true } else x
  let note := fun (r : Rec) => if recReaches t r then { r with coasted := true, lossDt := t } else r
  { s with
    tile := s.tile.map (fun (p : Nat × Tile) => (p.1, { p.2 with rcd := note p.2.rcd }))
    chan := s.chan.map (fun p => (p.1, { p.2 with pix := mk p.2.pix }))
    eng := s.eng.map (fun p => (p.1,
      let m := fun (c : Closed) => { c with pix := mk c.pix }
      { p.2 with closed := p.2.closed.map m
                 pass := p.2.pass.map (fun d => { d with px := m d.px })
                 tail := p.2.tail.map (fun d => { d with px := m d.px }) })) }

/-- Loss of the reference or of lock (Table 7 of ch. 02): the loop word is frozen at the mean of its last 1,024 updates,
COAST, the holdover timer starts, cause REF_LOSS is decided. `ago` is the time since the last good reference edge. A
5 ms limit that runs (R37, R333) runs on. A FOLLOW slew ends with it, and the shots of the coast carry no SLEW though
PHASE_OFS has not reached zero (R61; DESIGN CHOICE, log entry 135). -/
def goCoast (ago : Nat) (mean : Option Nat) (s0 : State) : State :=
  let s := freezeLoop mean (aonFreeze ago s0)
  let s1 := { s with tb := { s.tb with
    st := .coast, coast := true, coastCount := satAdd 32 s.tb.coastCount 1
    holdAt := match s.tb.holdAt with | some t => some t | none => some s.up
    lastGood := s.now - ago, good := 0, judging := s.tb.refPresent } }
  let s2 := markCoast (s.now - ago) s1
  decideCause 14 0 (holdoverUs s1) (if isMaster s then markTeamCoast s2 else s2)

/-- A frequency fault (R53, R54): FREQ_FAULT, TPLL_STATE 7, the loop frozen; with the reference present the state is
left at once for re-acquisition under R58. It ends a slew as a coast does (log entry 135); in a coast the last good
reference edge stays the one before it, else the fault, from which pixels carry COAST, counts from the end of the window
that failed (R53; DESIGN CHOICE, log entry 153). -/
def freqFault (ppm : Nat) (s0 : State) : State :=
  let s := if s0.tb.coast then s0 else freezeLoop none s0
  let s1 := { s with tb := { s.tb with
    st := if s.tb.refPresent then .reacquire else .fault
    judging := s.tb.refPresent, refBad := false, coast := true, freqFault := true, good := 0, freqHold := false
    lockAt := none, lastGood := if s.tb.coast then s.tb.lastGood else s.now } }
  let s2 := markCoast s1.tb.lastGood s1
  decideCause 13 0 ppm (if isMaster s then markTeamCoast s2 else s2)

/-- An error of a count in ppm, to the nearest (R455). -/
def errPpm (count exp_ : Nat) : Nat := (rndDiv (((max count exp_ - min count exp_) * 1000000 : Nat) : Int) (max 1 exp_)).toNat

/-- A count differs from its expected value by more than 1,000 ppm (R53, R54). -/
def ppmOver (count exp_ : Nat) : Bool := decide (1000 * exp_ < (max count exp_ - min count exp_) * 1000000)

/-- Start a VCO band search (R42): lock is given up; a search starts over when the reference returns (log entry 18). -/
def bandSearch (s : State) : State :=
  { s with tb := { s.tb with st := .search, good := 0, judging := false, lockAt := none } }

/-- HOLDOVER_LEFT_US (Table 11 of ch. 02), to the nearest microsecond. -/
def holdoverLeft (s : State) : Nat :=
  match s.tb.holdAt with
  | some t => wholeUs (t + holdoverUs s * fineUs - s.up)
  | none => 0

/-- TB_STATUS words 0 and 1 (Table 11 of ch. 02). -/
def tbStatus (s : State) : List Word :=
  [pack [(32, twos 32 s.tb.phaseOfs), (4, tpllNum s.tb.st), (1, b2n s.tb.refPresent), (1, b2n s.tb.refBad),
     (1, b2n s.tb.coast), (1, b2n (s.tb.st == .slewing)), (1, b2n s.tb.realign), (1, b2n s.tb.spll.lock),
     (1, b2n s.tb.npll.lock), (1, b2n s.tb.freqFault), (4, s.tb.bandSlot), (6, s.tb.vcoBand), (10, s.tb.loopWord)],
   pack [(32, s.tb.coastCount), (32, holdoverLeft s)]]

/-- The half-period of the down modes that a device time lies in, counted from the start of the modulation: the
transfers made, 40·mode ticks each, and the half-periods since the last of them (R48, R50). -/
def spreadHalf (s : State) (mode : Nat) (u : Int) : Int :=
  ((s.tb.ssTicks / (40 * mode) : Nat) : Int) + (u - s.tb.ssAt) / ((16 * fineUs : Nat) : Int)

/-- The lead D of unspread time over the spread count at any device time (R48 to R50), to the nearest fine unit (log
entry 22). In the down modes D grows over each half-period from the transfer at its start; the halves in which the
deviation falls back mirror those in which it grows. -/
def spreadD (s : State) (u : Int) : Int :=
  let h := 16 * fineUs
  let t := ((u - s.tb.ssAt) % ((h : Nat) : Int)).toNat
  -- the deviation is 1/400 (0.25 %) or 1/200 (0.5 %)
  let down := fun (mode den : Nat) =>
    if spreadHalf s mode u % 2 = 1 then rndDiv ((2 * h * t - t * t : Nat) : Int) (den * 2 * h)
    else rndDiv ((t * t : Nat) : Int) (den * 2 * h)
  match cfgF s .mode 0 0 8 6 with
  | 1 => down 1 400
  | 2 => down 2 200
  | 3 =>
    -- centred: four quarters of 8 µs; D rises over the first half-period and falls over the second
    let q := 8 * fineUs
    let p := ((u - s.tb.ssAt) % ((4 * q : Nat) : Int)).toNat
    let x := if p < 2 * q then p else p - 2 * q
    let d := if x ≤ q then (x * x : Nat) else 2 * q * q - (2 * q - x) * (2 * q - x)
    let full := 2 * q * q
    if p < 2 * q then rndDiv ((d : Nat) : Int) (400 * 2 * q) else rndDiv (((full - d : Nat)) : Int) (400 * 2 * q)
  | _ => 0

end Sys2Proof.Machine
end

