-- ==== Sys2Proof/Machine/EmitOps.lean ====
section
/-! DEFINITION. The emitter channels' shared operations (ch. 03) with the correction terms of ch. 09: edge times and
launch points, the accountant, trips, output states and loopback. -/

namespace Sys2Proof.Machine

/-- An emitter channel. -/
def emGet (s : State) (ch : Nat) : EmCh := tabGet {} s.em ch

/-- Change an emitter channel. -/
def emUpd (ch : Nat) (f : EmCh → EmCh) (s : State) : State := { s with em := tabUpd {} s.em ch f }

/-! ### Factory tables of the band in force (R243 to R245) -/

/-- The two factory temperatures of a band and its weight in ten-thousandths (Table 3 of ch. 09). -/
def bandRef : Nat → Nat × Nat × Int
  | 0 => (0, 1, 3750)
  | 1 => (1, 2, 1667)
  | 2 => (2, 3, 1250)
  | 3 => (2, 3, 8750)
  | 4 => (3, 4, 5625)
  | _ => (3, 4, 10625)

/-- A factory value of a band by interpolation between the per-temperature values (R245). -/
def bandVal (t : Nat → Int) (b : Nat) : Int :=
  let r := bandRef b
  rndDiv (t r.1 * 10000 + (t r.2.1 - t r.1) * r.2.2) 10000

/-- An entry of n bits of a factory table: signed, or not (Table 2 of ch. 09). -/
def entS (n : Nat) (t : Tab Int) (i : Nat) : Int := signed n (twos n (tabGet 0 t i))
def entU (n : Nat) (t : Tab Int) (i : Nat) : Int := (twos n (tabGet 0 t i) : Nat)

/-- A band value of a table read by entries, five per object; zero while FACTORY_OK is clear (R244). -/
def factVal (s : State) (ent : Nat → Int) (obj b : Nat) : Int :=
  if s.cal.factoryOk then bandVal (fun k => ent (obj * 5 + k)) b else 0

/-- A factory value that is the same in every band. -/
def factOne (s : State) (ent : Nat → Int) (obj : Nat) : Int := if s.cal.factoryOk then ent obj else 0

/-- The factory skew S_F of a channel in a band (R248, R456). -/
def skewF (s : State) (ch b : Nat) : Int := factVal s (entS 32 s.fact.skew) ch b

/-- Bytes of the factory partition, and those that Table 2 takes; the rest is reserved (R243). -/
abbrev factBytes : Nat := 524288
abbrev factUsed : Nat := 41600 + 327680 + 40960 + 20480 + 1360 + 10580 + 1280 + 4096 + 512 + 4096

/-- The factory tables in the order of Table 2 of ch. 09: entries, bytes of an entry, contents. -/
def factTables (f : Factory) : List (Nat × Nat × Tab Int) :=
  [(20800, 2, f.lE), (327680, 1, f.lR), (40960, 1, f.lRef), (10240, 2, f.cmpDelay), (680, 2, f.monDelay), (10580, 1, f.trim),
   (320, 4, f.skew), (1024, 4, f.zero), (128, 4, f.sense)]

/-- The CRC-32C of a table of n entries of w bytes, each least significant byte first (R244; log entry 8). -/
def tableCrc (n w : Nat) (t : Tab Int) : Nat :=
  let r := t.foldl (fun (a : Nat × Nat) e =>
    (e.1 + 1, (leBytes w (twos (8 * w) e.2)).foldl crcByte (crcZeros (w * (e.1 - a.1)) a.2))) (0, 0xFFFFFFFF)
  crcZeros (w * (n - r.1)) r.2 ^^^ 0xFFFFFFFF

/-- A table's CRC is the header's; a header entry not listed is that of an all-zero table. -/
def tableOk (f : Factory) (k : Nat) (n w : Nat) (t : Tab Int) : Bool :=
  match f.crcs.find? (fun e => e.1 == k) with
  | some e => tableCrc n w t == e.2
  | none => t.isEmpty || tableCrc n w t == tableCrc n w []

/-- Table k of n entries as a read with misread cells finds it. -/
def tableRead (k n : Nat) (ms : List Misread) (t : Tab Int) : Tab Int :=
  ms.foldl (fun t m => if m.table = k ∧ m.entry < n then tabSet 0 t m.entry m.value else t) t

/-- The first factory table whose CRC does not match as the firmware reads it (R244). -/
def factBad (f : Factory) (ms : List Misread) : Option Nat :=
  ((factTables f).zipIdx.find? (fun x => !tableOk f x.2 x.1.1 x.1.2.1 (tableRead x.2 x.1.1 ms x.1.2.2))).map (fun x => x.2)

/-- TEAM_OFS in force (Table 6 of ch. 09); zero on the master, whose field keeps and reads back what was written to it
(R271; DESIGN CHOICE, log entry 136). -/
def teamOfs (s : State) : Int := if isMaster s then 0 else sfld (cfgW s .calDev 0 0) 23 0

/-- K_SKEW (R247). -/
def kSkew (s : State) (ch : Nat) : Int := skewF s ch s.cal.bandActive + teamOfs s

/-- K_USER of an edge with programmed time u (R247). -/
def kUser (s : State) (ch : Nat) (u : Int) : Int :=
  let w := cfgW s .calEm ch 0
  sfld w 63 40 + rndDiv (sfld w 27 16 * (u % 4096 - 2048)) 65536

/-- The linearity correction L of a fine code: breakpoints every 64 codes, linear between them, to the nearest unit
(R243, R455). -/
def linE (s : State) (ch : Nat) (f : Nat) : Int :=
  let b := fun (k : Nat) => factVal s (fun i => entS 16 s.fact.lE (i * 65 + k)) ch s.cal.bandActive
  let k := f / 64
  rndDiv (64 * b k + (b (k + 1) - b k) * (f % 64 : Nat)) 64

/-- The launch point of an edge (R69): its spread cycle and fine code. -/
def launchPoint (s : State) (ch : Nat) (u : Int) : Int × Int :=
  let u' := u + kSkew s ch + kUser s ch u
  let c := u' - spreadD s u'
  let f := (c % 4096).toNat
  let g := (f : Int) + linE s ch f
  (c / 4096 + g / 4096, g % 4096)

/-- The launch time of an edge on the unspread scale, without the linearity term: programmed time plus K terms. -/
def launchAt (s : State) (ch : Nat) (u : Int) : Int := u + kSkew s ch + kUser s ch u

/-! ### Volleys -/

/-- The stretch of pulse p of a channel in a band (Table 3 of ch. 03). -/
def stretch (s : State) (ch band p : Nat) : Nat := cfgF s .stretch ch band (16 * p + 15) (16 * p)

/-- The largest stretch of a pulse among a band and its neighbours (R84). -/
def stretchMax (b : Nat) (x : Pulse) : Nat :=
  max (x.stretch.getD b 0) (max (if b = 0 then 0 else x.stretch.getD (b - 1) 0) (x.stretch.getD (b + 1) 0))

/-- The valid pulses of a pattern at a base time on a channel, each with the stretches of its place (R67, R81, Tables 2
and 3 of ch. 03). -/
def pulsesOf (s : State) (ch vp : Nat) (base : Int) : List Pulse :=
  (List.range 4).filterMap (fun p =>
    let w := cfgW s .volley vp p
    if fld w 63 63 = 1 then
      some { rise := base + fld w 35 0, width := fld w 59 36, stretch := (List.range 6).map (fun b => stretch s ch b p) }
    else none)

/-- The programmed edges of pulses, rising then falling, the falling edge with the stretch of the band in force (R67,
R83). -/
def edgesOf (s : State) (ps : List Pulse) : List Int :=
  (ps.map (fun (x : Pulse) => ([x.rise, x.rise + (x.width : Int) + (x.stretch.getD s.cal.bandActive 0 : Int)] : List Int))).flatten

/-- The weight of a volley (R84). -/
def volleyWeight (s : State) (ps : List Pulse) (code : Nat) : Nat :=
  (ps.map (fun x => ((x.width + stretchMax s.cal.bandActive x + 255) / 256) * code)).foldl (· + ·) 0

/-- Pending edges of a channel (Table 10 of ch. 03). -/
def pendingEdges (e : EmCh) : Nat :=
  e.vols.foldl (fun a v => if v.dead then a else a + (2 * v.pulses.length - v.launched)) 0

/-- The queue of a volley's channel has no room for it (R72). -/
def queueFull (o : Offer) (s : State) : Bool := decide (2048 < pendingEdges (emGet s o.ch) + 2 * o.pulses.length)

/-- A volley has launched an edge and has edges to come. -/
def inProgress (v : Vol) : Bool := !v.dead && decide (0 < v.launched) && decide (v.launched < 2 * v.pulses.length)

/-- A volley waits for its first edge. -/
def notStarted (v : Vol) : Bool := !v.dead && decide (v.launched = 0)

/-- The gate of a channel is high: a pulse in progress (R89). -/
def gateHigh (e : EmCh) : Bool := e.vols.any (fun v => inProgress v && v.launched % 2 == 1)

/-- How long launched volleys are kept for spacing, rate and blanking: 64 µs. -/
abbrev keepFine : Nat := 64 * fineUs

/-- Forget volleys that are over for longer than that. -/
def pruneVols (s : State) (vs : List Vol) : List Vol :=
  vs.filter (fun v => inProgress v || notStarted v ||
    v.pulses.any (fun p => decide (s.now ≤ p.rise + p.width + keepFine)))

/-- The rising edges of a channel that open blank windows: launched ones, and those still to launch (R145, R146). -/
def riseTimes (s : State) (ch : Nat) : List Int :=
  let e := emGet s ch
  (e.vols.map (fun v => (v.pulses.zipIdx.filterMap (fun q =>
    if 2 * q.2 < v.launched || (!v.dead && !e.latched && !s.safe.safe) then some q.1.rise else none)))).flatten

/-! ### Refused volleys in the pixels (R76) -/

/-- The shot with a sequence number counts in the refused-shot field of every pixel it contributes to: in the shots
not yet merged, and in the pixels it was merged into, open, closed or in the engine. -/
def markRefused (seq : Nat) (s : State) : State :=
  let mk := fun (e : ShotEnt) => if e.seq = seq then { e with volleyRefused := true } else e
  let mp := fun (x : Pix) =>
    if x.acqSeqs.contains seq && !x.refSeqs.contains seq then { x with refSeqs := x.refSeqs ++ [seq] } else x
  let mc := fun (c : Closed) => { c with pix := mp c.pix }
  { s with
    tile := s.tile.map (fun t => (t.1, { t.2 with shots := t.2.shots.map mk, cur := t.2.cur.map mk }))
    chan := s.chan.map (fun c => (c.1, { c.2 with pix := mp c.2.pix }))
    eng := s.eng.map (fun e => (e.1, { e.2 with
      closed := e.2.closed.map mc
      pass := e.2.pass.map (fun d => { d with px := mc d.px })
      tail := e.2.tail.map (fun d => { d with px := mc d.px }) })) }

/-! ### The accountant (R85, R86) -/

/-- Bucket lengths in fine units (Table 4 of ch. 03). -/
def bucketLen : Nat → Nat
  | 0 => 625 * fineNs
  | 1 => 62500 * fineNs
  | _ => 6250000 * fineNs

/-- The number of the bucket of a device time: the buckets go on through a loaded epoch (log entry 20). -/
def bucketOf (s : State) (w : Nat) (t : Int) : Nat := ((t + s.tb.accOfs) / ((bucketLen w : Nat) : Int)).toNat

/-- A channel's buckets of a window. -/
def buckets (e : EmCh) : Nat → Tab Nat
  | 0 => e.b10us
  | 1 => e.b1ms
  | _ => e.b100ms

/-- Replace a channel's buckets of a window. -/
def setBuckets (w : Nat) (t : Tab Nat) (e : EmCh) : EmCh :=
  match w with
  | 0 => { e with b10us := t }
  | 1 => { e with b1ms := t }
  | _ => { e with b100ms := t }

/-- The sum of a window whose bucket in progress is c: it and the 16 before it (R85). -/
def windowSum (t : Tab Nat) (c : Nat) : Nat :=
  t.foldl (fun a p => if c ≤ p.1 + 16 ∧ p.1 ≤ c then a + p.2 else a) 0

/-- The limit of a window (Table 9 of ch. 03). -/
def emLimit (s : State) (ch : Nat) : Nat → Nat
  | 0 => cfgF s .emLim ch 0 31 0
  | 1 => cfgF s .emLim ch 0 63 32
  | _ => cfgF s .emLim ch 1 31 0

/-- Whether a weight in bucket b would take some window that contains b over its limit (R86). -/
def overLimit (s : State) (ch w b weight : Nat) : Bool :=
  (upTo b (b + 16)).any (fun c => decide (emLimit s ch w < windowSum (buckets (emGet s ch) w) c + weight))

/-- Book a weight into the three windows of a channel at a rising edge. -/
def bookWeight (ch weight : Nat) (t : Int) (s : State) : State :=
  emUpd ch (fun e => [0, 1, 2].foldl (fun a w =>
    setBuckets w (tabUpd 0 (buckets a w) (bucketOf s w t) (fun x => min (2 ^ 40 - 1) (x + weight))) a) e) s

/-- The window sums slide to the present bucket: what lies more than 16 buckets back is dropped (R85). -/
def slideBuckets (ch w : Nat) (s : State) : State :=
  emUpd ch (fun e => setBuckets w ((buckets e w).filter (fun p => decide (bucketOf s w s.now ≤ p.1 + 16))) e) s

/-! ### Trips (R88 to R91) -/

/-- The sources that are asserted now: bit m for MCm, bit 32 + i for TRIP_N[i] (Table 8 of ch. 03). -/
def tripAsserted (s : State) : Nat :=
  (List.range 32).foldl (fun a m => if (tabGet {} s.mon m).routed then a ||| 2 ^ m else a) (s.tripN % 16 * 2 ^ 32)

/-- TRIP_MAP of a channel in force (Table 8 of ch. 03). -/
def tripMap (s : State) (ch : Nat) : Nat := cfgF s .emCh ch 1 35 0

/-- Mapped sources asserted now: TRIP_ACTIVE (Table 10 of ch. 03). -/
def tripActive (s : State) (ch : Nat) : Nat := tripMap s ch &&& tripAsserted s

/-- A source is in TRIP_SAFE_MAP (Table 5 of ch. 14). -/
def inSafeMap (s : State) (src : Nat) : Bool := bitOf (cfgW s .safe 0 1) (28 + src)

/-- A trip cuts the pulse in progress and discards the rest of its volley (R89, R90); the forced falling edge is noted for
the loopback (R96). -/
def cutVols (e : EmCh) : EmCh := { e with
  cuts := e.cuts + b2n (gateHigh e)
  vols := e.vols.map (fun v => if inProgress v then { v with dead := true } else v) }

/-- A commanded leave of ARMED ends once no volley is in progress (Table 6 of ch. 03). -/
def leaveArmed (ch : Nat) (s : State) : State :=
  let e := emGet s ch
  match e.leave with
  | some n => if e.vols.any inProgress then s
              else emUpd ch (fun x => { x with out := n, leave := none, settled := if n = 0 then false else x.settled }) s
  | none => s

/-- A source trips a channel: the gate is forced low, the trip latches, and EM_TRIP is decided (R89, R90, R377). A
source on a channel already latched is decided again only where it is in TRIP_SAFE_MAP (log entry 25). -/
def tripChannel (src ch : Nat) (s : State) : State :=
  let e := emGet s ch
  let force := inSafeMap s src
  let dec := fun (st : State) => { st with safe := { st.safe with
    todo := st.safe.todo ++ [{ bit := 3, obj := ch, detail := (emGet st ch).tripFirst, at_ := st.now, up := st.up
                               force := force }] } }
  if e.latched then (if force then dec s else s)
  else dec (leaveArmed ch (emUpd ch (fun x => { cutVols x with latched := true, tripFirst := src }) s))

/-- A source asserts: it trips every channel that maps it. -/
def tripSource (src : Nat) (s : State) : State :=
  ((List.range 64).filter (fun ch => (tripMap s ch).testBit src)).foldl (fun a ch => tripChannel src ch a) s

/-- A channel's map changes: every mapped source asserted now trips it (R88: the path is level sensitive), on a channel
latched before those that `was` did not map. Of several the lowest stands in TRIP_FIRST: the spec does not say which (R100;
DESIGN CHOICE, log entry 171). -/
def tripLevels (ch was : Nat) (s : State) : State :=
  ((maskBits 36 (tripActive s ch)).filter (fun src => !((emGet s ch).latched && was.testBit src))).foldl
    (fun a src => tripChannel src ch a) s

/-- EM_TRIP is gone once every source in TRIP_SAFE_MAP is deasserted (Table 1 of ch. 14). -/
def tripGone (s : State) : State :=
  if tripAsserted s &&& cfgF s .safe 0 1 63 28 = 0 then causeGone 3 s else s

/-! ### Output states (R92, R93) -/

/-- Pending volleys of a channel that have not started are refused whole and counted in OUTPUT_OFF_SKIP (R93). -/
def refusePending (ch : Nat) (s : State) : State :=
  let vs := (emGet s ch).vols.filter notStarted
  vs.foldl (fun a v => markRefused v.seq a)
    (emUpd ch (fun e => { e with vols := e.vols.filter (fun v => !notStarted v)
                                 outOff := satAdd 32 e.outOff vs.length }) s)

/-- OUT_CTRL of a channel takes effect (Table 6 of ch. 03). Set back to ARMED while the channel still waits to leave that
state, it cancels the leave (R93; DESIGN CHOICE, log entry 157). -/
def outCtrl (ch new : Nat) (s : State) : State :=
  let e := emGet s ch
  match e.out, new with
  | 0, 0 => s
  | 0, 1 => emUpd ch (fun x => { x with out := 1, settled := false, armPend := false }) s
  | 0, _ => emUpd ch (fun x => { x with out := 1, settled := false, armPend := true }) s
  | 1, 0 => refusePending ch (emUpd ch (fun x => { x with out := 0, settled := false, armPend := false }) s)
  | 1, 1 => emUpd ch (fun x => { x with armPend := false }) s
  | 1, _ => emUpd ch (fun x => { x with armPend := true }) s
  | _, 2 => emUpd ch (fun x => { x with leave := none }) s
  | _, n =>
    let s1 := refusePending ch s
    if e.vols.any inProgress then emUpd ch (fun x => { x with leave := some n }) s1
    else emUpd ch (fun x => { x with out := n, leave := none, armPend := false,
                                     settled := if n = 0 then false else x.settled }) s1

/-! ### Safe state (R77) -/

/-- The force of the safe state on a channel: the pulse in progress is cut, volleys wholly pending are refused and
counted in OUTPUT_OFF_SKIP. -/
def forceLow (ch : Nat) (s : State) : State :=
  leaveArmed ch (refusePending ch (emUpd ch cutVols s))

/-! ### Loopback (R96 to R98) -/

/-- Loopback statistics over the last 4,096 matched edges: mean, rms and peak error, rounded to nearest (R98, R455). -/
def lbStats (e : EmCh) : Int × Nat × Nat :=
  let n := e.lbErr.length
  if n = 0 then (0, 0, 0)
  else
    let sum := e.lbErr.foldl (· + ·) 0
    let sq := e.lbErr.foldl (fun a x => a + x.natAbs * x.natAbs) 0
    (rndDiv sum n, (isqrt (4 * sq / n) + 1) / 2, e.lbErr.foldl (fun a x => max a x.natAbs) 0)

/-- A loopback fault: counted, kept as the last kind, and decided as LOOPBACK (R96, R97). -/
def lbFault (ch kind : Nat) (err : Int) (s : State) : State :=
  decideCause 5 ch (kind * 2 ^ 32 + twos 32 err)
    (emUpd ch (fun e => { e with lbFaults := satAdd 32 e.lbFaults 1, lbKind := kind }) s)

/-- EM_CH_STATUS words 0 to 4 (Table 10 of ch. 03). -/
def emStatus (s : State) (ch : Nat) : List Word :=
  let e := emGet s ch
  let st := lbStats e
  [pack [(32, e.energyRefused), (32, e.collision)], pack [(32, e.late), (32, e.tripSkip)],
   pack [(32, e.outOff), (32, e.lbFaults)],
   pack [(1, b2n e.latched), (6, e.tripFirst), (2, e.out), (3, e.lbKind), (16, pendingEdges e), (36, tripActive s ch)],
   pack [(16, twos 16 st.1), (16, min 65535 st.2.1), (16, min 65535 st.2.2), (16, e.lbErr.length)]]

/-- The counters of a channel cleared (R100). -/
def emClear (e : EmCh) : EmCh :=
  { e with energyRefused := 0, collision := 0, late := 0, tripSkip := 0, outOff := 0, lbFaults := 0 }

end Sys2Proof.Machine
end

