-- ==== Sys2Proof/Machine/CmpOps.lean ====
section
/-! DEFINITION. The comparators' shared operations (ch. 05): blanking, monitors and their routes, resolution, and the
application of receive changes. -/

namespace Sys2Proof.Machine

/-- A receive comparator. -/
def rxGet (s : State) (ch : Nat) : Rx := tabGet {} s.rx ch

/-- Change a receive comparator. -/
def rxUpd (ch : Nat) (f : Rx → Rx) (s : State) : State := { s with rx := tabUpd {} s.rx ch f }

/-- The receive word of a channel in effect (R155). -/
def rxWord (s : State) (ch : Nat) : Word :=
  match (rxGet s ch).app with
  | some w => w
  | none => (resetWords 0 .rx ch).getD 0 0

/-- The receive word of a tile in effect (R155). -/
def rxTileWord (s : State) (ti : Nat) : Word := tabGet ((resetWords 0 .rxTile ti).getD 0 0) s.rxTile ti

/-- A monitor (0 to 31) or a mirror input (32, 33). -/
def monGet (s : State) (m : Nat) : Mon := tabGet {} s.mon m

/-- Change a monitor. -/
def monUpd (m : Nat) (f : Mon → Mon) (s : State) : State := { s with mon := tabUpd {} s.mon m f }

/-- Word n of a monitor's or mirror input's configuration (R158, R161). -/
def monW (s : State) (m n : Nat) : Word := if m < 32 then cfgW s .mc m n else if n = 0 then cfgW s .mp (m - 32) 0 else 0

/-- The level of threshold k for a code, in 0.1 mV: 0.8 mV steps above RCREF for the two of each receive channel (R137),
offset binary, zero at code 512, for the high and low of each monitor and mirror input after them (R138). -/
def thLevel (k code : Nat) : Int := if k < 2048 then 8 * code else 8 * ((code : Int) - 512)

/-- What the DAC of a threshold is driven with: its level and the factory trim of the band in force, so that the code
written is the threshold obtained (R140, R241). -/
def dacLevel (s : State) (k code : Nat) : Int := thLevel k code + factVal s (entS 8 s.fact.trim) k s.cal.bandActive

/-- A device time lies in the blank window of a source edge (R145). -/
def inBlank (ofs len : Nat) (t e : Int) : Bool :=
  decide (e + signed 16 ofs * 4096 ≤ t) && decide (t < e + (signed 16 ofs + len) * 4096)

/-- The update edges of every active steering link, past and placed (R145). -/
def updTimes (s : State) : List Int := s.pb.upds ++ (s.pb.links.map (fun l => l.2.words.map (fun w => w.at_))).flatten

/-- A receive event's time lies in a blank window that a receive word of its tile makes (R145). -/
def rxBlank (s : State) (w : Word) (ti : Nat) (t : Int) : Bool :=
  let srcs := match fld w 35 32 with
    | 1 => riseTimes s ti
    | 2 => ((upTo (ti / 16 * 16) (ti / 16 * 16 + 15)).map (fun ch => riseTimes s ch)).flatten
    | 3 => updTimes s
    | _ => []
  srcs.any (inBlank (fld w 15 0) (fld w 31 16) t)

/-- The source edges of a monitor's blank windows; none with BLANK_EN clear (R151). -/
def monSrcs (s : State) (m : Nat) : List Int :=
  let w := monW s m 1
  if fld (monW s m 0) 55 55 = 0 then [] else if fld w 55 54 = 0 then riseTimes s (fld w 53 48) else updTimes s

/-- A monitor is inside a blank window now (R151). -/
def monBlank (s : State) (m : Nat) : Bool :=
  let w := monW s m 1
  (monSrcs s m).any (inBlank (fld w 15 0) (fld w 31 16) s.now)

/-- The device times at which a monitor's blank windows end, and those at which they begin. -/
def blankEnds (s : State) (m : Nat) : List Int :=
  let w := monW s m 1
  (monSrcs s m).map (fun (e : Int) => e + (signed 16 (fld w 15 0) + (fld w 31 16 : Nat)) * 4096)

def blankStarts (s : State) (m : Nat) : List Int :=
  (monSrcs s m).map (fun (e : Int) => e + signed 16 (fld (monW s m 1) 15 0) * 4096)

/-- The raw output from the two threshold outputs (R149); held asserted until resolved (R153). -/
def monRaw (s : State) (m : Nat) : Bool :=
  let x := monGet s m
  if x.held then true
  else match fld (monW s m 0) 61 60 with
    | 0 => x.hiOut
    | 1 => x.loOut
    | 2 => x.hiOut || x.loOut
    | _ => !(x.hiOut || x.loOut)

/-- The filtered output: masked by blanking, then at least FILT_K of the last FILT_N samples (R148, R150). -/
def monFilt (s : State) (m : Nat) : Bool :=
  let w := monW s m 0
  if (monGet s m).held then true
  else if monBlank s m then false
  else if fld w 56 56 = 1 then
    decide (fld w 47 44 ≤ (((monGet s m).hist.take (fld w 51 48)).filter (fun p => p.1)).length)
  else monRaw s m

/-- The raw crossing that began the samples by which the filter asserts: FILT_K asserted ones (R158). -/
def filtCross (s : State) (m : Nat) : Int :=
  let x := monGet s m
  ((x.hist.filter (fun p => p.1)).map (fun p => p.2)).getD (fld (monW s m 0) 47 44 - 1) x.riseAt

/-- Recompute a monitor's filtered and routed outputs; an assertion of the routed output counts and trips every
channel that maps it, a deassertion can end EM_TRIP (R150, R156, R163). -/
def monSettle (m : Nat) (s : State) : State :=
  let x := monGet s m
  let f := monFilt s m
  let want := if fld (monW s m 0) 59 58 = 0 then monRaw s m else f
  let r := if x.held then true else match x.hold with
    | some v => v
    | none => want
  let s1 := monUpd m (fun y => { y with filt := f, routed := r, crossAt := if !x.held && f && !x.filt then filtCross s m else y.crossAt
                                        crossNew := !x.held && f && (!x.filt || y.crossNew)
                                        assertCount := if r && !x.routed && !x.held then satAdd 32 y.assertCount 1
                                                       else y.assertCount }) s
  if 32 ≤ m then s1
  else if r && !x.routed then tripSource m s1
  else if !r && x.routed then tripGone s1
  else s1

/-- The thresholds TRIP_SENSE uses: high, low (R153). -/
def senseUses (w : Word) : Bool × Bool :=
  match fld w 61 60 with
  | 0 => (true, false)
  | 1 => (false, true)
  | _ => (true, true)

/-- A monitor is resolved (R153). -/
def monResolved (s : State) (m : Nat) : Bool := !(monGet s m).held

/-- MC_EN or MC_MODE takes effect: the outputs are held asserted and resolution starts, or stays stopped while MC_EN
is clear; MC_UNRESOLVED clears and its cause is gone (R153, R154). -/
def monRestart (m : Nat) (s : State) : State :=
  let s1 := monUpd m (fun y => { y with held := true, runHi := none, runHiN := 0, runLo := none, runLoN := 0,
                                        resHi := none, resLo := none, hold := none, hist := [], periods := 0,
                                        unresolved := false }) s
  let s2 := monSettle m s1
  if (List.range 32).any (fun k => (monGet s2 k).unresolved) then s2 else causeGone 20 s2

/-- A class L change of a monitor, or a band step that reaches its margins: the routed output is held, the filter
history is cleared (R156). -/
def monHold (m : Nat) (s : State) : State :=
  let x := monGet s m
  if x.held then monSettle m s
  else monSettle m (monUpd m (fun y => { y with hold := some x.routed, holdAt := s.up, hist := [] }) s)

/-! ### Filter samples (R148, R150, R156) -/

/-- The sample period Ts of a monitor (R148); of the AON setting the calibrated mean, before the first lock the nominal one
(DESIGN CHOICE, log entry 162). -/
def monTs (s : State) (m : Nat) : Nat :=
  match fld (monW s m 0) 54 53 with
  | 0 => fineNs
  | 1 => 10 * fineNs
  | 2 => fineUs
  | _ => max 1 s.tb.aonCal

/-- The sample moments after `a` up to `b` of running time: multiples of Ts; of more than 32 the first 16 and the last
16 (log entry 72). -/
def sampleTimes (ts a b : Nat) : List Nat :=
  let n := b / ts - a / ts
  ((List.range (min n 16)).map (fun i => (a / ts + 1 + i) * ts)) ++
    ((List.range (min (n - 16) 16)).map (fun i => (b / ts + 1 - min (n - 16) 16 + i) * ts))

/-- A monitor's filter takes a sample of the masked raw output at a moment of running time. -/
def monSample (m : Nat) (s : State) (t : Nat) : State :=
  let s0 := { s with now := s.now - (s.up - t : Nat), up := t }
  let s1 := monUpd m (fun y => { y with hist := ((monRaw s0 m && !monBlank s0 m, y.riseAt) :: y.hist).take 15 }) s0
  { monSettle m s1 with now := s.now, up := s.up }

/-- A monitor's outputs at a moment of running time at which a blank window begins or ends. -/
def monEdge (m : Nat) (s : State) (t : Nat) : State :=
  { monSettle m { s with now := s.now - (s.up - t : Nat), up := t } with now := s.now, up := s.up }

/-- The moments after `a` up to now, in running time, at which a monitor's blank windows begin or end. -/
def blankEdges (s : State) (m a : Nat) : List Nat :=
  let ts := (blankStarts s m ++ blankEnds s m).filterMap (fun (t : Int) =>
    if s.now - (s.up - a : Nat) < t ∧ t ≤ s.now then some (s.up - (s.now - t).toNat) else none)
  (sortBy (fun (t : Nat) => t) ts).eraseDups

/-- A monitor is brought up to now from the moment at which it last was, which it takes first, since the last command may
have taken blank windows away with their pulses (R146, R150): the samples its filter takes and its blank windows, in order. -/
def monRun (m a : Nat) (s : State) : State :=
  let smp := fun (x y : Nat) (st : State) =>
    if fld (monW st m 0) 56 56 = 1 then (sampleTimes (monTs st m) x y).foldl (monSample m) st else st
  let r := (blankEdges s m a).foldl (fun (acc : Nat × State) t => (t, monEdge m (smp acc.1 t acc.2) t)) (a, monEdge m s a)
  smp r.1 s.up r.2

/-- The monitors that have resolved and filter or blank are brought up to now. -/
def monAdvance (s : State) : State :=
  let ms := (s.mon.filter (fun (p : Nat × Mon) =>
    !p.2.held && (fld (monW s p.1 0) 56 56 == 1 || fld (monW s p.1 0) 55 55 == 1))).map (fun (p : Nat × Mon) => p.1)
  { ms.foldl (fun a m => monRun m s.smpUp a) s with smpUp := s.up }

/-- MC_BLANK_END: the end of the blank window that ends next (R150). -/
def monBlankEnd (m : Nat) (s : State) : State :=
  match sortBy (fun (t : Int) => (t - s.now).toNat) ((blankEnds s m).filter (fun (t : Int) => decide (s.now ≤ t))) with
  | t :: _ => monSettle m (monAdvance (reach t s))
  | [] => s

/-- MC_FILTER_SAMPLE: the filter's next sample moment is reached, unless it is now (R148). -/
def monFilter (m : Nat) (s : State) : State :=
  if (monGet s m).held || fld (monW s m 0) 56 56 == 0 then s
  else
    let ts := monTs s m
    monAdvance (reachUp ((s.up + ts - 1) / ts * ts) s)

/-- The hold of a monitor's routed output ends: 1 µs, and with FILT_EN also FILT_N new samples (R156). -/
def holdDue (s : State) (m : Nat) : Nat :=
  let a := (monGet s m).holdAt
  let w := monW s m 0
  if fld w 56 56 = 1 then max (a + fineUs) ((a / monTs s m + fld w 51 48) * monTs s m) else a + fineUs

/-- MC_HOLD_END: the routed output follows again. -/
def monHoldEnd (m : Nat) (s : State) : State :=
  match (monGet s m).hold with
  | none => s
  | some _ => monSettle m (monUpd m (fun y => { y with hold := none }) (monAdvance (reachUp (holdDue s m) s)))

/-! ### Resolution (R153, R154) -/

/-- A run of equal samples of a threshold: its result and length after one more; none inside the band. -/
def runStep (sample : Option Bool) (run : Option Bool) (n : Nat) : Option Bool × Nat :=
  if sample = none then (none, 0) else if sample = run then (run, n + 1) else (sample, 1)

/-- Samples in a row that resolve a threshold of a monitor. -/
def resolveNeed (s : State) (m : Nat) : Nat :=
  let w := monW s m 0
  max (if fld w 56 56 = 1 then fld w 51 48 else 1) 4

/-- The samples of one AON period judged; a resolved threshold is judged no more. -/
def resolveRuns (s : State) (m : Nat) (hi lo : Option Bool) (x : Mon) : Mon :=
  let use := senseUses (monW s m 0)
  let need := resolveNeed s m
  let rh := if use.1 && x.resHi.isNone then runStep hi x.runHi x.runHiN else (x.runHi, x.runHiN)
  let rl := if use.2 && x.resLo.isNone then runStep lo x.runLo x.runLoN else (x.runLo, x.runLoN)
  { x with
    periods := satAdd 16 x.periods 1
    runHi := rh.1, runHiN := rh.2, resHi := if x.resHi.isNone && decide (need ≤ rh.2) then rh.1 else x.resHi
    runLo := rl.1, runLoN := rl.2, resLo := if x.resLo.isNone && decide (need ≤ rl.2) then rl.1 else x.resLo }

/-- Every threshold in use is resolved. -/
def allResolved (s : State) (m : Nat) (x : Mon) : Bool :=
  let use := senseUses (monW s m 0)
  (!use.1 || x.resHi.isSome) && (!use.2 || x.resLo.isSome)

/-- The outputs of a monitor are released into the resolved state, the filter's history with them. -/
def monRelease (m : Nat) (s : State) : State :=
  let s1 := monUpd m (fun x => { x with held := false, unresolved := false, hold := none
                                        hiOut := x.resHi.getD x.hiOut, loOut := x.resLo.getD x.loOut }) s
  let s2 := monSettle m (monUpd m (fun x => { x with hist := List.replicate 15 (monRaw s1 m, s1.now) }) s1)
  if (List.range 32).any (fun k => (monGet s2 k).unresolved) then s2 else causeGone 20 s2

/-- MC_RESOLVE_SAMPLE: the inputs of a held monitor with MC_EN set are judged: some true beyond, some false clear, none
inside the band. -/
def resolveSample (m : Nat) (hi lo : Option Bool) (s : State) : State :=
  if !(monGet s m).held || fld (monW s m 0) 57 57 == 0 then s
  else
    let s1 := monUpd m (resolveRuns s m hi lo) s
    if allResolved s1 m (monGet s1 m) then monRelease m s1 else s1

/-- MONITOR_UNRESOLVED: 320 AON periods have passed (R154). The MP inputs have no bit in MC_UNRESOLVED (R158). -/
def monLate (m : Nat) (s : State) : State :=
  let x := monGet s m
  if m < 32 ∧ x.held ∧ fld (monW s m 0) 57 57 = 1 ∧ 320 ≤ x.periods ∧ !x.unresolved then
    decideCause 20 m 0 (monUpd m (fun y => { y with unresolved := true, unresolvedSeen := true }) s)
  else s

/-- The outputs of a monitor follow its inputs (R139, R149). -/
def monInputs (m : Nat) (hi lo : Bool) (s : State) : State :=
  let x := monGet s m
  let was := monRaw s m
  let s1 := monUpd m (fun y => { y with hiOut := hi, loOut := lo }) s
  let s2 := if monRaw s1 m && !was then monUpd m (fun y => { y with riseAt := s.now }) s1 else s1
  if x.held then s2 else monSettle m s2

/-- The analog fields of a receive word: RX_EN, RX_MODE, HYST and the thresholds (R155). -/
def analogMask : Nat := bitsOf [(47, 46), (31, 26), (19, 0)]

/-- Transitions of a timing output, newest first: those of the last 64 ns and the one before them. -/
def pushTrans (t : Int) (v : Bool) (l : List (Int × Bool)) : List (Int × Bool) :=
  let recent := fun (p : Int × Bool) => decide (t - 64 * fineNs ≤ p.1)
  (t, v) :: (l.takeWhile recent ++ (l.dropWhile recent).take 1)

/-- A receive word takes effect on a channel: an analog change re-settles the channel; a channel disabled is inactive
with its output low from then on (R152, R155). -/
def rxApply (new : Word) (ch : Nat) (s : State) : State :=
  let old := rxWord s ch
  let en := fld new 47 47 = 1
  let analog := decide (new.toNat &&& analogMask ≠ old.toNat &&& analogMask)
  let app := if new = (resetWords 0 .rx ch).getD 0 0 then none else some new
  if !en then rxUpd ch (fun x => { x with app := app, active := false, settling := false, out := false
                                          trans := if x.out then pushTrans s.now false x.trans else x.trans }) s
  else if analog then rxUpd ch (fun x => { x with app := app, active := false, settling := true }) s
  else rxUpd ch (fun x => { x with app := app }) s

/-- The timing output of a channel changes at a device time. -/
def rxOutput (ch : Nat) (v : Bool) (t : Int) (s : State) : State :=
  rxUpd ch (fun x => if x.out = v then x else { x with out := v, trans := pushTrans t v x.trans }) s

/-- A channel has settled: ACTIVE, its output as the input gives it, without an event (R155). -/
def rxSettled (ch : Nat) (above : Bool) (s : State) : State :=
  if (rxGet s ch).settling then
    rxOutput ch above s.now (rxUpd ch (fun x => { x with settling := false, active := true }) s)
  else s

/-- The receive word of a tile takes effect (R155). -/
def rxTileApply (w : Word) (ti : Nat) (s : State) : State :=
  { s with rxTile := tabSet ((resetWords 0 .rxTile ti).getD 0 0) s.rxTile ti w }

/-- The receive margin of the band in force changes: every enabled channel re-settles (R155). -/
def rxMargins (s : State) : State :=
  ((List.range 1024).filter (fun ch => fld (rxWord s ch) 47 47 = 1)).foldl
    (fun a ch => rxUpd ch (fun x => { x with active := false, settling := true }) a) s

/-- The margin of a band: receive half or monitor half (Table 8 of ch. 05). -/
def margin (s : State) (mc : Bool) (b : Nat) : Nat :=
  let lo := 4 * b + (if mc then 24 else 0)
  cfgF s .margin 0 0 (lo + 3) lo

/-- CMP_RX_STATUS words 0 and 1 (Table 9 of ch. 05). -/
def rxStatus (s : State) (ch : Nat) : List Word :=
  let x := rxGet s ch
  [pack [(32, x.blanked), (32, x.filteredOut)], pack [(32, x.high), (31, 0), (1, b2n x.active)]]

/-- CMP_MC_STATUS (Table 10 of ch. 05). -/
def monStatus (s : State) (m : Nat) : Word :=
  let x := monGet s m
  pack [(32, x.assertCount), (16, x.periods), (8, 0), (1, b2n (monResolved s m)), (1, b2n x.unresolvedSeen),
    (1, b2n (monRaw s m)), (1, b2n x.filt), (1, b2n x.routed), (3, 0)]

/-- CLEAR of CMP.GET_STATUS: the counters of the objects named, UNRESOLVED_SEEN with them, and CMP_DEFERRED
(R163; log entry 72). -/
def cmpClear (mc : Bool) (first last : Nat) (s : State) : State :=
  (upTo first last).foldl (fun a i =>
    if mc then monUpd i (fun x => { x with assertCount := 0, unresolvedSeen := false }) a
    else rxUpd i (fun x => { x with blanked := 0, filteredOut := 0, high := 0 }) a) { s with cmpDeferred := 0 }

/-- CMP_DEV_STATUS (Table 11 of ch. 05). -/
def cmpStatus (s : State) : Word :=
  pack [(32, (List.range 32).foldl (fun a m => if (monGet s m).unresolved then a + 2 ^ m else a) 0),
    (1, b2n (monResolved s 33)), (1, b2n (monResolved s 32)), (14, 0), (16, min 65535 s.cmpDeferred)]

end Sys2Proof.Machine
end

