-- ==== Sys2Proof/Machine/TileOps.lean ====
section
/-! DEFINITION. The shared operations of a tile's receive side (ch. 06, ch. 07): raw TDC times, the recorder,
qualification of events, and the opening, merging, closing and extending of pixels. -/

namespace Sys2Proof.Machine

/-- A tile. -/
def tileGet (s : State) (t : Nat) : Tile := tabGet {} s.tile t

/-- Change a tile. -/
def tileUpd (t : Nat) (f : Tile → Tile) (s : State) : State := { s with tile := tabUpd {} s.tile t f }

/-- A receive channel. -/
def chanGet (s : State) (c : Nat) : Chan := tabGet {} s.chan c

/-- Change a receive channel. -/
def chanUpd (c : Nat) (f : Chan → Chan) (s : State) : State := { s with chan := tabUpd {} s.chan c f }

/-- An echo engine. -/
def engGet (s : State) (q : Nat) : Eng := tabGet {} s.eng q

/-- Change an echo engine. -/
def engUpd (q : Nat) (f : Eng → Eng) (s : State) : State := { s with eng := tabUpd {} s.eng q f }

/-! ### Raw codes to times (R164, R246, R49, R142) -/

/-- The unspread time of a spread count: U = C + D(U) (R49), by iteration. -/
def unspread (s : State) (c : Int) : Int := (List.range 6).foldl (fun u _ => c + spreadD s u) c

/-- The receive linearity L_R of a code in the band in force (R243). -/
def linR (s : State) (ch code : Nat) : Int :=
  factVal s (fun i => entS 8 s.fact.lR (i * 64 + code)) ch s.cal.bandActive

/-- The comparator delay of a channel's mode in the band in force (R142, R243). -/
def rxDelay (s : State) (ch mode : Nat) : Int :=
  factVal s (entU 16 s.fact.cmpDelay) (ch * 2 + mode) s.cal.bandActive

/-- The position of raw code c within its cycle (R246): linearity and offset trim in 1/16 LSB, gain trim in 2⁻¹⁶. -/
def codePos (c : Nat) (lin ofs gain : Int) : Int :=
  64 * c + 32 + 4 * (lin + ofs) + rndDiv (gain * ((64 * c + 32 : Nat) - 2048)) 65536

/-- The unspread device time of a receive event captured in spread cycle n at raw code c (R246). -/
def tdcTime (s : State) (ch : Nat) (n : Int) (c : Nat) : Int :=
  let w := cfgW s .calRx ch 0
  unspread s (4096 * n + codePos c (linR s ch c) (sfld w 7 0) (sfld w 27 16) - teamOfs s)
    - rxDelay s ch (fld (rxWord s ch) 46 46)

/-- The offset and gain trims of a reference converter: rising or falling edges (Table 5 of ch. 09). -/
def refTrims (s : State) (ch : Nat) (rise : Bool) : Int × Int :=
  let w := cfgW s .calEm ch 1
  if rise then (sfld w 7 0, sfld w 23 12) else (sfld w 31 24, sfld w 47 36)

/-- The reference linearity of a code: converter 0 of a channel times rising edges, 1 falling ones (R243). -/
def linRef (s : State) (ch : Nat) (rise : Bool) (code : Nat) : Int :=
  factVal s (fun i => entS 8 s.fact.lRef (i * 64 + code)) (ch * 2 + b2n (!rise)) s.cal.bandActive

/-- The unspread device time at the balls of an edge that a reference converter captured in spread cycle n at raw code c
(R95, R246): the sense-path constant is taken off. -/
def refTime (s : State) (ch : Nat) (rise : Bool) (n : Int) (c : Nat) : Int :=
  let tr := refTrims s ch rise
  unspread s (4096 * n + codePos c (linRef s ch rise c) tr.1 tr.2 - teamOfs s)
    - factOne s (entU 32 s.fact.sense) (ch * 2 + b2n (!rise))

/-! ### The recorder (R177 to R189) -/

/-- Ring length of a tile's layout (R177). -/
def ringLen (r : Rec) : Nat := if r.cascade then 65536 else 4096

/-- Rings of the layout. -/
def recRings (r : Rec) : List Nat := if r.cascade then [0] else List.range 16

/-- A record put as the newest of a ring, the oldest dropped at its length; after the trigger it counts as history or
aftermath by its time, the TRIGGER marker as aftermath (R183). -/
def ringPut (ring : Nat) (w : Word) (t : Int) (trig : Bool) (r : Rec) : Rec :=
  let l := (w :: tabGet [] r.rings ring).take (ringLen r)
  let r1 := { r with rings := tabSet [] r.rings ring l, wr := tabUpd 0 r.wr ring (· + 1) }
  if r.st == .filling || r.st == .frozen then
    if trig || decide (r.split ≤ t) then { r1 with aft := tabUpd 0 r1.aft ring (· + 1) }
    else { r1 with hist := tabUpd 0 r1.hist ring (· + 1) }
  else r1

/-- A ring still takes a record of a time in the recorder's state (R178, R182, R185): a freeze stops those at or after its
time. -/
def ringTakes (r : Rec) (ring : Nat) (t : Int) (trig : Bool) : Bool :=
  let room := trig || decide (t < r.split) || decide (tabGet 0 r.aft ring < r.postCnt)
  match r.st with
  | .hold => true
  | .armed => true
  | .filling => room
  | .frozen => (match r.freezeAt with
    | some f => room && (trig || decide (t < f))
    | none => false)
  | .disarmed => false
  | .reading => false

/-- The record word (Table 6 of ch. 06). -/
def recWord (s : State) (ch st win : Nat) (b f c p trig : Bool) (tag time : Nat) : Word :=
  pack [(4, ch), (2, st), (2, win), (1, b2n b), (1, b2n f), (1, b2n c), (1, b2n p), (1, b2n (s.tb.st == .coast)),
    (1, b2n (s.tb.st == .slewing)), (1, b2n trig), (1, 0), (12, tag), (36, time)]

/-- A time relative to a reference point as RT36, to the nearest receive LSB (R455), modulo 2³⁶. -/
def rt36 (t ref : Int) : Nat := twos 36 (rndDiv (t - ref) 64)

/-- Change a tile's recorder. -/
def recUpd (ti : Nat) (f : Rec → Rec) (s : State) : State := tileUpd ti (fun x => { x with rcd := f x.rcd }) s

/-- REC_WRITTEN of a channel of a tile (Table 11 of ch. 06): one more record. -/
def countWritten (ti c : Nat) (s : State) : State := chanUpd (16 * ti + c) (fun x => { x with recWritten := satAdd 32 x.recWritten 1 }) s

/-- A record goes into a ring of a tile. It counts for the channel whose bank takes it: record i of the tile ring lies in
that of channel i mod 16 (R177, R191; log entry 29). -/
def recPut (ti ring : Nat) (w : Word) (t : Int) (trig : Bool) (s : State) : State :=
  let r := (tileGet s ti).rcd
  countWritten ti (if r.cascade then tabGet 0 r.wr ring % 16 else ring) (recUpd ti (ringPut ring w t trig) s)

/-- Words 7 to 14 of the CAPTURE header (Table 6 of ch. 13). -/
def ringCounts (r : Rec) : List Word :=
  let h := fun (k : Nat) => tabGet 0 r.hist k
  let a := fun (k : Nat) => tabGet 0 r.aft k
  if r.cascade then pack [(32, h 0), (32, a 0)] :: List.replicate 7 0
  else (List.range 8).map (fun i =>
    pack [(16, h (2 * i + 1)), (16, a (2 * i + 1)), (16, h (2 * i)), (16, a (2 * i))])

/-- The body of a CAPTURE record (R188, R359). -/
def captureBody (ti : Nat) (r : Rec) : List Word :=
  let recs := ((recRings r).map (fun k => (tabGet [] r.rings k).reverse)).flatten
  [pack [(6, ti), (1, b2n r.cascade), (3, r.cause), (4, r.trigDev), (1, b2n r.prePartial), (1, b2n r.coasted),
     (16, r.shortMask), (32, recs.length)]] ++ dtWords r.trigDt ++ dtWords r.armDt
    ++ dtWords (if r.coasted then r.lossDt else 0) ++ ringCounts r ++ recs

/-- A frozen tile moves to READING and emits its CAPTURE record, RTYPE 5 (R188, R354). -/
def recRead (ti q : Nat) (s : State) : State :=
  let r := (tileGet s ti).rcd
  let s1 := recUpd ti (fun x => { x with st := .reading, readQ := none, captures := satAdd 32 x.captures 1 }) s
  emitRecord q 5 1 (captureBody ti r) s1

/-- The capture of a frozen recorder: the history cut to its length, PRE_PARTIAL and SHORT_MASK (R185). The TRIGGER marker
takes its place in a ring whatever POST_TRIG_COUNT is (log entry 29). -/
def recCut (r : Rec) : Rec :=
  let keep := ringLen r - r.postCnt
  let cut := (recRings r).foldl (fun (a : Rec) k =>
    let n := tabGet 0 a.hist k
    let m := min (min n keep) (ringLen r - tabGet 0 a.aft k)
    { a with rings := tabSet [] a.rings k ((tabGet [] a.rings k).take (tabGet 0 a.aft k + m))
             hist := tabSet 0 a.hist k m
             prePartial := a.prePartial || decide (n < keep) }) r
  { cut with
    freezeAt := none
    shortMask := if r.cascade then 0
      else (List.range 16).foldl (fun a k => if tabGet 0 r.aft k < r.postCnt then a + 2 ^ k else a) 0 }

/-- A freeze is complete once nothing timed before it is still on its way; a read that waits follows (R185, R188). -/
def recSettle (ti : Nat) (s : State) : State :=
  let x := tileGet s ti
  match x.rcd.freezeAt with
  | none => s
  | some f =>
    if x.pend.any (fun e => !e.noRec && decide (e.t < f)) || x.rcd.marks.any (fun m => m.kind == 2 || decide (m.t < f)) then s
    else
      let s1 := recUpd ti recCut s
      match x.rcd.readQ with
      | some q => recRead ti q s1
      | none => s1

/-- The recorder stops: records of a time before `at_` still pass, and the capture ends at `end_` (R56, R185). -/
def recStop (ti : Nat) (at_ end_ : Int) (s : State) : State :=
  recSettle ti (recUpd ti (fun r => { r with st := .frozen, freezeAt := some at_, frzDt := end_ }) s)

/-- The recorder freezes at a time. -/
def recFreeze (ti : Nat) (at_ : Int) (s : State) : State := recStop ti at_ at_ s

/-- Every ring has its aftermath (R185). -/
def recFull (r : Rec) : Bool := (recRings r).all (fun k => decide (r.postCnt ≤ tabGet 0 r.aft k))

/-- A filling recorder whose rings all have their count freezes with the record, of time t, that completed them: its
capture ends there, and of those still on their way only history is taken (R185). -/
def recFill (ti : Nat) (t : Int) (s : State) : State :=
  let r := (tileGet s ti).rcd
  if r.st == .filling && recFull r then recStop ti r.split (t + 1) s else s

/-- A marker record is written into every ring of the layout (R181); HOLDOFF_SKIP while MARK_EN is set. Its WIN field is
written 0b00: Table 6 of ch. 06 does not give it for a marker (R179; DESIGN CHOICE, log entry 168). -/
def markPut (ti : Nat) (m : RecMark) (s : State) : State :=
  if m.kind == 5 && cfgF s .rcd ti 0 43 43 == 0 then s
  else
    let bit := fun (b : Nat) => m.kind.testBit b
    let r := (tileGet s ti).rcd
    recFill ti m.t ((recRings r).foldl (fun a ring =>
      if ringTakes (tileGet a ti).rcd ring m.t (m.kind == 2) then
        recPut ti ring (recWord a ring 0 0 (bit 3) (bit 2) (bit 1) (bit 0) (m.kind == 2) m.tag (m.time.getD (rt36 m.t r.refAt)))
          m.t (m.kind == 2) a
      else a) s)

/-- A marker of a time before a new reference point keeps the TIME of the old one (R180). -/
def markFix (t : Int) (r : Rec) : List RecMark :=
  r.marks.map (fun m => if m.time.isNone && decide (m.t < t) then { m with time := some (rt36 m.t r.refAt) } else m)

/-- A new reference point (R180). -/
def recRef (t : Int) (tag : Nat) (r : Rec) : Rec := { r with marks := markFix t r, refAt := t, refTag := tag }

/-- A trigger is taken by an armed recorder (R185): with POST_TRIG_COUNT = 0 it freezes at the trigger time. -/
def recTake (ti cause dev : Nat) (t : Int) (s : State) : State :=
  let r := (tileGet s ti).rcd
  let post := cfgF s .rcd ti 0 63 47
  let s1 := recUpd ti (fun _ => { r with
    st := .filling, cause := cause, trigDev := dev, trigDt := t, split := t, trigMark := true, postCnt := post, aft := []
    hist := (recRings r).foldl (fun h k => tabSet 0 h k ((tabGet [] r.rings k).length)) []
    marks := r.marks ++ [{ kind := 2, t := t, time := some (rt36 t r.refAt), tag := r.refTag }]
    coasted := r.coasted || s.tb.coast, lossDt := if s.tb.coast then s.tb.lastGood else r.lossDt }) s
  if post = 0 then recFreeze ti t s1 else s1

/-- The 1 ns cycle that a trigger falls in: RATE's time is the end of its cycle (Table 9 of ch. 06). -/
def trigCycle (cause : Nat) (t : Int) : Int := (if cause = 5 then t - 1 else t) / 8192

/-- A trigger goes over the team's link and is not acted on here: a local one of a REC_TEAM tile in a team (R187). -/
def teamOnly (s : State) (ti cause : Nat) : Bool := cfgF s .rcd ti 0 45 45 == 1 && cause != 7 && teamEn s

/-- A trigger outside ARMED and HOLD counts TRIG_BUSY; in the 1 ns cycle of the one taken the lower cause stands, with its
time (R184), unless it is a local one of a team tile (R187). -/
def recBusy (ti cause dev : Nat) (t : Int) (s : State) : State :=
  recUpd ti (fun r =>
    let r1 := { r with busy := satAdd 16 r.busy 1 }
    if !teamOnly s ti cause && (r.st == .filling || r.st == .frozen && r.freezeAt == some r.trigDt)
      && trigCycle cause t == trigCycle r.cause r.trigDt && decide (cause < r.cause)
    then { r1 with
      cause := cause, trigDev := dev, trigDt := t, split := t
      freezeAt := if r.freezeAt.isSome then some t else none
      frzDt := if r.freezeAt.isSome && r.postCnt == 0 then t else r.frzDt
      marks := r.marks.map (fun m => if m.kind = 2 then { m with t := t, time := some (rt36 t r.refAt) } else m) }
    else r1) s

/-- The local trigger that a team tile has taken goes over the link with its trigger time in team time; one that the
device has sent with that time already is not sent again (R187; log entry 34). -/
def recSend (ti : Nat) (s : State) : State :=
  match (tileGet s ti).rcd.sent with
  | none => s
  | some (_, t) =>
    let s1 := recUpd ti (fun r => { r with sent := none }) s
    let m := (devNum s, t - teamOfs s)
    if !teamEn s || s.team.trigs.contains m then s1
    else out (.nolgil 2 [m.1, m.2]) { s1 with team := { s1.team with trigs := s1.team.trigs ++ [m] } }

/-- The local triggers of team tiles go over the link once the 1 ns cycle that they fall in is over; all of them at once
where something waits for them. -/
def recSends (force : Bool) (s : State) : State :=
  let go := fun (p : Nat × Tile) => match p.2.rcd.sent with
    | some (cause, t) => force || decide ((trigCycle cause t + 1) * 8192 ≤ s.now)
    | none => false
  ((s.tile.filter go).map (fun p => p.1)).foldl (fun a ti => recSend ti a) s

/-- A local trigger of an armed team tile, which goes over the link instead (R187): of several in one 1 ns cycle the one of
the lowest cause, each of the others counting TRIG_BUSY (R184). -/
def recLocal (ti cause : Nat) (t : Int) (s : State) : State :=
  match (tileGet s ti).rcd.sent with
  | some (c, u) =>
    if trigCycle c u = trigCycle cause t then
      recUpd ti (fun r => { r with busy := satAdd 16 r.busy 1, sent := some (if cause < c then (cause, t) else (c, u)) }) s
    else recUpd ti (fun r => { r with sent := some (cause, t) }) (recSend ti s)
  | none => recUpd ti (fun r => { r with sent := some (cause, t) }) s

/-- A trigger reaches a tile's recorder (R183, R184, R187): taken while ARMED, ignored and counted otherwise. A local
trigger of a team tile goes over the link instead (log entry 34). -/
def recTrigger (ti cause dev : Nat) (t : Int) (s : State) : State :=
  let r := (tileGet s ti).rcd
  match r.st with
  | .hold => recUpd ti (fun x => { x with holdIgn := satAdd 16 x.holdIgn 1 }) s
  | .armed => if teamOnly s ti cause then recLocal ti cause t s else recTake ti cause dev t s
  | .filling => recBusy ti cause dev t s
  | .frozen => recBusy ti cause dev t s
  | .disarmed => recBusy ti cause dev t s
  | .reading => recBusy ti cause dev t s

/-- Arm a recorder (R182): contents discarded, write pointers reset, ARM marker, HOLD, which REC_HOLD_END ends after
REARM_HOLD_US. What was timed before is not recorded (R178). Until an origin is acquired the records' SHOT_TAG is that of the
arming: the low 12 bits of SHOTS_EXPANDED (R180; DESIGN CHOICE, log entry 164). -/
def recArm (ti : Nat) (s : State) : State :=
  let tag := s.pb.shots % 4096
  let s1 := tileUpd ti (fun x =>
    let r := x.rcd
    { x with
      pend := x.pend.map (fun e => { e with noRec := true })
      rcd := { r with
        st := .hold, cause := 0, trigDev := 0, prePartial := false, shortMask := 0, armDt := s.now
        cascade := cfgF s .rcd ti 0 46 46 == 1, refAt := s.now, refTag := tag, rings := [], wr := [], aft := [], hist := []
        marks := r.marks.filter (fun m => m.kind == 5 && decide (s.now ≤ m.t)), freezeAt := none
        trigMark := false, readQ := none
        coasted := s.tb.coast, lossDt := if s.tb.coast then s.tb.lastGood else 0 } }) s
  let s2 := (List.range 16).foldl (fun a c => chanUpd (16 * ti + c) (fun x => { x with recWritten := 0 }) a) s1
  markPut ti { kind := 3, t := s.now, time := some 0, tag := tag } s2

/-- CASCADE changes: a recorder that holds no capture changes its layout at once, and the records written so far are
discarded with their rings. A filling one keeps the POST_TRIG_COUNT that it latched, above 4,096 too, and counts its
aftermath from zero again (R190; DESIGN CHOICE, log entry 29). -/
def recLayout (ti : Nat) (cascade : Bool) (s : State) : State :=
  let r := (tileGet s ti).rcd
  if r.cascade != cascade && (r.st == .hold || r.st == .armed || r.st == .filling) then
    recUpd ti (fun x => { x with cascade := cascade, rings := [], wr := [], aft := [], hist := [] }) s
  else s

/-- An event record is written where REC_WIN and REC_REJ select it (R178); the first of the tile at or after the trigger
carries TRIG: where each channel has its ring the spec does not say whether it is the first of each (R179; DESIGN CHOICE,
log entry 119). PILE of an event that is not recorded passes to the channel's next (R166). -/
def recEvent (ti : Nat) (e : PendEv) (blanked filtered coinc : Bool) (s : State) : State :=
  let r := (tileGet s ti).rcd
  let ch := 16 * ti + e.c
  let ring := if r.cascade then 0 else e.c
  let pile := e.pile || (chanGet s ch).pileCarry
  let sel := !e.noRec && bitOf e.recW (39 + e.win) && ((!blanked && !filtered && !coinc) || fld e.recW 38 38 == 1)
  if sel && ringTakes r ring e.t false then
    let trig := r.trigMark && (r.st == .filling || r.st == .frozen) && decide (r.split ≤ e.t)
    let w := recWord s e.c (if e.high then 3 else 1) e.win blanked filtered coinc pile trig (e.rtag % 4096) (twos 36 e.rt)
    let s1 := recPut ti ring w e.t false (recUpd ti (fun x => { x with trigMark := x.trigMark && !trig }) s)
    recFill ti e.t (chanUpd ch (fun x => { x with pileCarry := false }) s1)
  else if pile then chanUpd ch (fun x => { x with pileCarry := true }) s else s

/-! ### Qualification (R144, R147, R198, R199) -/

/-- The timing output of a channel at a device time, from its transitions (newest first). -/
def outputAt : List (Int × Bool) → Int → Bool
  | [], _ => false
  | (t, v) :: r, x => if t ≤ x then v else outputAt r x

/-- The majority filter of a receive word on an event (R147): samples every nanosecond of device time after the crossing,
at the whole nanoseconds of device time without spread (DESIGN CHOICE, log entry 161), as far as they are taken by a
moment. -/
def majority (s : State) (w : Word) (ch : Nat) (t by_ : Int) : Bool :=
  let first := t / 8192 + 1
  let n := ((List.range (fld w 42 39)).filter (fun (k : Nat) =>
    decide ((first + k) * 8192 ≤ by_) && outputAt (rxGet s ch).trans ((first + k) * 8192))).length
  decide (fld w 38 35 ≤ n)

/-- Blanking rejects an event (R144, R145). -/
def isBlanked (s : State) (ti : Nat) (e : PendEv) : Bool :=
  fld e.rxw 43 43 == 1 && rxBlank s e.tileW ti e.t

/-- The majority filter has not passed an event by a moment. -/
def isFiltered (s : State) (ti : Nat) (by_ : Int) (e : PendEv) : Bool :=
  fld e.rxw 44 44 == 1 && !majority s e.rxw (16 * ti + e.c) e.t by_

/-- The coincidence word of a tile in effect (R199). -/
def coincWord (s : State) (ti : Nat) : Word :=
  match (tileGet s ti).coinc with
  | some w => w
  | none => (resetWords 0 .histTile ti).getD 1 0

/-- The time from an event of a channel to its decision: C + 2 ns with the coincidence filter on, else 2 ns; not before the
last of its own FILT_N samples where the channel's majority filter runs (R147, R199; log entry 31). -/
def eventWait (s : State) (ch : Nat) : Int :=
  let w := coincWord s (ch / 16)
  let x := rxWord s ch
  (max ((if fld w 41 41 = 1 then fld w 20 16 * 4096 else 0) + 2 * fineNs)
    (if fld x 44 44 = 1 then fld x 42 39 * fineNs else 0) : Nat)

/-- The moment at which an event is decided. -/
def PendEv.due (e : PendEv) : Int := e.t + e.wait

/-- The coincidence filter rejects an event that passed the first two steps: at the moment of the decision too few partners
have passed them (R198, R199; log entry 31). -/
def isLonely (s : State) (ti : Nat) (e : PendEv) : Bool :=
  let w := e.coinW
  let x := tileGet s ti
  let span : Int := fld w 20 16 * 4096
  let near := fun (t : Int) => decide (e.t - span ≤ t) && decide (t ≤ e.t + span)
  let part := fun (c : Nat) => c != e.c && (fld w 63 48).testBit c &&
    (x.past.any (fun p => p.1 == c && near p.2) ||
     x.pend.any (fun p => p.verdict.isNone && p.c == c && near p.t && !isBlanked s ti p && !isFiltered s ti e.due p))
  fld w 41 41 == 1 && (fld w 63 48).testBit e.c &&
    decide (((List.range 16).filter part).length + 1 < fld w 40 36)

/-- The bin of an event at receive time r in a pixel, where it lies in the span (R195). -/
def eventBin (r : Int) (x : Pix) : Option Nat :=
  let lo : Int := 64 * x.ofs
  let b := ((r - lo) / ((2 ^ x.k : Nat) : Int)).toNat
  if r < lo || decide ((if x.wide then 2048 else 4096) ≤ b) then none else some b

/-- Saturating addition into the bin of an event (R195, R200): the pixel with it, and what it adds to SAT_TOTAL and
OUT_SPAN of the channel. -/
def binEvent (r : Int) (x : Pix) : Pix × Nat × Nat :=
  match eventBin r x with
  | none =>
    (if r < 64 * x.ofs then { x with outLow := satAdd 32 x.outLow 1 } else { x with outHigh := satAdd 32 x.outHigh 1 }, 0, 1)
  | some b =>
    let full := if x.wide then 16777215 else 65535
    let n := tabGet 0 x.bins b
    if n = full then ({ x with satEvents := satAdd 32 x.satEvents 1 }, 1, 0)
    else ({ x with bins := tabSet 0 x.bins b (n + 1) }, 0, 0)

/-- The bins of a histogram granule (R192, R389): four in normal mode, two in wide mode. -/
def granuleBins (wide : Bool) (g : Nat) : List Nat :=
  if wide then (List.range 2).map (fun i => 2 * (g % 1024) + i) else (List.range 4).map (fun i => 4 * (g % 1024) + i)

/-- The granule of a bin. -/
def binGranule (wide : Bool) (b : Nat) : Nat := if wide then b / 2 else b / 4

/-- A pixel whose buffer has lost a granule: those bins read zero, and it carries ECC_LOSS. -/
def loseBins (g : Nat) (p : Pix) : Pix := { p with bins := (granuleBins p.wide g).foldl (fun b i => tabDel b i) p.bins, ecc := true }

/-- Change the pixel of an event's shot in its buffer: the one accumulating, or the one handed over at the last swap
(R203). A pixel that the shot did not enter takes nothing (R206). -/
def pixUpd (ch : Nat) (bufB : Bool) (tag : Nat) (f : Pix → Pix) (s : State) : State :=
  let c := chanGet s ch
  if c.accB == bufB then chanUpd ch (fun x => if x.pix.acqSeqs.contains tag then { x with pix := f x.pix } else x) s
  else engUpd (ch / 256) (fun e => { e with closed := e.closed.map (fun d =>
    if d.ch = ch ∧ d.pix.acqSeqs.contains tag then { d with pix := f d.pix } else d) }) s

/-- The pixel of a shot in a buffer, if it is there. -/
def pixOf (s : State) (ch : Nat) (bufB : Bool) (tag : Nat) : Option Pix :=
  let c := chanGet s ch
  if c.accB == bufB then (if c.pix.acqSeqs.contains tag then some c.pix else none)
  else ((engGet s (ch / 256)).closed.find? (fun d => d.ch == ch && d.pix.acqSeqs.contains tag)).map (fun d => d.pix)

/-- Factory range zero plus user range zero of a channel in force (R249). -/
def rangeZero (s : State) (ch : Nat) : Int :=
  factOne s (entS 32 s.fact.zero) ch + sfld (cfgW s .calRx ch 0) 63 40

/-- The gate centre G0 of CAL.ZERO on a channel (R260 step 4). -/
def zeroGate (s : State) (ch : Nat) : Int :=
  (fld (s.cal.req.getD 2 0) 35 0 : Nat) + rangeZero s ch + sfld (cfgW s .echo (ch / 256) 1) 23 0

/-- CAL.ZERO measures a channel: its tile is named and CH_MASK holds it (Table 9 of ch. 09). -/
def zeroMeasures (s : State) (ch : Nat) : Bool :=
  s.cal.mask.testBit (ch / 16) && (fld (s.cal.req.getD 1 0) 63 48).testBit (ch % 16)

/-- An event that passed blanking and the majority filter, while CAL.ZERO fires: it is kept for each shot of the block
within whose gate it lies and that has none yet on this channel (R260 step 4). -/
def calZeroEvent (ch : Nat) (t : Int) (s : State) : State :=
  let half := fld (s.cal.req.getD 3 0) 47 32 * 4096
  s.cal.shotAt.foldl (fun a x =>
    let had := (tabGet [] a.cal.events ch).any (fun (p : Nat × Int) => p.1 == x.1)
    if zeroMeasures s ch && decide (x.2 ≤ t) && decide ((t - x.2 - zeroGate s ch).natAbs ≤ half) && !had then
      { a with cal := { a.cal with events := tabUpd [] a.cal.events ch (· ++ [(x.1, t - x.2)]) } }
    else a) s

/-- The buffer of the pixel that the shot of a pre-window event has entered. -/
def preBuf (s : State) (ch : Nat) (e : PendEv) : Bool :=
  let c := chanGet s ch
  if c.pix.acqSeqs.contains e.tag then c.accB else !c.accB

/-- A corrected error of a memory is counted; where the 1 s that ends with it holds more than CE_LIMIT, that number waits
to be judged (R389). -/
def eccCorrected (mem : Nat) (s : State) : State :=
  let limit := cfgF s .safe 0 1 27 12
  let l := (s.up :: s.safe.ceAt.filter (fun t => decide (s.up < t + 1000 * fineMs))).take 65536
  { s with safe := { s.safe with
    ceTotal := satAdd 32 s.safe.ceTotal 1, ceAt := l, ceMem := mem
    ceOver := if limit ≠ 0 ∧ limit < l.length then max s.safe.ceOver l.length else s.safe.ceOver } }

/-- What the read of a granule of a channel's histogram buffer brings: a corrected error is counted, an uncorrectable one
decided (R389). -/
def binRead (kind ch g : Nat) (s : State) : State :=
  if kind = 1 then eccCorrected ch s else if kind = 2 then decideCause 8 ch g s else s

/-- An event is decided: counted and binned, with the decision that the recorder takes (R144, R173, R195, R200, R201). -/
def decideEvent (ti : Nat) (e : PendEv) (s : State) : State :=
  let ch := 16 * ti + e.c
  let blanked := isBlanked s ti e
  let filtered := !blanked && isFiltered s ti e.due e
  let lonely := !blanked && !filtered && isLonely s ti e
  let ok := !blanked && !filtered && !lonely
  let s1 := if blanked then rxUpd ch (fun x => { x with blanked := satAdd 32 x.blanked 1 }) s
    else if filtered then rxUpd ch (fun x => { x with filteredOut := satAdd 32 x.filteredOut 1 }) s
    else
      let s' := tileUpd ti (fun x => { x with past := (e.c, e.t) :: x.past.filter (fun p => decide (e.t < p.2 + 64 * fineNs)) }) s
      if lonely then chanUpd ch (fun x => { x with coincTotal := satAdd 32 x.coincTotal 1 }) s' else s'
  let s2 :=
    if e.win = 1 then
      if ok then
        if (tileGet s1 ti).shots.any (fun x => x.seq == e.tag) then
          chanUpd ch (fun x => { x with preBin := (List.range 8).map (fun b =>
            x.preBin.getD b 0 + (if b = e.preBin then 1 else 0)) }) s1
        else pixUpd ch (preBuf s1 ch e) e.tag (fun p => { p with preBin := p.preBin.mapIdx (fun b n =>
            if b = e.preBin then satAdd 32 n 1 else n) }) s1
      else s1
    else if e.win = 2 then
      let s' := pixUpd ch e.bufB e.tag (fun p => { p with
        postTimed := satAdd 32 p.postTimed 1, coincRej := if lonely then satAdd 32 p.coincRej 1 else p.coincRej }) s1
      if ok then
        match pixOf s' ch e.bufB e.tag with
        | some p0 =>
          let hit := (eventBin e.r p0).map (binGranule p0.wide)
          let p := match hit with
            | some g => if e.ecc = 2 then loseBins g p0 else p0
            | none => p0
          let b := binEvent e.r p
          let s' := match hit with
            | some g => binRead e.ecc ch (g + 1024 * b2n e.bufB) s'
            | none => s'
          chanUpd ch (fun x => { x with satTotal := satAdd 32 x.satTotal b.2.1, outSpan := satAdd 32 x.outSpan b.2.2 })
            (pixUpd ch e.bufB e.tag (fun _ => b.1) s')
        | none => s'
      else s'
    else s1
  let s3 := if blanked || filtered then s2 else calZeroEvent ch e.t s2
  tileUpd ti (fun y => { y with pend := y.pend.map (fun p =>
    if p = e then { p with verdict := some (blanked, filtered, lonely) } else p) }) s3

/-- The first of a list by due moment, the lower channel first of the same moment. -/
def firstDue : List PendEv → Option PendEv
  | [] => none
  | e :: r => match firstDue r with
    | some p => if p.due < e.due ∨ p.due = e.due ∧ p.c < e.c then some p else some e
    | none => some e

/-- The events of a tile whose moment has come are decided in its order (R199); all of them where device time is about to
step. -/
def decideEvents (force : Bool) (ti : Nat) : Nat → State → State
  | 0, s => s
  | n + 1, s =>
    match firstDue ((tileGet s ti).pend.filter (fun e => e.verdict.isNone && (force || decide (e.due ≤ s.now)))) with
    | some e => decideEvents force ti n (decideEvent ti e s)
    | none => s

/-- What a tile's recorder still has to take: an event or a marker. -/
inductive TileItem where
  | ev (e : PendEv)
  | mk (m : RecMark)
deriving DecidableEq, Repr

/-- The order in which a recorder takes them: by 1 ns cycle, then by channel, markers before channel 0 (R177; log entry
29). -/
def TileItem.key : TileItem → Nat
  | .ev e => (e.t / 8192).toNat * 17 + e.c + 1
  | .mk m => (m.t / 8192).toNat * 17

/-- It is due: an event once it is decided, a marker once its cycle is over, or its time where device time is about to
step. -/
def TileItem.due (force : Bool) (now : Int) : TileItem → Bool
  | .ev e => e.verdict.isSome
  | .mk m => decide ((m.t / 8192 + 1) * 8192 ≤ now) || (force && decide (m.t ≤ now))

/-- The recorder takes it. -/
def TileItem.take_ (ti : Nat) (s : State) : TileItem → State
  | .ev e =>
    let v := e.verdict.getD (false, false, false)
    recEvent ti e v.1 v.2.1 v.2.2 (tileUpd ti (fun y => { y with pend := y.pend.erase e }) s)
  | .mk m => markPut ti m (recUpd ti (fun r => { r with marks := r.marks.erase m }) s)

/-- Decide what is due on a tile; its recorder then takes what it can in its order, and what is not due holds back all behind
it, so that a 1 ns cycle is whole (R177). -/
def decideTile (force : Bool) (ti : Nat) (s0 : State) : State :=
  let s := decideEvents force ti (tileGet s0 ti).pend.length s0
  let x := tileGet s ti
  let go := (sortBy TileItem.key (x.rcd.marks.map .mk ++ x.pend.map .ev)).takeWhile (TileItem.due force s.now)
  if go.isEmpty then s else recSettle ti (go.foldl (TileItem.take_ ti) s)

/-- Decide everything that is due. -/
def decideAll (force : Bool) (s : State) : State :=
  ((s.tile.filter (fun p => !p.2.pend.isEmpty || !p.2.rcd.marks.isEmpty)).map (fun p => p.1)).foldl
    (fun a ti => decideTile force ti a) s

/-! ### Pixels (R105, R173, R201 to R206) -/

/-- Crossing 4 of R27 at the SYS setting in force, in fine units rounded up. -/
def crossing4 (s : State) : Int := if s.pwr.div = 0 then 46695 else if s.pwr.div = 1 then 60621 else 87655

/-- The other buffer of a channel is seen released at an instant (R203). -/
def released (s : State) (ch : Nat) (at_ : Int) : Bool :=
  let c := chanGet s ch
  !c.held && (match c.relAt with
    | some t => decide (t + crossing4 s ≤ at_)
    | none => true)

/-- A notice enters crossing 3 of a quadrant, 256 entries: one that finds it full would count as an overflow, which the
Umpire takes as an internal fault. It cannot fill, since each channel has one notice in it at most (R28). -/
def xing3 (q : Nat) (s : State) : State :=
  if (engGet s q).closed.length < 256 then s
  else
    let n := satAdd 32 s.safe.xing3 1
    decideCause 10 3 n { s with safe := { s.safe with xing3 := n } }

/-- A channel's pixel closes at an instant: it swaps and hands the buffer to the engine, or extends, to try again at the
next close instant (R203, R204). One that waits after a halt closes when it sees the release alone (R206). -/
def closeChan (ch : Nat) (at_ : Int) (s : State) : State :=
  let c := chanGet s ch
  if !c.pix.opened || c.haltWait then s
  else if released s ch at_ then
    let s1 := chanUpd ch (fun x => { x with accB := !x.accB, held := true, relAt := none, extRun := 0, pix := {} }) (xing3 (ch / 256) s)
    engUpd (ch / 256) (fun e => { e with closed := e.closed ++
      [{ ch := ch, at_ := at_, era := s.tb.era, inst := at_, phaseOfs := s.tb.phaseOfs, pix := c.pix }] }) s1
  else
    let run := satAdd 16 c.extRun 1
    let s1 := chanUpd ch (fun x => { x with extRun := run, pix := { x.pix with ext := true, extCount := satAdd 8 x.pix.extCount 1 } }) s
    tileUpd (ch / 16) (fun x => { x with extensions := satAdd 32 x.extensions 1, extRunMax := max x.extRunMax run }) s1

/-- Close the pixels of a tile that an OPEN finds still open; one that has extended goes on with it (R105, R204). -/
def closeOpen (ti : Nat) (at_ : Int) (s : State) : State :=
  (upTo (16 * ti) (16 * ti + 15)).foldl (fun a ch => if (chanGet a ch).pix.ext then a else closeChan ch at_ a) s

/-- Close every channel of a tile at an instant. -/
def closeTile (ti : Nat) (at_ : Int) (s : State) : State :=
  (upTo (16 * ti) (16 * ti + 15)).foldl (fun a ch => closeChan ch at_ a) s

/-- At a halt each tile takes its close instant for every open pixel; a channel whose other buffer is held waits
(R206). -/
def haltChan (ch : Nat) (at_ : Int) (s : State) : State :=
  let c := chanGet s ch
  if !c.pix.opened || c.haltWait then s
  else
    let s1 := chanUpd ch (fun x => { x with pix := { x.pix with haltClose := true, ext := false } }) s
    if released s ch at_ then
      tileUpd (ch / 16) (fun x => { x with haltCloses := satAdd 16 x.haltCloses 1 }) (closeChan ch at_ s1)
    else chanUpd ch (fun x => { x with haltWait := true }) s1

/-- The close of a shot's pixel on a tile at an instant, or the halt close of the last shot before a halt (R202, R206). -/
def closeShot (ti : Nat) (e : ShotEnt) (at_ : Int) (s : State) : State :=
  if e.halt then (upTo (16 * ti) (16 * ti + 15)).foldl (fun a ch => haltChan ch at_ a) s else closeTile ti at_ s

/-- The master, or a member on this device's reference path, coasts as last reported (R285). -/
def pathCoast (s : State) : Bool :=
  let path := if cfgF s .team 0 0 61 61 = 1 then 1 else 2 ^ devNum s - 1
  decide ((s.team.peerCoast &&& path) ≠ 0) || (isMaster s && s.tb.coast)

/-- TEAM_COAST and TEAM_STALE of a shot at its origin: what holds now or held last since its pre-window opened (R285; log
entry 30). -/
def teamFlags (e : ShotEnt) (s : State) : Bool × Bool :=
  if !teamEn s then (false, false)
  else
    (pathCoast s || decide (e.preAt < s.team.coastEnd),
     !s.team.ofsValid || (match s.team.staleAt with
       | some t => decide (t ≤ s.now)
       | none => false) || decide (e.preAt < s.team.staleEnd))

/-- OPEN on a channel (R105, R196, R204): a waiting extended pixel goes on, with the next of the pixels that it merges, whose
shots alone CAL_MIXED then compares (R205, R255); otherwise a new pixel with the binning and results latched. R206 says
that PB.START finds every buffer closed or released; on a channel whose other buffer is still held when PB.START is
accepted all the same, the model lets the run start, OPEN does nothing, and the channel's events enter no histogram until
it has closed (DESIGN CHOICE, log entry 166). -/
def openChan (e : ShotEnt) (ord : Nat) (ch : Nat) (s : State) : State :=
  let c := chanGet s ch
  if c.haltWait then s
  else if c.pix.opened then chanUpd ch (fun x => { x with pix := { x.pix with ext := false, genAcq := none } }) s
  else chanUpd ch (fun x => { x with pix :=
    { opened := true, ord := min 65535 ord, frame := e.frame, tag := e.tag, k := fld e.histW 47 44
      wide := fld e.histW 48 48 == 1, ofs := fld e.histW 31 16, calGen := s.cal.gen, calBand := s.cal.bandActive
      calStale := s.cal.stale, echoW := e.echoW, rst := (engGet s (ch / 256)).startRst, z := rangeZero s ch } }) s

/-- OPEN on a tile at an instant: first the close of a pixel still open, then the new one, with its ordinal (R105,
R202, R209). -/
def openTile (ti : Nat) (e : ShotEnt) (at_ : Int) (s : State) : State :=
  let s1 := closeOpen ti at_ s
  let x := tileGet s1 ti
  let ord := if x.ordFrame = e.frame then x.ord else 0
  let s2 := (upTo (16 * ti) (16 * ti + 15)).foldl (fun a ch => openChan e ord ch a) s1
  tileUpd ti (fun y => { y with ord := ord + 1, ordFrame := e.frame }) s2

/-- The part of pre-window bin b that the test of R171 admits, in receive LSBs (R173). -/
def preExpoLsb (e : ShotEnt) (b : Nat) : Nat :=
  let w : Int := e.p / 8 * 4096
  let lo := e.origin - e.p * 4096 + b * w
  ((lo + w - max lo e.preAt) / 64).toNat

/-- A shot of a quadrant's tiles that has not entered its pixels yet has its origin before a time. -/
def shotBefore (s : State) (q : Nat) (t : Int) : Bool :=
  s.tile.any (fun (p : Nat × Tile) => p.1 / 16 == q && p.2.shots.any (fun e => decide (e.origin < t)))

/-- Origins of FRAME shots that have been reached become synchronising resets (R226). -/
def takeResets (s : State) : State :=
  { s with eng := s.eng.map (fun (p : Nat × Eng) =>
    let now := p.2.frameResets.filter (fun o => decide (o ≤ s.now))
    (p.1, { p.2 with resets := p.2.resets + now.length, bgResets := satAdd 16 p.2.bgResets now.length
                     frameResets := p.2.frameResets.filter (fun o => decide (s.now < o))
                     resetAt := (p.2.resetAt ++ now).filter (shotBefore s p.1) })) }

/-- Synchronising resets of a quadrant's engine up to a shot origin (R226): those taken, without the ones after it, and
those still to be taken. -/
def resetsAt (s : State) (q : Nat) (t : Int) : Nat :=
  let e := engGet s q
  e.resets - (e.resetAt.filter (fun o => decide (t < o))).length + (e.frameResets.filter (fun o => decide (o ≤ t))).length

/-- An acquired shot enters the pixel of a channel at its origin (R173, R201, R205, R255). -/
def mergeAcq (e : ShotEnt) (ch : Nat) (s : State) : State :=
  let c := chanGet s ch
  let tf := teamFlags e s
  let pre := c.preBin
  let rst := resetsAt s (ch / 256) e.origin
  let f := fun (x : Pix) => { x with
    shots := x.shots + 1
    rst := max x.rst rst
    shotsAcq := satAdd 16 x.shotsAcq 1
    preShort := if e.origin - e.p * 4096 < e.preAt then satAdd 16 x.preShort 1 else x.preShort
    preExpo := x.preExpo.mapIdx (fun b n => n + preExpoLsb e b)
    preBin := x.preBin.mapIdx (fun b n => satAdd 32 n (pre.getD b 0))
    pile := satAdd 32 x.pile c.prePile
    calMixed := x.calMixed || decide (x.genAcq.getD s.cal.gen ≠ s.cal.gen)
    genAcq := some (x.genAcq.getD s.cal.gen)
    origin := match x.origin with | some o => some o | none => some e.origin
    winEnd := some (e.origin + e.l * 4096)
    coast := x.coast || s.tb.coast || decide (e.preAt < s.tb.coastEnd)
    slew := x.slew || s.tb.st == .slewing
    steerLate := x.steerLate || e.steerLate
    teamCoast := x.teamCoast || tf.1
    teamStale := x.teamStale || tf.2
    acqSeqs := e.seq :: x.acqSeqs
    refSeqs := if e.volleyRefused then x.refSeqs ++ [e.seq] else x.refSeqs }
  chanUpd ch (fun x => { x with preBin := [], prePile := 0, pix := if x.pix.opened && !x.haltWait then f x.pix else x.pix }) s

/-- A shot that the tile did not acquire counts in the pixel of a channel (R132, R169, R174, R256). -/
def mergeNot (e : ShotEnt) (ch : Nat) (s : State) : State :=
  let rst := resetsAt s (ch / 256) e.origin
  let f := fun (y : Pix) =>
    let x := if e.judge == .skipped then y else { y with rst := max y.rst rst }
    match e.judge with
    | .refused => { x with shots := x.shots + 1, holdSkips := satAdd 16 x.holdSkips 1, refSeqs := x.refSeqs ++ [e.seq] }
    | .outOfService => { x with shots := x.shots + 1, calSkips := satAdd 16 x.calSkips 1, refSeqs := x.refSeqs ++ [e.seq] }
    | .late => { x with refSeqs := x.refSeqs ++ [e.seq] }
    | .skipped => { x with skipped := satAdd 16 x.skipped 1 }
    | .disarmed => x
    | .acquired => x
  chanUpd ch (fun x => if x.pix.opened && !x.haltWait then { x with pix := f x.pix } else x) s

/-- A shot that a tile did not acquire takes effect at an instant: OPEN, its counts, CLOSE (R105, R174, R202). -/
def passShot (ti : Nat) (e : ShotEnt) (at_ : Int) (s : State) : State :=
  if !e.arms then s
  else
    let s1 := if e.opens then openTile ti e at_ s else s
    let s2 := (upTo (16 * ti) (16 * ti + 15)).foldl (fun a ch => mergeNot e ch a) s1
    if e.closes then closeShot ti e at_ s2 else s2

/-- The shots at the head of a tile's list that it did not acquire and that are due take effect; `force` takes those
ahead of an acquired shot whose origin is reached (log entry 32). -/
def passDue (force : Bool) (ti : Nat) : Nat → State → State
  | 0, s => s
  | n + 1, s =>
    let x := tileGet s ti
    match x.shots with
    | e :: r =>
      if e.judge == .acquired || x.cur.isSome then s
      else if force || decide (e.origin ≤ s.now) then
        passDue force ti n (passShot ti e (max e.origin x.lastEnd) (tileUpd ti (fun y => { y with shots := r }) s))
      else s
    | [] => s

/-- The origin of an acquired shot at the head of a tile's list (R168): POST, OPEN, its counts, and the ORIGIN
marker. -/
def startShot (ti : Nat) (e : ShotEnt) (s : State) : State :=
  let short := decide (e.origin - e.p * 4096 < e.preAt)
  let s1 := tileUpd ti (fun y => { y with
    shots := y.shots.drop 1, cur := some e, win := if y.winEn then .post else .disarmed
    shotsAcq := satAdd 32 y.shotsAcq 1, preShort := if short then satAdd 32 y.preShort 1 else y.preShort }) s
  let s2 := if e.opens then openTile ti e e.origin s1 else s1
  let s3 := (upTo (16 * ti) (16 * ti + 15)).foldl (fun a ch => mergeAcq e ch a)
    { s2 with safe := { s2.safe with deadShots := tabSet 0 s2.safe.deadShots ti 1 } }
  recUpd ti (fun r =>
    let r1 := recRef e.origin (e.seq % 4096) r
    if cfgF s .rcd ti 0 43 43 = 1 then
      { r1 with marks := r1.marks ++ [{ kind := 1, t := e.origin, time := some 0, tag := e.seq % 4096 }] }
    else r1) s3

/-- The end of a tile's post-window (R168, R202): HOLD or ARMED, the close of a CLOSE shot, then the shots behind it
that the tile did not acquire. -/
def endPost (ti : Nat) (s : State) : State :=
  match (tileGet s ti).cur with
  | none => s
  | some e =>
    let end_ := e.origin + e.l * 4096
    let s1 := tileUpd ti (fun y => { y with cur := none, lastEnd := end_, rearm := e.rearm
                                            win := if !y.winEn then .disarmed else if end_ < e.rearm then .hold else .armed }) s
    let s2 := if e.closes then closeShot ti e end_ s1 else s1
    passDue false ti ((tileGet s2 ti).shots.length) s2

/-- On every tile the shots that it did not acquire and that are due take effect. -/
def passAll (s : State) : State :=
  ((s.tile.filter (fun (p : Nat × Tile) => !p.2.shots.isEmpty)).map (fun (p : Nat × Tile) => p.1)).foldl
    (fun a ti => passDue false ti (tileGet a ti).shots.length a) s

/-- WIN_EN takes effect on a tile at a moment, which becomes A_t (R168, R457); acquired shots expanded since the set took
effect keep the A_t they made, and pre-windows begin no earlier. Before the epoch every tile is DISARMED. -/
def winApply (en : Bool) (ti : Nat) (at_ : Int) (s : State) : State :=
  let x := tileGet s ti
  if en == x.winEn || !s.tb.epochSet then s
  else if en then tileUpd ti (fun y => { y with
    winEn := true, win := .armed, rearm := at_
    at_ := y.shots.foldl (fun a (e : ShotEnt) => if e.judge == .acquired then max a e.rearm else a) at_
    shots := y.shots.map (fun (e : ShotEnt) => { e with preAt := max e.preAt at_ }) }) s
  else tileUpd ti (fun y => { y with winEn := false, win := .disarmed }) s

/-- Coincidence fields take effect on a tile (R199). -/
def coincApply (w : Word) (ti : Nat) (s : State) : State :=
  tileUpd ti (fun y => { y with coinc := if w = (resetWords 0 .histTile ti).getD 1 0 then none else some w }) s

/-- The last shot of a list that ends in a pixel takes the halt close. -/
def haltMark : List ShotEnt → Option (List ShotEnt)
  | [] => none
  | e :: r =>
    match haltMark r with
    | some l => some (e :: l)
    | none => if e.arms || e.judge == .acquired then some ({ e with closes := true, halt := true } :: r) else none

/-- A tile with shots still to come or a post-window open closes with the last of them; `none` where it has none. -/
def haltTile (x : Tile) : Option Tile :=
  match haltMark x.shots, x.cur with
  | some l, _ => some { x with shots := l }
  | none, some e => some { x with cur := some { e with closes := true, halt := true } }
  | none, none => none

/-- Every tile's halt close: at the later of the halt and the end of the last acquired post-window, which shots already
expanded move on (R202, R206; log entry 78). -/
def haltClose (s : State) : State :=
  let s1 := { s with tile := s.tile.map (fun (p : Nat × Tile) =>
    (p.1, { (haltTile p.2).getD p.2 with exOpen := false, exShots := 0 })) }
  (s1.chan.map (fun (p : Nat × Chan) => p.1)).foldl (fun a ch =>
    if (haltTile (tileGet s (ch / 16))).isSome then a
    else haltChan ch (max a.now (tileGet a (ch / 16)).lastEnd) a) s1

/-- WIN_CH_STATUS, WIN_TILE_STATUS and WIN_REC_STATUS (Tables 11 to 13 of ch. 06). -/
def winChStatus (s : State) (ch : Nat) : List Word :=
  let c := chanGet s ch
  [BitVec.ofNat 64 c.eventsTimed, pack [(32, c.pileTotal), (32, c.recWritten)]]

/-- The number of a window state. -/
def winNum : WinSt → Nat
  | .disarmed => 0 | .armed => 1 | .post => 2 | .hold => 3

/-- The number of a recorder state. -/
def recNum : RecSt → Nat
  | .disarmed => 0 | .hold => 1 | .armed => 2 | .filling => 3 | .frozen => 4 | .reading => 5

/-- The tile and recorder status words of a tile. -/
def winTileStatus (s : State) (ti : Nat) : List Word :=
  let x := tileGet s ti
  let r := x.rcd
  [pack [(32, x.shotsAcq), (32, x.holdoffSkip)], pack [(32, x.preShort), (2, winNum x.win), (30, 0)],
   pack [(3, recNum r.st), (3, r.cause), (1, b2n r.prePartial), (4, r.trigDev), (5, 0), (16, r.shortMask),
     (16, r.holdIgn), (16, r.busy)]] ++ dtWords r.trigDt ++ [pack [(32, r.captures), (16, r.armIgnored), (16, 0)]]

/-- HIST_CH_STATUS (Table 8 of ch. 07). -/
def histChStatus (s : State) (ch : Nat) : List Word :=
  let c := chanGet s ch
  [pack [(32, c.satTotal), (32, c.coincTotal)],
   pack [(32, c.outSpan), (16, c.extRun), (13, 0), (1, b2n c.accB), (1, b2n c.held), (1, b2n c.pix.opened)]]

/-- HIST_TILE_STATUS (Table 9 of ch. 07). -/
def histTileStatus (s : State) (ti : Nat) : Word :=
  let x := tileGet s ti
  pack [(32, x.extensions), (16, x.extRunMax), (16, x.haltCloses)]

/-- HIST_Q_STATUS (Table 10 of ch. 07). -/
def histQStatus (s : State) (q : Nat) : Word :=
  let p := tabGet ({} : Pers) s.pers q
  pack [(32, p.naPixels), (16, min 65535 p.sweepFrames), (1, b2n p.clearing), (15, 0)]

end Sys2Proof.Machine
end

