-- ==== Sys2Proof/Machine/Consist.lean ====
section
/-! DEFINITION. The effects of a set on the configuration, and the consistency rules of R311 and Table 12 of ch. 11. -/

namespace Sys2Proof.Machine

/-! ### Sets on the store -/

/-- The kinds of the user calibration layer, whose values wait for a step (R250). -/
def isUserKind : CfgKind → Bool
  | .calRx => true | .calEm => true | .calDev => true
  | .ctrlPort => false | .tpll => false | .mode => false | .epoch => false | .emCh => false | .emLim => false
  | .volley => false | .stretch => false | .desc => false | .seg => false | .jump => false | .pb => false
  | .stl => false | .stream => false | .rx => false | .rxTile => false | .mc => false | .mp => false
  | .margin => false | .profile => false | .winTile => false | .rcd => false | .histTile => false | .pers => false
  | .echo => false | .coef => false | .team => false | .queue => false | .route => false | .port => false
  | .gate => false | .filter => false | .cb => false | .time => false | .safe => false | .pwr => false

/-- The key of a kind and the kind's object index, where the key names one. -/
def keyOf (n : Nat) : Option (CfgKind × Nat) := (keyKind n).map (fun k => (k, n % 2 ^ 20))

/-- The store after one effect; R239: coefficients are written as they are. -/
def putOp (mac : Nat) (t : Tab Obj) : SetOp → Tab Obj
  | .write n ws => match keyOf n with
    | some (k, i) => cfgPutIn mac t k i (mergeWords k (cfgIn mac t k i) ws)
    | none => t
  | .armJump _ _ => t
  | .swapBank _ _ _ => t

/-- The store after a list of effects. -/
def putOps (mac : Nat) (t : Tab Obj) (ops : List SetOp) : Tab Obj := ops.foldl (putOp mac) t

/-- The configuration in force with the pending user layer in place of the active one (R250, R311). -/
def cfgNext (s : State) : Tab Obj :=
  s.cal.pendUser.foldl (fun t e => match keyOf e.1 with
    | some (k, i) => cfgPutIn s.fact.mac t k i e.2
    | none => t) s.cfg

/-- The key of the object that an effect writes. -/
def opKey : SetOp → Option Nat
  | .write n _ => some n
  | .armJump _ _ => none
  | .swapBank _ _ _ => none

/-- The words of the last write of an object. -/
def lastWrite (n : Nat) : List SetOp → Option Obj
  | [] => none
  | .write k ws :: rest => (lastWrite n rest).orElse (fun _ => if k = n then some ws else none)
  | .armJump _ _ :: rest => lastWrite n rest
  | .swapBank _ _ _ :: rest => lastWrite n rest

/-- What a later write of the object leaves of a write (R307): of gate words the entries, under the later control words and
without their APPLY; of any other object nothing, since a write holds every field (R325). -/
def underWrite (n : Nat) (ws later : Obj) : List SetOp :=
  if n / 2 ^ 20 = kindIx .gate then
    [.write n (setFld (setFld (later.getD 0 0) 63 63 0) 60 53 (fld (ws.getD 0 0) 60 53) :: later.getD 1 0 :: later.getD 2 0 :: ws.drop 3)]
  else []

/-- The effects of a transaction: a later staged write to a field overrides an earlier one (R307). -/
def netOps : List SetOp → List SetOp
  | [] => []
  | .write n ws :: rest => (match lastWrite n rest with
      | some l => underWrite n ws l
      | none => [.write n ws]) ++ netOps rest
  | .armJump slot on :: rest => .armJump slot on :: netOps rest
  | .swapBank q bank m :: rest => .swapBank q bank m :: netOps rest

/-- The effects of a list of staged commands. -/
def opsOf (ms : List Staged) : List SetOp := netOps (ms.map (fun m => m.ops)).flatten

/-- The objects of a kind that are listed in a store. -/
def objs (t : Tab Obj) (k : CfgKind) : List (Nat × Obj) :=
  t.filterMap (fun e => if e.1 / 2 ^ 20 = kindIx k then some (e.1 % 2 ^ 20, e.2) else none)

/-- Whether an effect writes an object of one of some kinds. -/
def touches (ks : List CfgKind) (ops : List SetOp) : Bool :=
  ops.any (fun o => match o with
    | .write n _ => ks.any (fun k => n / 2 ^ 20 == kindIx k)
    | .armJump _ _ => false
    | .swapBank _ _ _ => false)

/-! ### Rules by group -/

/-- The largest stretch of a pulse position in any table and band (R79). -/
def worstStretch (t : Tab Obj) (p : Nat) : Nat :=
  (objs t .stretch).foldl (fun a o => o.2.foldl (fun b w => max b (fld w (16 * p + 15) (16 * p))) a) 0

/-- A volley pattern against every gate-stretch table (R79, R82). -/
def volleyOk (t : Tab Obj) (o : Obj) : Bool :=
  let w := fun p => o.getD p 0
  let v := fun p => fld (w p) 63 63 == 1
  let fall := fun p => fld (w p) 35 0 + fld (w p) 59 36 + worstStretch t p
  v 0 && (!v 2 || v 1) && (!v 3 || v 2) && decide (fld (w 0) 35 0 = 0)
    && (List.range 3).all (fun p => !v (p + 1) ||
        (decide (fld (w p) 35 0 < fld (w (p + 1)) 35 0) && decide (fall p + 8192 ≤ fld (w (p + 1)) 35 0)))
    && (List.range 4).all (fun p => !v p || decide (fld (w p) 59 36 + worstStretch t p ≤ 16777215))

/-- Valid resident segments against the refill ring, while STREAM_SRC is not off (R108, R128). -/
def ringOk (mac : Nat) (t : Tab Obj) : Bool :=
  let st := (cfgIn mac t .stream 0).getD 0 0
  let lo := fld st 47 32
  let hi := lo + 2 ^ fld st 31 28
  fld st 27 26 == 0 || (objs t .seg).all (fun o =>
    let w := o.2.getD 0 0
    !(fld w 63 63 == 1 && fld w 62 62 == 0 && decide (fld w 15 0 < hi) && decide (lo < fld w 15 0 + fld w 32 16)))

/-- T_m of R123 over an average: the last 1, 4, 16 or 64 MP0 periods, of those seen where fewer have been (log entry 39), as
their sum and their number. -/
def periodsOf (avg : Nat) (s : State) : Option (Int × Nat) :=
  let n := min (4 ^ avg) (s.pb.mpEdges.length - 1)
  match s.pb.mpEdges with
  | e :: _ => if n = 0 then none else some (e - s.pb.mpEdges.getD n e, n)
  | [] => none

/-- T_m with the MIRROR_AVG in force. -/
def mirrorPeriods (s : State) : Option (Int × Nat) := periodsOf (cfgF s .pb 0 3 31 30) s

/-- SC_PHASE of PB.SET_CONFIG against SC_PERIOD (R122). -/
def pbOk (mac : Nat) (t : Tab Obj) : Bool :=
  let w := fun n => (cfgIn mac t .pb 0).getD n 0
  decide (fld (w 2) 35 0 < fld (w 1) 35 0)

/-- MIRROR_OFS of a PB.SET_CONFIG against the mirror period measured as its set is accepted, over the set's own MIRROR_AVG
(R122). A set that waits is not judged again with a later period, since R311 refuses none once it is accepted. While no
period has been measured there is nothing to compare with: the spec says nothing, and the model makes no check (DESIGN
CHOICE, log entry 181). -/
def mirrorFree (s : State) (mac : Nat) (t : Tab Obj) (ops : List SetOp) : Bool :=
  let w := fun n => (cfgIn mac t .pb 0).getD n 0
  !touches [.pb] ops || (match periodsOf (fld (w 3) 31 30) s with
    | some tm => decide ((fld (w 4) 35 0 * tm.2 : Nat) < tm.1)
    | none => true)

/-- The driver link of PB.SET_CONFIG and PB.SET_STL (R122). -/
def drvOk (mac : Nat) (t : Tab Obj) : Bool :=
  let w := (cfgIn mac t .pb 0).getD 0 0
  fld w 31 31 == 0 || fld ((cfgIn mac t .stl (fld w 27 26)).getD 0 0) 15 15 == 1

/-- The largest margin of a half over the bands (R140): receive half 0, monitor half 1. -/
def worstMargin (mac : Nat) (t : Tab Obj) (half : Nat) : Nat :=
  (List.range 6).foldl (fun a b => max a (fld ((cfgIn mac t .margin 0).getD 0 0) (24 * half + 4 * b + 3) (24 * half + 4 * b))) 0

/-- A receive word (R140, R159). -/
def rxOk (mac : Nat) (t : Tab Obj) (w : Word) : Bool :=
  (fld w 45 45 == 0 || decide (fld w 9 0 < fld w 19 10)) && decide (fld w 38 35 ≤ fld w 42 39)
    && decide (fld w 31 26 + worstMargin mac t 0 ≤ 50)

/-- A monitor's first word (R140, R149, R150, R161). -/
def mcOk (mac : Nat) (t : Tab Obj) (w : Word) : Bool :=
  let h := fld w 43 38 + worstMargin mac t 1
  decide (h ≤ 50) && decide (fld w 47 44 ≤ fld w 51 48)
    && (decide (fld w 61 60 < 2) || decide (fld w 9 0 + 2 * h ≤ fld w 19 10))
    && (fld w 59 58 == 0 || fld w 56 56 == 1 || fld w 55 55 == 1)

/-- A mirror input's word (R140, R158). -/
def mpOk (mac : Nat) (t : Tab Obj) (w : Word) : Bool :=
  decide (fld w 43 38 + worstMargin mac t 1 ≤ 50) && decide (fld w 47 44 ≤ fld w 51 48)

/-- POST_TRIG_COUNT against the ring length (R186). -/
def postOk (o : Obj) : Bool :=
  let w := o.getD 0 0
  decide (fld w 63 47 ≤ if fld w 46 46 = 1 then 65536 else 4096)

/-- Coincidence fields (R214). -/
def coincOk (o : Obj) : Bool :=
  let w := o.getD 1 0
  fld w 41 41 == 0 || decide (fld w 40 36 ≤ (maskBits 16 (fld w 63 48)).length)

/-- The persistence region (R215): 504 MiB above the queue contexts of R350. -/
def persOk (s : State) (mac : Nat) (t : Tab Obj) : Bool :=
  let w := fun n => (cfgIn mac t .pers 0).getD n 0
  let base := (w 1).toNat
  fld (w 0) 62 62 == 0 || (decide (base % 2 ^ 20 = 0) && decide (base + 504 * 2 ^ 20 ≤ s.ctl.lpMib * 2 ^ 20)
    && decide (32 * 2 ^ 20 ≤ base))

/-- A bank may be written as the engine stands: no fade runs and none is queued; the active bank only while the Playbook is
idle and no pixel is pending (R228). -/
def coefFree (s : State) (q bank : Nat) : Bool :=
  let e := engGet s q
  !e.run && e.queued.isNone
    && (decide (bank ≠ e.bank) || (isIdle s && e.closed.isEmpty))

/-- The sum of a coefficient bank over the coefficients used (R228). -/
def coefOk (mac : Nat) (t : Tab Obj) (i : Nat) : Bool :=
  let n := tapCount ((cfgIn mac t .echo (i % 4)).getD 0 0)
  decide (128 ≤ ((bankCoef (cfgIn mac t .coef i)).take n).foldl (· + ·) (0 : Int))

/-- Effects request a fade of a quadrant: a swap to the bank that is not active (Table 3 of ch. 08). -/
def fades (s : State) (q : Nat) (ops : List SetOp) : Bool :=
  ops.any (fun o => match o with
    | .swapBank p bank _ => p == q && bank != (engGet s q).bank
    | .write _ _ => false
    | .armJump _ _ => false)

/-- A team offset and an emitter offset keep R248 with the skews of a channel. -/
def skewsOk (s : State) (ch : Nat) (team ofs : Int) : Bool :=
  (List.range 6).all (fun b => decide ((skewF s ch b + team + ofs).natAbs ≤ 524223))

/-- The values of TEAM_OFS that R248 judges in a store: the layer's, and on the master the zero in its place (R271; DESIGN
CHOICE, log entry 136). -/
def teamOfsIn (mac : Nat) (t : Tab Obj) : List Int :=
  sfld ((cfgIn mac t .calDev 0).getD 0 0) 23 0 :: (if fld ((cfgIn mac t .team 0).getD 0 0) 63 62 = 3 then [0] else [])

/-- The values of EM_OFS of a channel that R248 judges in a store: the layer's, and one that a calibration in progress has
found, which will take its place. -/
def emOfsIn (s : State) (t : Tab Obj) (ch : Nat) : List Int :=
  sfld ((cfgIn s.fact.mac t .calEm ch).getD 0 0) 63 40 ::
    (s.cal.newVals.filter (fun v => v.key == cfgKey .calEm ch && v.word == 0 && v.lo == 40)).map (fun v => signed 24 v.val)

/-- The user layer against factory skew (R248). -/
def userOk (s : State) (mac : Nat) (t : Tab Obj) : Bool :=
  (List.range 64).all (fun ch => (teamOfsIn mac t).all (fun team => (emOfsIn s t ch).all (skewsOk s ch team)))

/-- Team configuration against the timebase (R269). The first two conditions bind a set that writes TEAM_CFG, the others
every set while TEAM_EN is set. -/
def teamOk (mac : Nat) (t : Tab Obj) (writesTeam : Bool) : Bool :=
  let w := (cfgIn mac t .team 0).getD 0 0
  let m := (cfgIn mac t .mode 0).getD 0 0
  let p := (cfgIn mac t .tpll 0).getD 0 0
  let master := fld w 62 62 == 1
  let roles := if master then fld w 59 56 == 0
    else fld w 59 56 != 0 && decide (fld w 59 56 ≤ fld w 55 52)
  let base := fld m 3 2 == 3
  (!writesTeam || roles) && (fld w 63 63 == 0 ||
    (base && fld m 15 15 == 0 && (master || (fld p 29 28 == 1 && fld p 27 0 == 100000000))))

/-- A gate list meets R372 (with or without preemption). -/
def gateListOk (preempt : Bool) (l : GateList) : Bool :=
  let run := gateRun l.cycleNs 0 l.entries
  let wins := run.filter (fun x => x.1.testBit 7)
  let starts := wins.map (fun x => x.2.1)
  let next := starts.drop 1 ++ (starts.take 1).map (· + l.cycleNs)
  !wins.isEmpty
    && wins.all (fun x => decide (x.1 = 128) && decide (1500 ≤ x.2.2))
    && (List.zipWith (fun a b => decide (b ≤ a + 8000)) starts next).all id
    && (preempt || wins.all (fun x =>
        -- the intervals before the window, nearest first, around the cycle
        let before := (run.filter (fun y => y.2.1 < x.2.1)).reverse ++ (run.filter (fun y => x.2.1 ≤ y.2.1)).reverse
        decide (1250 ≤ ((before.takeWhile (fun y => y.1 == 0)).map (fun y => y.2.2)).sum)))

/-- The administrative list that a gate object holds. -/
def adminList (o : Obj) : GateList :=
  { cycleNs := fld (o.getD 1 0) 31 0, baseNs := (o.getD 2 0).toNat
    entries := (List.range (fld (o.getD 0 0) 52 44)).map (fun e =>
      let w := o.getD (3 + e) 0
      (fld w 39 32, fld w 31 0)) }

/-- Whether some effect applies the gate list of a port. -/
def appliesGate (p : Nat) (ops : List SetOp) : Bool :=
  ops.any (fun o => match o with
    | .write n ws => n == cfgKey .gate p && fld (ws.getD 0 0) 63 63 == 1
    | .armJump _ _ => false
    | .swapBank _ _ _ => false)

/-- The ports that a route of a C0 queue leaves by in a store. -/
def c0Ports (mac : Nat) (t : Tab Obj) : List Nat :=
  [0, 1].filter (fun p => (objs t .queue).any (fun q =>
    let w := q.2.getD 0 0
    fld w 63 63 == 1 && fld w 62 61 == 0 && fld w 60 59 == 1 &&
      (fld ((cfgIn mac t .route (fld (q.2.getD 1 0) 7 0)).getD 0 0) 3 2).testBit p))

/-- A port meets R372: its list is on, and the list in force, the one that waits for its base time and the one that the
set applies all keep the C0 window. -/
def gatePortOk (s : State) (mac : Nat) (t : Tab Obj) (ops : List SetOp) (p : Nat) : Bool :=
  let g := cfgIn mac t .gate p
  let pre := fld ((cfgIn mac t .port p).getD 0 0) 61 61 == 1
  let pt := portGet s p
  let chk := fun (l : Option GateList) => match l with
    | some x => gateListOk pre x
    | none => true
  fld (g.getD 0 0) 62 62 == 1 && pt.oper.isSome && chk pt.oper && chk pt.admin
    && (!appliesGate p ops || gateListOk pre (adminList g))

/-- Every port that a C0 route leaves by meets R372. -/
def gatesOk (s : State) (mac : Nat) (t : Tab Obj) (ops : List SetOp) : Bool :=
  (c0Ports mac t).all (gatePortOk s mac t ops)

/-- R352: quadrants, telemetry and alert destinations over the enabled queues; class, number, destination and route of
every queue. -/
def queuesOk (mac : Nat) (t : Tab Obj) : Bool :=
  let on := (objs t .queue).filter (fun q => fld (q.2.getD 0 0) 63 63 == 1)
  let kind := fun (q : Nat × Obj) => fld (q.2.getD 0 0) 58 56
  let cls := fun (q : Nat × Obj) => fld (q.2.getD 0 0) 62 61
  let dest := fun (q : Nat × Obj) => fld (q.2.getD 0 0) 60 59
  let count := fun (p : Nat × Obj → Bool) => (on.filter p).length
  (List.range 4).all (fun quad => [1, 2].all (fun k =>
      decide (count (fun q => kind q == k && (fld (q.2.getD 0 0) 55 52).testBit quad) ≤ 1)))
    && decide (count (fun q => kind q == 4) ≤ 1)
    && (List.range 3).all (fun d => decide (count (fun q => kind q == 3 && dest q == d) ≤ 1))
    && (objs t .queue).all (fun q =>
      (if kind q == 3 then cls q == 0 && decide (q.1 ≤ 1023) else cls q != 0)
        && (kind q != 1 || cls q == 1) && (kind q != 2 || cls q == 2)
        && (dest q != 2 || kind q == 3)
        && (dest q != 1 || fld ((cfgIn mac t .route (fld (q.2.getD 1 0) 7 0)).getD 2 0) 63 63 == 1))

/-- An external port's word (R365). -/
def portOk (w : Word) : Bool :=
  (List.range 8).all (fun p => fld w (3 * p + 22) (3 * p + 20) != 7)
    && (List.range 7).all (fun q => fld w (2 * q + 7) (2 * q + 6) != 0)
    && decide (fld w 49 47 < fld w 52 50) && decide (fld w 46 44 < fld w 49 47)
    && (fld w 61 61 == 0 || fld w 60 53 == 0x80)

/-- No route with CB_EN, defined or not, names a stream entry that recovers (Table 11 of ch. 13). -/
def cbOk (mac : Nat) (t : Tab Obj) : Bool :=
  (objs t .route).all (fun r =>
    let w := r.2.getD 2 0
    fld w 62 62 == 0 || fld ((cfgIn mac t .cb (fld w 61 56)).getD 0 0) 2 2 == 0)

/-! ### The check of R311 -/

/-- The objects of a kind that effects write. -/
def written (k : CfgKind) (ops : List SetOp) : List Nat :=
  ops.filterMap (fun o => match o with
    | .write n _ => if n / 2 ^ 20 = kindIx k then some (n % 2 ^ 20) else none
    | .armJump _ _ => none
    | .swapBank _ _ _ => none)

/-- The rules whose status is OUT_OF_RANGE (R186, R248). -/
def rangeRules (s : State) (mac : Nat) (t : Tab Obj) (ops : List SetOp) : Bool :=
  (!touches [.rcd] ops || (objs t .rcd).all (fun o => postOk o.2))
    && (!touches [.calEm, .calDev, .team] ops || userOk s mac t)

/-- The rules whose status is INCONSISTENT, over the state that a set's effects leave. -/
def inconsRules (s : State) (mac : Nat) (t : Tab Obj) (ops : List SetOp) : Bool :=
  (!touches [.volley, .stretch] ops || (objs t .volley).all (fun o => volleyOk t o.2))
    && (!touches [.seg, .stream] ops || ringOk mac t)
    && (!touches [.pb] ops || pbOk mac t)
    && (!touches [.pb, .stl] ops || drvOk mac t)
    && (!touches [.rx, .margin] ops || (objs t .rx).all (fun o => rxOk mac t (o.2.getD 0 0)))
    && (!touches [.mc, .margin] ops || (objs t .mc).all (fun o => mcOk mac t (o.2.getD 0 0)))
    && (!touches [.mp, .margin] ops || (objs t .mp).all (fun o => mpOk mac t (o.2.getD 0 0)))
    && (!touches [.histTile] ops || (objs t .histTile).all (fun o => coincOk o.2))
    && (!touches [.pers] ops || persOk s mac t)
    && (written .coef ops).all (coefOk mac t)
    && (!touches [.team, .tpll, .mode] ops || teamOk mac t (touches [.team] ops))
    && (!touches [.epoch] ops ||
        !(fld ((cfgIn mac t .team 0).getD 0 0) 63 63 == 1 && fld ((cfgIn mac t .team 0).getD 0 0) 62 62 == 0))
    && (!touches [.queue, .route] ops || queuesOk mac t)
    && (!touches [.queue, .route, .port, .gate] ops || gatesOk s mac t ops)
    && (!touches [.port] ops || ((objs t .port).filter (fun o => o.1 < 2)).all (fun o => portOk (o.2.getD 0 0)))
    && (!touches [.cb, .route] ops || cbOk mac t)

/-- The status that the rules give a state of the configuration (R295 check 6). -/
def ruleStatus (s : State) (t : Tab Obj) (ops : List SetOp) : Nat :=
  if !rangeRules s s.fact.mac t ops then stRange else if !inconsRules s s.fact.mac t ops then stIncons else stOk

/-- The order in which waiting sets are expected to take effect: by boundary, and by SEQ within one (R304, R311). -/
def dueOrder (l : List WaitSet) : List WaitSet := sortBy (fun (w : WaitSet) => w.boundary * 2 ^ 32 + w.seq) l

/-- The configuration that a set meets at a boundary: in force, plus every waiting set due by then (R311). Order of
boundaries: 1 next shot, 2 next pixel, 3 next frame. -/
def cfgAt (s : State) (boundary : Nat) : Tab Obj :=
  (dueOrder (s.ctl.waiting.filter (fun w => decide (w.boundary ≤ boundary)))).foldl
    (fun t w => putOps s.fact.mac t (opsOf w.members)) (cfgNext s)

/-- The configurations to come: the next step's, and then after each waiting set (R311). -/
def laterCfgs (s : State) : List (Tab Obj) :=
  let go := (dueOrder s.ctl.waiting).foldl (fun (a : List (Tab Obj) × Tab Obj) w =>
    let t := putOps s.fact.mac a.2 (opsOf w.members)
    (a.1 ++ [t], t)) ([], cfgNext s)
  cfgNext s :: go.1

/-- The banks that a set writes may be written as the engines stand and with the fades of the sets due by its boundary; and
no bank that a set due later writes meets a fade that this set requests (R228, R311; log entry 150). -/
def banksFree (s : State) (boundary : Nat) (ops : List SetOp) : Bool :=
  (written .coef ops).all (fun i => coefFree s (i % 4) (i / 4)
      && !(s.ctl.waiting.any (fun w => decide (w.boundary ≤ boundary) && fades s (i % 4) (opsOf w.members))))
    && (s.ctl.waiting.filter (fun w => decide (boundary < w.boundary))).all (fun w =>
      (written .coef (opsOf w.members)).all (fun i => !fades s (i % 4) ops))

/-- The status that a set has by itself in the configuration at its boundary: the rules, the banks that it writes, and the
mirror period measured now. -/
def ownStatus (s : State) (boundary : Nat) (t : Tab Obj) (ops : List SetOp) : Nat :=
  if !banksFree s boundary ops then stIncons
  else if ruleStatus s t ops = stOk ∧ mirrorFree s s.fact.mac t ops = false then stIncons
  else ruleStatus s t ops

/-- The check of a set at acceptance (R311): at its boundary, and then with each waiting set due later. The boundaries
are taken in the order next shot, next pixel, next frame (log entry 116). -/
def setStatus (s : State) (boundary : Nat) (ops : List SetOp) : Nat :=
  let t0 := putOps s.fact.mac (cfgAt s boundary) ops
  let later := s.ctl.waiting.filter (fun w => decide (boundary < w.boundary))
  let all := dueOrder later
  (all.foldl (fun (a : Nat × Tab Obj × List SetOp) w =>
    if a.1 ≠ stOk then a
    else
      let t := putOps s.fact.mac a.2.1 (opsOf w.members)
      let os := a.2.2 ++ opsOf w.members
      (ruleStatus s t os, t, os)) (ownStatus s boundary t0 ops, t0, ops)).1

/-! ### Classes (R303, R325) -/

/-- Whether two objects differ inside masks. -/
def diffIn (ms : List Nat) (a b : Obj) : Bool :=
  (List.range (max a.length b.length)).any (fun n =>
    decide (((a.getD n 0).toNat ^^^ (b.getD n 0).toNat) &&& ms.getD n 0 ≠ 0))

/-- The class of what changes between two values of an object: 3 class I, 2 class F, 1 class L, 0 nothing (R303, R325).
Coefficients have no class of their own (R341). -/
def changeClass (k : CfgKind) (i : Nat) (x y : Obj) : Nat :=
  if k = .coef ∨ x = y then 0
  else if diffIn (idleBits k i) x y then 3
  else if diffIn (frameBits k i) x y then 2 else 1

/-- The class of a set over the configuration that it meets: the most restrictive of what its effects together change. -/
def classOf (mac : Nat) (t : Tab Obj) (ops : List SetOp) : Nat :=
  let t' := putOps mac t ops
  ops.foldl (fun a o => match (opKey o).bind keyOf with
    | some (k, i) => max a (changeClass k i (cfgIn mac t k i) (cfgIn mac t' k i))
    | none => a) 0

end Sys2Proof.Machine
end

