-- ==== Sys2Proof/Machine/PowerOps.lean ====
section
/-! DEFINITION. The shared operations of ch. 15: the SYS divider, the MRAM directory, log pages and PWR_STATUS. -/

namespace Sys2Proof.Machine

/-- The SYS divider demands as exponents of two: droop, thermal, SYS_DIV_MIN (R414). -/
def sysDemand (s : State) : Nat :=
  max (if s.pwr.droop2 then 2 else if s.pwr.droop1 then 1 else 0)
    (max (if s.pwr.band = 5 then cfgF s .pwr 0 0 61 60 else 0) (cfgF s .pwr 0 0 63 62))

/-- Engine cycles that have passed since a running time at the SYS divider in force (R220). -/
def cyclesSince (s : State) (since : Nat) : Nat := (s.up - since) / (fineNs * 2 ^ s.pwr.div)

/-- The SYS divider changes: passes and tails of the echo engines go on at the new rate (R220, R414). -/
def setDiv (d : Nat) (s : State) : State :=
  let go := fun (x : Done) => { x with left := x.left - cyclesSince s x.since, since := s.up }
  if d = s.pwr.div then s
  else
    { s with
      pwr := { s.pwr with div := d }
      eng := s.eng.map (fun (p : Nat × Eng) => (p.1, { p.2 with pass := p.2.pass.map go, tail := p.2.tail.map go })) }

/-- The demands change: slowing acts at once; the time since a level was last demanded is kept for speeding up
(R413). -/
def sysAdjust (s : State) : State :=
  let d := sysDemand s
  let rel := fun (level : Nat) (was : Option Nat) => if level ≤ d then none else match was with
    | some t => some t
    | none => some s.up
  let s1 := setDiv (max s.pwr.div d) s
  { s1 with pwr := { s1.pwr with relAt := rel 2 s.pwr.relAt, relAt1 := rel 1 s.pwr.relAt1 } }

/-- DIV_CAUSE (Table 10 of ch. 15). -/
def divCause (s : State) : Nat :=
  b2n s.pwr.droop1 + 2 * b2n s.pwr.droop2 + 4 * b2n (s.pwr.band == 5) + 8 * b2n (cfgF s .pwr 0 0 63 62 != 0)

/-! ### The image directory (R425) -/

/-- The CRC-32C of a directory copy, over its words in an order of the model's (log entry 152). -/
def dirCrc (d : ImageDir) : Nat :=
  crc32c (wordBytes (BitVec.ofNat 64 d.seqNo :: BitVec.ofNat 64 (d.boot.getD 4) ::
    d.slots.map (fun p => pack [(32, p.1), (32, p.2)])))

/-- A directory copy that can be read: whole, with its CRC-32C right. -/
def dirGood (d : ImageDir) : Bool := d.whole && d.crc == dirCrc d

/-- Copy 0 is the newer of the copies that can be read. -/
def dirFirst (m : Mram) : Bool := dirGood m.dir0 && (!dirGood m.dir1 || decide (m.dir1.seqNo ≤ m.dir0.seqNo))

/-- The directory: the newer copy that can be read; with none, no slot is valid and none is selected. -/
def dirNow (m : Mram) : ImageDir := if dirFirst m then m.dir0 else if dirGood m.dir1 then m.dir1 else {}

/-- Change the older copy of the directory. -/
def dirOlder (f : ImageDir → ImageDir) (m : Mram) : Mram :=
  if dirFirst m then { m with dir1 := f m.dir1 } else { m with dir0 := f m.dir0 }

/-- A directory update: the older copy takes the directory as changed, the next sequence number and the CRC-32C. -/
def dirWrite (f : ImageDir → ImageDir) (m : Mram) : Mram :=
  let d : ImageDir := { f (dirNow m) with seqNo := (dirNow m).seqNo + 1, whole := true }
  dirOlder (fun _ => { d with crc := dirCrc d }) m

/-- An image slot is marked valid. -/
def slotMarked (m : Mram) (slot : Nat) : Bool := (dirNow m).slots.any (fun p => p.1 == slot)

/-- A directory without a slot, and with a slot marked valid with the CRC-32C of its image. -/
def dirDrop (slot : Nat) (d : ImageDir) : ImageDir := { d with slots := d.slots.filter (fun p => p.1 != slot) }

def dirMark (slot crc : Nat) (d : ImageDir) : ImageDir :=
  { d with slots := insBy (fun (p : Nat × Nat) => p.1) (slot, crc) (dirDrop slot d).slots }

/-- Image slots that are valid as a mask. -/
def imageMask (s : State) : Nat := (dirNow s.pwr.mram).slots.foldl (fun a p => a ||| 2 ^ p.1) 0

/-- PWR_STATUS (Table 10 of ch. 15). -/
def pwrStatus (s : State) : List Word :=
  let p := s.pwr
  [pack [(16, twos 16 p.tempNow), (16, twos 16 p.tempMax), (16, twos 16 p.tempMin), (3, p.band),
     (2, p.div), (4, divCause s), (1, b2n p.bootImageBad), (2, (dirNow p.mram).boot.getD 3), (1, b2n (dirNow p.mram).boot.isNone),
     (1, b2n p.nvmNow.isSome), (2, 0)],
   pack [(32, p.droopEvents), (32, min (2 ^ 32 - 1) (wholeMs p.throttleFine))],
   pack [(16, p.bandChanges), (16, p.nvmFails), (4, imageMask s), (8, p.lastShut), (20, 0)],
   BitVec.ofNat 64 p.pagesWritten]

/-- A soft limit of a log record's detail of 56 bits. -/
def logDetail (hi lo : Nat) : Nat := (hi % 2 ^ 8) * 2 ^ 48 + lo % 2 ^ 48

/-- Records in a log page of 4 KiB. -/
abbrev logPage : Nat := 128

/-- The log records of the MRAM as the words of R427. -/
def logWords (r : LogRec) : List Word :=
  pack [(8, r.kind), (56, r.detail)] :: dtWords r.dt ++ [BitVec.ofNat 64 r.jseq]

/-- Queue the log page of the first records in the buffer once a page has filled (R427). -/
def logPages (s : State) : State :=
  let queued := s.pwr.nvmQ.foldl (fun a j => match j with
    | .log n => a + n
    | .journal _ => a | .userCopy _ _ _ => a | .imageInvalidate _ => a | .imagePage _ _ _ => a | .imageValid _ => a
    | .imageErase _ => a | .imageSelect _ => a | .bootSlot _ => a)
    (match s.pwr.nvmNow with
     | some (.log n) => n
     | _ => 0)
  if queued + logPage ≤ s.pwr.logBuf.length then nvmPut (.log logPage) s else s

/-- A log record, and its page where that fills one (R427). -/
def logEvent (kind detail : Nat) (s : State) : State := logPages (logRec kind detail s)

end Sys2Proof.Machine
end

