-- ==== Sys2Proof/Machine/CalOps.lean ====
section
/-! DEFINITION. The calibration unit's shared operations (ch. 09): steps, tiles out of service, the end of a
calibration, status. -/

namespace Sys2Proof.Machine

/-- Change the calibration unit. -/
def calUpd (f : Cal → Cal) (s : State) : State := { s with cal := f s.cal }

/-! ### Steps (R251 to R254) -/

/-- The band of the next step: one band from the active one toward the decided one (R253). -/
def bandDue (s : State) : Nat :=
  let a := s.cal.bandActive
  if s.pwr.band = 7 ∨ s.pwr.band = a then a else if a < s.pwr.band then a + 1 else a - 1

/-- Nothing waits for a step any more: CAL_STALE clears and its cause is gone (R254). -/
def calRest (s : State) : State :=
  causeGone 25 (calUpd (fun c => { c with loading := false, loadedAt := none, bandPending := 7, stale := false }) s)

/-- The results of the last calibration wait for a step: its user values, or CAL.TEAM's offset (CAL_STATE 4). -/
def resultWaits (s : State) : Bool :=
  if s.cal.kind = 3 then s.cal.teamStep || s.team.calApply.isSome
  else s.cal.pendUser.any (fun e => s.cal.resKeys.contains e.1)

/-- CAL_STATE leaves 4 once no result waits (R265). -/
def calSettle (s : State) : State :=
  if s.cal.st = 4 ∧ !resultWaits s then calUpd (fun c => { c with st := 0, kind := 0 }) s else s

/-- What feeds the next step has changed (R253): load STANDBY, reload it with another band, or cancel the step. -/
def calFeed (s0 : State) : State :=
  let s := calSettle s0
  let due := bandDue s
  if due = s.cal.bandActive ∧ s.cal.pendUser.isEmpty ∧ !s.cal.teamStep then
    (if s.cal.loading || s.cal.loadedAt.isSome then calRest s else s)
  else if s.cal.loading then calUpd (fun c => { c with loadBand := due }) s
  else if s.cal.loadedAt.isSome ∧ s.cal.bandPending = due then s
  else calUpd (fun c => { c with loading := true, loadBand := due, loadedAt := none, bandPending := 7 }) s

/-- A user-layer object waits for the next step; a value equal to the active one waits for nothing (R250). -/
def pendUser (n : Nat) (o : Obj) (s : State) : State :=
  match keyOf n with
  | some (k, i) =>
    calUpd (fun c => { c with pendUser := if cfgObj s k i = o then tabDel c.pendUser n else tabPut c.pendUser n o }) s
  | none => s

/-- The user-layer object as it will stand after the next step. -/
def userNext (s : State) (k : CfgKind) (i : Nat) : Obj :=
  match s.cal.pendUser.find? (fun e => e.1 == cfgKey k i) with
  | some e => e.2
  | none => cfgObj s k i

/-- Monitor or receive margins differ between two bands. -/
def marginsDiffer (s : State) (mc : Bool) (a b : Nat) : Bool := margin s mc a != margin s mc b

/-! ### Tiles out of service (R256) -/

/-- Tiles of a mask. -/
def tilesOf (mask : Nat) : List Nat := maskBits 64 mask

/-- A tile rejoins at a moment: its re-arm time is that moment; its recorder stays disarmed (R256). -/
def rejoinTile (ti : Nat) (s : State) : State :=
  tileUpd ti (fun x => { x with calOut := false, calAsk := false, at_ := s.now, rearm := s.now
                                win := if x.winEn then .armed else .disarmed }) s

/-- The CRC-32C of a user layer as a copy stores it (R264; log entry 54): its keys and words. -/
def userCrc (vals : List (Nat × Obj)) : Nat := crc32c (vals.flatMap (fun v => leBytes 4 v.1 ++ wordBytes v.2))

/-- A saved copy is valid: its pages whole, its CRC-32C and its device identity right (R264). -/
def copyGood (s : State) (c : UserCopy) : Bool := c.valid && c.ident == s.fact.deviceId && c.crc == userCrc c.vals

/-- Tiles out of service (Table 12 of ch. 09). -/
def tilesOut (s : State) : Nat :=
  s.tile.foldl (fun a p => if p.2.calOut then a ||| 2 ^ p.1 else a) 0

/-! ### The end of a calibration (R262, R263) -/

/-- A calibration is in progress. -/
def calRunning (s : State) : Bool := decide (1 ≤ s.cal.st) && decide (s.cal.st ≤ 3)

/-- Result indices that a kind of calibration has (R343). -/
def calIndices (s : State) (kind : Nat) : Nat :=
  match kind with
  | 1 => 1216
  | 2 => 1024
  | 3 => s.cal.teamN + 1
  | _ => 0

/-- A failing cause for the results of every object that has not finished; a channel's result gives the blocks and the
events that it used (Table 13 of ch. 09). -/
def calFailLeft (cause : Nat) (s : State) : State :=
  let ix := match s.cal.kind with
    | 1 => (s.cal.left.map (fun t => (List.range 19).map (fun c => 19 * t + c))).flatten
    | 2 => s.cal.left
    | _ => upTo 1 s.cal.teamN
  let used := fun (i : Nat) (x : CalRes) =>
    if s.cal.kind = 2 then { x with passes := s.cal.blocks, samples := (tabGet [] s.cal.events i).length } else x
  calUpd (fun c => { c with
    results := ix.foldl (fun r i => tabUpd {} r i (fun x => { used i x with cause := cause })) c.results
    failed := c.failed + ix.length }) s

/-- The response word of a calibration (Table 17 of ch. 12). -/
def calWord (s : State) (kind cause : Nat) : Word :=
  pack [(4, cause), (12, 0), (16, calIndices s kind), (16, s.cal.passed), (16, s.cal.failed)]

/-- A tile is free of the calibration: it rejoins where it is out of service, and stays as it is where it still waits to
leave (R256). -/
def tileBack (ti : Nat) (s : State) : State :=
  if (tileGet s ti).calOut then rejoinTile ti s else tileUpd ti (fun x => { x with calAsk := false }) s

/-- A field that a calibration has found waits for the next step; the object's other fields stay as they are pending. -/
def pendTrim (v : Trim) (s : State) : State :=
  match keyOf v.key with
  | some (k, i) =>
    let o := userNext s k i
    pendUser v.key (o.set v.word (setFld (o.getD v.word 0) v.hi v.lo v.val)) s
  | none => s

/-- A calibration ends with a cause: its tiles rejoin, the values that passed wait for the next step, and the command
is answered (R257 to R262). It is journaled where it succeeded or leaves values to apply (R312). -/
def calEnd (cause : Nat) (s : State) : State :=
  let kind := s.cal.kind
  let s1 := (tilesOf s.cal.mask).foldl (fun a ti => tileBack ti a) s
  let s2 := s.cal.newVals.foldl (fun a v => pendTrim v a) s1
  let s3 := calUpd (fun c => { c with
    st := 4, lastCause := cause, resKind := kind, applied := false, resKeys := s.cal.newVals.map (fun v => v.key)
    newVals := [], left := [], mask := 0, shot := 0, blocks := 0, fired := 0, events := [], shotAt := [], redo := [] }) s2
  bgDone 8 (cause = 0 || !s.cal.newVals.isEmpty) (if cause = 0 then stOk else stCalFailed) [calWord s3 kind cause] (calFeed s3)

/-- An event aborts the calibration in progress (R263). -/
def calAbort (cause : Nat) (s : State) : State :=
  if calRunning s then calEnd cause (calFailLeft cause s) else s

/-! ### A step in a measurement (R263) and the step (R251) -/

/-- The gate of some CAL.ZERO shot on some measured channel is open or to come (R260; log entry 83). -/
def zeroOpen (s : State) : Bool :=
  let half := fld (s.cal.req.getD 3 0) 47 32 * 4096
  s.cal.shotAt.any (fun x => s.cal.left.any (fun ch => decide (s.now ≤ x.2 + zeroGate s ch + half)))

/-- Firing time of a CAL.ZERO block in µs (Table 9 of ch. 09). -/
def blockUs (s : State) : Nat := fld (s.cal.req.getD 1 0) 15 0 * fld (s.cal.req.getD 3 0) 63 48

/-- A step falls in a measurement: a CAL.ZERO block is discarded, and repeated where the firing time allows; the other
measurements begin again, CAL.LIN's on the tiles that are out of service. -/
def calStepHit (s : State) : State :=
  if s.cal.kind == 1 && calRunning s then
    calUpd (fun c => { c with redo := c.left.filter (fun ti => (tileGet s ti).calOut), passAt := s.up }) s
  else if s.cal.st != 2 then s
  else if s.cal.kind != 2 then calUpd (fun c => { c with redo := [0], passAt := s.up }) s
  else
    let upto := s.cal.blocks * fld (s.cal.req.getD 1 0) 15 0
    let s1 := calUpd (fun c => { c with
      shot := 0, shotAt := []
      events := c.events.map (fun (p : Nat × List (Nat × Int)) => (p.1, p.2.filter (fun e => decide (e.1 ≤ upto)))) }) s
    if s1.cal.fired + blockUs s1 ≤ 400000 then s1 else calAbort 7 s1

/-- A step (R251): the tables of STANDBY and every pending user value take effect together; CAL_GEN rises; the receive
channels re-settle and the monitors hold where their margins change; one journal entry of KIND 2. Where a value changed,
the published digest follows (log entry 41). -/
def calStep (s : State) : State :=
  let old := s.cal.bandActive
  let new := s.cal.bandPending
  let user := s.cal.pendUser
  let cfg' := cfgNext s
  let s1 := { s with cfg := cfg' }
  let s2 := calUpd (fun c => { c with
    bandActive := new, pendUser := [], gen := (c.gen + 1) % 65536
    applied := c.applied || (c.st == 4 && (c.kind != 3 || c.teamStep)), teamStep := false }) s1
  let s3 := if s.cal.teamStep then { s2 with team := { s2.team with
      ofsValid := true, staleEnd := if s2.team.ofsValid then s2.team.staleEnd else s2.now
      watchHas := true, watchRef := s2.team.watch } } else s2
  let s4 := if marginsDiffer s false old new then rxMargins s3 else s3
  let s5 := if marginsDiffer s true old new then (List.range 34).foldl (fun a m => monHold m a) s4 else s4
  let s6 := if user.isEmpty then s5 else { s5 with ctl := { s5.ctl with
      effDigest := digestOf cfg', unpub := s5.ctl.unpub ++ [(s5.ctl.effEpoch, digestOf cfg')] } }
  calStepHit (calFeed (journalDev 2 (calRest s6)))

/-- The measurement in progress has gathered what it computes from (DEDUCED, log entry 112): two phases of 2¹⁹ hits, 4 ns
each, on every tile; the shots of a block with their gates over; 64 × 1,024 exchanges of 400 ns (R257, R260, R276). -/
def measured (s : State) : Bool :=
  match s.cal.kind with
  | 1 => decide (s.cal.passAt + 2 * 2 ^ 19 * 4 * fineNs ≤ s.up)
  | 2 => s.cal.shot == fld (s.cal.req.getD 1 0) 15 0 && !zeroOpen s
  | _ => decide (s.cal.passAt + 64 * 1024 * 400 * fineNs ≤ s.up)

/-- CAL_STATE (Table 12 of ch. 09): 3 from the end of a measurement to its judgement. -/
def calState (s : State) : Nat := if s.cal.st = 2 ∧ measured s then 3 else s.cal.st

/-- CAL_STATUS (Table 12 of ch. 09). -/
def calStatus (s : State) : List Word :=
  let c := s.cal
  [BitVec.ofNat 64 (tilesOut s),
   pack [(4, calState s), (3, c.kind), (4, c.lastCause), (3, c.bandActive), (3, c.bandPending), (1, b2n c.loadedAt.isSome),
     (1, b2n c.stale), (1, b2n c.factoryOk), (2, b2n (copyGood s s.pwr.mram.copy0) + 2 * b2n (copyGood s s.pwr.mram.copy1)),
     (1, b2n c.userLost), (9, 0), (16, c.gen), (16, c.deferred)],
   pack [(32, c.skipTotal), (32, 0)]]

end Sys2Proof.Machine
end

