-- ==== Sys2Proof/Machine/ApplyOps.lean ====
section
/-! DEFINITION. A change set takes effect (R303 to R312): what each kind of object does when it changes, the shot-clock
grid, bank swaps, lock declarations, and the halt of the Playbook. -/

namespace Sys2Proof.Machine

/-- Change the Playbook. -/
def pbUpd (f : Pb → Pb) (s : State) : State := { s with pb := f s.pb }

/-! ### The shot clock (R119, R120) -/

/-- SC_SRC is mirror. -/
def mirrorMode (s : State) : Bool := cfgF s .pb 0 1 63 62 == 1

/-- The grids that still have events before their change points, and the events counted on the first of them. -/
def gridsLeft : List (Int × Nat × Int) → Nat → List (Int × Nat × Int) × Nat
  | [], k => ([], k)
  | (t, per, until_) :: r, k => if t + (k : Int) * per < until_ then ((t, per, until_) :: r, k) else gridsLeft r 0

/-- The next event of the shot clock: on the old grids until the change points that are still ahead (log entry 36). -/
def nextEvent (s : State) : Int :=
  match gridsLeft s.pb.gridOld s.pb.gridK with
  | ((t, per, _) :: _, k) => t + (k : Int) * per
  | ([], k) => s.pb.gridT + (k : Int) * s.pb.gridPer

/-- Events of a grid up to and including a moment. -/
def eventsBy (t : Int) (per : Nat) (at_ : Int) : Nat :=
  if at_ < t then 0 else ((at_ - t) / ((max 1 per : Nat) : Int)).toNat + 1

/-- The grid restarts at a change point with an offset and a spacing. After a change point that has passed, the new
grid's events before now count in SC_EVENT in place of those that the old grid has counted since (R119). -/
def gridStart (tc ofs : Int) (per : Nat) (s : State) : State :=
  pbUpd (fun p =>
    if s.now < tc ∧ p.gridOn then
      { p with gridOld := p.gridOld.map (fun g => (g.1, g.2.1, min g.2.2 tc)) ++ [(p.gridT, p.gridPer, tc)]
               gridT := tc + ofs, gridPer := per }
    else
      let k := eventsBy (tc + ofs) per (s.now - 1)
      let old := match p.gridOld with
        | g :: _ => (g.1, g.2.1)
        | [] => (p.gridT, p.gridPer)
      let past := if p.gridOn then p.gridK - eventsBy old.1 old.2 (tc - 1) else 0
      { p with gridOn := true, gridOld := [], gridT := tc + ofs, gridPer := per, gridK := k
               scEvent := (p.scEvent + (k - past)) % 2 ^ 32 }) s

/-- The free-running grid restarts at a change point; SC_STEPS counts (Table 5 of ch. 04). -/
def gridRestart (tc : Int) (s : State) : State :=
  pbUpd (fun p => { p with scSteps := satAdd 16 p.scSteps 1 })
    (gridStart tc (cfgF s .pb 0 2 35 0) (cfgF s .pb 0 1 35 0) s)

/-- The SC_ADV-th event strictly after a time on the grid in force (R121). -/
def eventAfter (s : State) (t : Int) (n : Nat) : Int :=
  let per : Int := max 1 s.pb.gridPer
  let first := if t < s.pb.gridT then s.pb.gridT else s.pb.gridT + ((t - s.pb.gridT) / per + 1) * per
  first + ((n : Int) - 1) * per

/-- The earliest event at or after a time (R133). -/
def eventFrom (s : State) (t : Int) : Int :=
  let per : Int := max 1 s.pb.gridPer
  if t ≤ s.pb.gridT then s.pb.gridT else s.pb.gridT + (-((s.pb.gridT - t) / per)) * per

/-! ### Bank swaps (R230) -/

/-- A bank swap request takes effect: its outcome word (Table 17 of ch. 12). -/
def swapBank (q bank m : Nat) (s : State) : State × Word :=
  let e := engGet s q
  if !e.run then
    if bank = e.bank then (s, pack [(2, 1), (62, 0)])
    else (engUpd q (fun x => { x with run := true, target := bank, m := m, pos := 0 }) s, 0)
  else match e.queued with
    | none => (engUpd q (fun x => { x with queued := some (bank, m) }) s, pack [(2, 2), (62, 0)])
    | some (b, k) =>
      (engUpd q (fun x => { x with queued := some (bank, m), replaced := satAdd 16 x.replaced 1 }) s,
       pack [(2, 3), (1, b), (45, 0), (16, k)])

/-! ### What an object does when it changes -/

/-- TB_TPLL_CFG changes (R37; log entry 16): before the first lock the start-up begins anew; after it a change of
REF_SEL or REF_FREQ_HZ freezes the loop word where it is not frozen, loads the dividers of R38 and re-acquires, with a
limit of 5 ms and no holdover timer, whatever TPLL_STATE was. -/
def tpllHook (old new : Obj) (s : State) : State :=
  if !s.tb.epochSet then
    { s with tb := { s.tb with st := .reset, refPresent := false, refBad := false, good := 0, judging := false, fracHop := none } }
  else if fld (old.getD 0 0) 29 0 = fld (new.getD 0 0) 29 0 then s
  else
    let s1 := if s.tb.coast then s else freezeLoop none s
    { s1 with tb := { s1.tb with st := .reacquire, coast := true, judging := true, good := 0, refBad := false, holdAt := none
                                 lastGood := if s.tb.coast then s.tb.lastGood else s.now
                                 reacqAt := some s.up, lockAt := none, fracHop := none } }

/-- TB_MODE_CFG changes: a new spread mode begins a period with D = 0 (DESIGN CHOICE: R48 gives its phase nowhere; log
entry 105); without FOLLOW the slew ends (R61). -/
def modeHook (old new : Obj) (s : State) : State :=
  let s1 := if fld (old.getD 0 0) 8 6 = fld (new.getD 0 0) 8 6 then s
            else { s with tb := { s.tb with ssAt := s.now, ssTicks := 0 } }
  if fld (new.getD 0 0) 15 15 = 0 ∧ s1.tb.st = .slewing then { s1 with tb := { s1.tb with st := .locked } } else s1

/-- PB_CFG changes (Table 5 of ch. 04). `running` gives the change point of a class F change. SC_PERIOD and SC_PHASE written
with the values that they hold are no change point (R119; DESIGN CHOICE, log entry 158). -/
def pbHook (old new : Obj) (running : Bool) (s : State) : State :=
  let src := fld (new.getD 1 0) 63 62
  let was := fld (old.getD 1 0) 63 62
  let clock := fld (old.getD 1 0) 35 0 != fld (new.getD 1 0) 35 0 || fld (old.getD 2 0) 35 0 != fld (new.getD 2 0) 35 0
  if s.pb.gridOn ∧ src = 0 ∧ (clock ∨ was ≠ 0) then
    gridRestart (if running && s.pb.origin.isSome then s.pb.anchor else s.now) s
  else s

/-- PB_STREAM_CFG changes: the ring starts empty, with RD_PTR, WR_PTR, HOST_CONS and the producer index at zero and no
datagram accepted; its slots keep what they hold. The spec does not say when these positions start anew (R128; DESIGN
CHOICE, log entry 115). -/
def streamHook (s : State) : State :=
  pbUpd (fun p => { p with rd := 0, wr := 0, hostCons := 0, hostProd := 0, netSeq := none, netBad := false
                           blockSeq := none, gapAt := [] }) s

/-- Channels decided dead for which that still holds (R396). -/
def deadChannels (s : State) : List Nat := s.safe.deadOn.map (fun (p : Nat × Nat) => p.1)

/-- A receive channel is watched (R396). -/
def deadWatched (s : State) (ch : Nat) : Bool :=
  cfgF s .safe 0 0 62 62 == 1 && (cfgF s .safe 0 2 63 0).testBit (ch / 16) && fld (rxWord s ch) 47 47 == 1

/-- Channels out of DEAD_TILE_MASK or with RX_EN clear are counted no longer and are not dead; the cause is gone when none
is (Table 1 of ch. 14). -/
def deadPrune (s : State) : State :=
  let keep := fun (p : Nat × Nat) => (cfgF s .safe 0 2 63 0).testBit (p.1 / 16) && fld (rxWord s p.1) 47 47 == 1
  let s1 := { s with safe := { s.safe with deadCnt := s.safe.deadCnt.filter keep, deadOn := s.safe.deadOn.filter keep } }
  if (deadChannels s1).isEmpty then causeGone 19 s1 else s1

/-- SAFE_CFG changes (R395 to R397). -/
def safeHook (old new : Obj) (s : State) : State :=
  let s1 := if fld (old.getD 0 0) 31 16 = fld (new.getD 0 0) 31 16 then s
            else { s with safe := { s.safe with liveAt := s.up } }
  let s2 := if fld (old.getD 0 0) 47 32 = fld (new.getD 0 0) 47 32 then s1
            else { s1 with safe := { s1.safe with heartAt := s1.up } }
  tripGone (deadPrune s2)

/-- TEAM_CFG changes: a change of TEAM_EN clears TEAM_OFS_VALID (Table 6 of ch. 10); it and a change of ROLE, DEV_NUM or
TEAM_SIZE_M1 form the team anew (R270, Table 3). AUTO_CAL, TOPOLOGY and WATCH_LIMIT_PS leave both as they are. -/
def teamHook (old new : Obj) (s : State) : State :=
  let w := old.getD 0 0
  let v := new.getD 0 0
  if fld w 63 62 = fld v 63 62 ∧ fld w 59 52 = fld v 59 52 then s
  else
    let s1 := { s with team := { s.team with
      formed := false, heard := [], armAt := [], trigs := [], stepPending := false, stepDelta := none, staleAt := none
      ofsValid := s.team.ofsValid && fld w 63 63 == fld v 63 63 } }
    let s1 := if s1.team.ofsValid then s1 else markTeamStale s1
    if fld (new.getD 0 0) 63 63 = 1 then
      out (.nolgil 0 [fld (new.getD 0 0) 59 56, fld (new.getD 0 0) 55 52, s1.fact.deviceId]) s1
    else s1

/-- A queue context changes (R351); records that wait for the old ring's CONS are dropped (log entry 123). -/
def queueHook (q : Nat) (old new : Obj) (s : State) : State :=
  if fld (old.getD 0 0) 43 39 = fld (new.getD 0 0) 43 39 ∧ old.getD 1 0 = new.getD 1 0 ∧ old.getD 2 0 = new.getD 2 0 then s
  else qUpd q (fun r => { r with prod := 0, rseq := 0, wait := [], drops := satAdd 32 r.drops r.wait.length }) s

/-- A port's word changes: off takes the link down; preemption runs where the peer verifies it (log entry 43). The
telemetry period begins anew where TELEM_PERIOD_MS changes (R371; log entry 142). -/
def portHook (p : Nat) (old new : Obj) (s : State) : State :=
  if 2 ≤ p then
    if fld (old.getD 1 0) 30 15 = fld (new.getD 1 0) 30 15 then s else { s with outq := { s.outq with telemAt := s.up } }
  else
    let s0 := if fld (new.getD 0 0) 63 62 = 0 then portDown p s else s
    let (b, s1) := drawBool s0
    portServe p (portUpd p (fun x => { x with preempt := fld (new.getD 0 0) 61 61 == 1 && x.link && (x.preempt || b) }) s1)

/-- Time words change: 802.1AS off makes the port not asCapable; SCHED_GPTP can change the time scale (R367). -/
def timeHook (i : Nat) (new : Obj) (s : State) : State :=
  if i < 2 ∧ fld (new.getD 0 0) 63 63 = 0 then
    schedBoth (portUpd i (fun x => { x with asCapable := false, gmKnown := false }) s)
  else schedBoth s

/-- Gate words change: GATE_EN clear opens every gate and drops the lists; APPLY hands over the administrative list
(Table 9 of ch. 13). -/
def gateHook (p : Nat) (raw new : Obj) (s : State) : State :=
  if fld (new.getD 0 0) 62 62 = 0 then
    portServe p (portUpd p (fun x => { x with oper := none, admin := none, gatesOpen := 255, gateIdx := 0, hold := false }) s)
  else if fld (raw.getD 0 0) 63 63 = 1 then portUpd p (fun x => { x with admin := some (adminList new) }) s
  else s

/-! ### Changes that wait for a quiet interval (R155, R168, R199) -/

/-- A setting of channels that satisfy a test changes: CAL.ZERO ends where it measures one of them (R263). -/
def calConfig (hit : Nat → Bool) (s : State) : State :=
  if calRunning s && s.cal.kind == 2 && s.cal.left.any hit then calAbort 8 s else s

/-- A receive, window or coincidence change takes effect. -/
def bndApply (c : BndChg) (s : State) : State :=
  match keyOf c.key with
  | some (.rx, i) => calConfig (fun ch => ch == i) (deadPrune (rxApply (c.obj.getD 0 0) i s))
  | some (.rxTile, i) => calConfig (fun ch => ch / 16 == i) (rxTileApply (c.obj.getD 0 0) i s)
  | some (.margin, _) => calConfig (fun _ => true) (rxMargins s)
  | some (.winTile, i) => winApply (fld (c.obj.getD 0 0) 47 47 == 1) i s.now s
  | some (.histTile, i) => coincApply (c.obj.getD 1 0) i s
  | _ => s

/-- A change is due at the boundary at which a frame begins, or before it. -/
def bndDue (frame : Nat) (c : BndChg) : Bool := decide ((frame + 2 ^ 32 - c.frame % 2 ^ 32) % 2 ^ 32 < 2 ^ 31)

/-- A receive change, which CMP_DEFERRED counts (R155). -/
def bndIsRx (c : BndChg) : Bool :=
  match keyOf c.key with
  | some (.rx, _) => true
  | some (.rxTile, _) => true
  | some (.margin, _) => true
  | _ => false

/-- The waiting changes that satisfy a test take effect, oldest first. -/
def bndTake (due : BndChg → Bool) (s : State) : State :=
  (s.bndQ.filter due).foldl (fun a c => bndApply c a) { s with bndQ := s.bndQ.filter (fun c => !due c) }

/-- A change of such an object: at once while idle, else at the boundary of the frame whose descriptor the walk is at. -/
def bndChange (k : CfgKind) (i : Nat) (new : Obj) (s : State) : State :=
  let c : BndChg := { frame := s.pb.frame, key := cfgKey k i, obj := new }
  if isIdle s then bndApply c s else { s with bndQ := s.bndQ ++ [c] }

/-- The fields of an MP input that act without a restart: the filter's, the hysteresis and MC_TH_HI (R158). -/
def mpActs : List Nat := [bitsOf [(56, 56), (54, 53), (51, 48), (47, 44), (43, 38), (19, 10)]]

/-- Everything an object of a kind does when a set writes it: old words, the words as written, new words. -/
def changeHook (k : CfgKind) (i : Nat) (old raw new : Obj) (s : State) : State :=
  let changed := decide (old ≠ new)
  let idle := isIdle s
  match k with
  | .tpll => tpllHook old new s
  | .gate => gateHook i raw new s
  | .mode => if changed then modeHook old new s else s
  | .emCh =>
    if !changed then s
    else
      let s1 := if fld (old.getD 1 0) 37 36 = fld (new.getD 1 0) 37 36 then s else outCtrl i (fld (new.getD 1 0) 37 36) s
      tripLevels i (fld (old.getD 1 0) 35 0) s1
  | .pb => if changed then pbHook old new (!idle) s else s
  | .stream => if changed then streamHook s else s
  | .stl =>
    -- words queued on the link are dropped, the link is free (R126; DESIGN CHOICE, log entry 159)
    if changed then pbUpd (fun p => { p with links := tabDel p.links i }) s else s
  | .rx => if changed then bndChange k i new s else s
  | .margin =>
    -- of the band in force: a receive margin re-settles the channels (R155), a monitor margin is a change of hysteresis
    -- (R140, R156; log entry 134)
    let b := 4 * s.cal.bandActive
    let differ := fun (lo : Nat) => fld (old.getD 0 0) (lo + 3) lo != fld (new.getD 0 0) (lo + 3) lo
    let s1 := if differ (b + 24) then (List.range 34).foldl (fun a m => monHold m a) s else s
    if differ b then bndChange k i new s1 else s1
  | .rxTile => if changed then bndChange k i new s else s
  | .mc => if !changed then s else if diffIn (idleBits .mc i) old new then monRestart i s else monHold i s
  | .mp =>
    -- MC_TH_LO does not act (R158)
    if diffIn (idleBits .mp i) old new then monRestart (32 + i) s else if diffIn mpActs old new then monHold (32 + i) s else s
  | .winTile => if changed then bndChange k i new s else s
  | .histTile => if old.getD 1 0 = new.getD 1 0 then s else bndChange k i new s
  | .queue => if changed then queueHook i old new s else s
  | .port => if changed then portHook i old new s else s
  | .filter => if changed then { s with sw := { s.sw with meters := tabDel s.sw.meters i } } else s
  | .cb => if changed then { s with sw := { s.sw with cb := tabDel s.sw.cb i } } else s
  | .time => if changed then timeHook i new s else s
  | .safe => if changed then safeHook old new s else s
  | .pwr => if changed then sysAdjust s else s
  | .team => if changed then teamHook old new s else s
  | .ctrlPort => s | .epoch => s | .emLim => s | .volley => s | .stretch => s | .desc => s | .seg => s | .jump => s
  | .echo =>
    -- ECHO_ALIGN_FINE
    if fld (old.getD 1 0) 23 0 = fld (new.getD 1 0) 23 0 then s else calConfig (fun ch => ch / 256 == i) s
  | .rcd => recLayout i (fld (new.getD 0 0) 46 46 == 1) s
  | .profile => s | .pers => s | .coef => s | .calRx => s | .calEm => s
  | .calDev => s | .route => s

/-- The first origin of a new frame passes its boundary: changes and a step that still wait are counted (R155, R252). A
step whose STANDBY was loaded when the boundary's quiet interval had begun already is counted too: that the boundary did
offer an interval does not matter then (DESIGN CHOICE, log entry 170). -/
def passBoundary (frame : Nat) (s : State) : State :=
  { s with
    pb := { s.pb with bound := frame }
    cmpDeferred := if s.bndQ.any (fun c => bndIsRx c && bndDue frame c) then satAdd 16 s.cmpDeferred 1 else s.cmpDeferred
    cal := { s.cal with deferred := if s.cal.loadedAt.isSome then satAdd 16 s.cal.deferred 1 else s.cal.deferred } }

/-- The boundaries whose first origin has been reached are passed, whatever the tiles make of the shot. -/
def passBoundaries (s : State) : State :=
  (s.pb.bnds.filter (fun b => decide (b.2 ≤ s.now))).foldl (fun a b => passBoundary b.1 a)
    (pbUpd (fun p => { p with bnds := p.bnds.filter (fun b => decide (s.now < b.2)) }) s)

/-- The first expanded shot of a frame gives the origin at which the frame's boundary is passed. -/
def noteBoundary (origin : Int) (s : State) : State :=
  let last := match s.pb.bnds.getLast? with
    | some b => b.1
    | none => s.pb.bound
  if last = s.pb.frame then s else pbUpd (fun p => { p with bnds := p.bnds ++ [(s.pb.frame, origin)] }) s

/-- The frame that begins at the boundary whose quiet interval is now: the next to be passed, else the one whose descriptor
the walk has reached (R47). -/
def boundaryNow (s : State) : Nat :=
  match s.pb.bnds with
  | b :: _ => b.1
  | [] => s.pb.frame

/-! ### A set takes effect -/

/-- A change of a queue's CLASS, DEST or ROUTE: the datagram being filled leaves by the old ones, since records already handed
to the old destination complete there (R351); that it leaves at once is the model's (DESIGN CHOICE, log entry 179). -/
def redirects (old new : Obj) : Bool :=
  fld (old.getD 0 0) 62 59 != fld (new.getD 0 0) 62 59 || old.getD 1 0 != new.getD 1 0

/-- One effect of a set. -/
def applyOp (op : SetOp) (s : State) : State :=
  match op with
  | .write n ws =>
    match keyOf n with
    | none => s
    | some (k, i) =>
      if isUserKind k then calFeed (pendUser n (mergeWords k (userNext s k i) ws) s)
      else
        let old := cfgObj s k i
        let new := mergeWords k old ws
        let s0 := if k = .queue ∧ redirects old new then flushQueue i s else s
        let s1 := { s0 with cfg := cfgPutIn s.fact.mac s0.cfg k i new }
        changeHook k i old ws new s1
  | .armJump slot on =>
    let l := s.pb.armed.filter (fun x => x != slot)
    pbUpd (fun p => { p with armed := if on then insBy id slot l else l }) s
  | .swapBank q bank m => (swapBank q bank m s).1

/-- A journal entry of a member of a set that takes effect (R312, R314). -/
def journalMember (kind boundary : Nat) (srcIf : Nat) (c : CmdRec) (s : State) : State :=
  journal { kind := kind, srcIf := srcIf, cmd := c, epoch := s.ctl.effEpoch, digest := s.ctl.effDigest
            digestOk := false, boundary := boundary } s

/-- A set takes effect: every effect together, the epoch and digest to publish, one journal entry per command. -/
def applySet (boundary : Nat) (w : WaitSet) (s : State) : State :=
  let s1 := (opsOf w.members).foldl (fun a o => applyOp o a) s
  let d := digestOf s1.cfg
  let s2 := { s1 with ctl := { s1.ctl with effEpoch := w.epoch, effDigest := d
                                           unpub := s1.ctl.unpub ++ [(w.epoch, d)] } }
  w.members.foldl (fun a m => journalMember (if w.isTxn then 1 else 0) boundary (mbxIface m.cmd.mbx) m.cmd a) s2

/-- The waiting sets that satisfy a test take effect, in the order of their SEQ (R304). -/
def applyWaiting (due : WaitSet → Bool) (s : State) : State :=
  let go := sortBy (fun (w : WaitSet) => w.seq) (s.ctl.waiting.filter due)
  go.foldl (fun a w => applySet w.boundary w a)
    { s with ctl := { s.ctl with waiting := s.ctl.waiting.filter (fun w => !due w) } }

/-! ### Steps of device time (R45 to R47, R60, R61, R120; log entries 66 to 68) -/

/-- A pulse of a volley as device time steps: its edges that have launched lie as far back as they did, those ahead keep
their device time (R47). -/
def stepPulse (g : Int → Int) (v : Vol) (k : Nat) (p : Pulse) : Pulse :=
  if v.dead || decide (2 * k + 2 ≤ v.launched) then { p with rise := g p.rise }
  else if 2 * k < v.launched then { p with rise := g p.rise, width := (p.width - (g p.rise - p.rise)).toNat }
  else p

/-- Device time steps by d: instants already passed stay passed, those ahead keep their device time (R47). What is measured
back from now (launched edges, update edges, MP0 edges, transitions of the timing outputs, raw crossings, partners of the
coincidence filter) lies as far back as it did (log entry 67). Events on their way through qualification are decided, and
triggers on their way to the link sent, before it (log entry 31). -/
def stepTime (d : Int) (s0 : State) : State :=
  let s := recSends true (decideAll true s0)
  let old := s.now
  let f := fun (x : Int) => if x ≤ old then min x (old + d) else x
  let g := fun (x : Int) => if x ≤ old then x + d else x
  { s with
    now := old + d
    tb := { s.tb with ssAt := s.tb.ssAt + d, slewAt := old + d, coastEnd := f s.tb.coastEnd, era := s.tb.era + 1 }
    team := { s.team with coastEnd := f s.team.coastEnd, staleEnd := f s.team.staleEnd }
    em := s.em.map (fun (p : Nat × EmCh) => (p.1, { p.2 with
      vols := p.2.vols.map (fun v => { v with pulses := v.pulses.mapIdx (stepPulse g v) }) }))
    pb := { s.pb with upds := s.pb.upds.map g, mpEdges := s.pb.mpEdges.map g }
    rx := s.rx.map (fun (p : Nat × Rx) => (p.1, { p.2 with trans := p.2.trans.map (fun x => (g x.1, x.2)) }))
    mon := s.mon.map (fun (p : Nat × Mon) => (p.1, { p.2 with
      riseAt := g p.2.riseAt, crossAt := g p.2.crossAt, hist := p.2.hist.map (fun x => (x.1, g x.2)) }))
    tile := s.tile.map (fun (p : Nat × Tile) => (p.1, { p.2 with
      past := p.2.past.map (fun x => (x.1, g x.2)), at_ := f p.2.at_, rearm := f p.2.rearm, lastEnd := f p.2.lastEnd, rcd := { p.2.rcd with split := f p.2.rcd.split, frzDt := f p.2.rcd.frzDt } }))
    chan := s.chan.map (fun (p : Nat × Chan) => (p.1, { p.2 with
      relAt := p.2.relAt.map f, lastEvt := p.2.lastEvt.map f, pix := { p.2.pix with winEnd := p.2.pix.winEnd.map f } }))
    eng := s.eng.map (fun (p : Nat × Eng) => (p.1,
      let g := fun (c : Closed) => { c with at_ := f c.at_, pix := { c.pix with winEnd := c.pix.winEnd.map f } }
      { p.2 with closed := p.2.closed.map g, resetAt := p.2.resetAt.map f, pass := p.2.pass.map (fun x => { x with px := g x.px })
                 tail := p.2.tail.map (fun x => { x with px := g x.px }) })) }

/-- A phase step makes the measurement of CAL.TEAM begin again (R263). -/
def teamAgain (s : State) : State :=
  if calRunning s && s.cal.kind == 3 then calUpd (fun c => { c with passAt := s.up }) s else s

/-- A phase step of device time: journaled, and counted in SC_STEPS (R47, R60). -/
def phaseStep (d : Int) (s : State) : State :=
  if d = 0 then s else pbUpd (fun x => { x with scSteps := satAdd 16 x.scSteps 1 }) (journalDev 3 (teamAgain (stepTime d s)))

/-- A follower's step is taken: its pixels are TEAM_STALE no more (R282, R284, R285). -/
def staleOver (s : State) : State :=
  { s with team := { s.team with stepPending := false, staleAt := none
                                 staleEnd := if s.team.staleAt.isSome then s.now else s.team.staleEnd } }

/-- A HOLD realignment (R60), and a follower's after a re-lock (R284): one step equal to PHASE_OFS, a captured step in
it. -/
def realignStep (s : State) : State :=
  phaseStep s.tb.phaseOfs (staleOver { s with tb := { s.tb with phaseOfs := 0, realign := false, stepWait := none } })

/-- A follower's captured step (R282): one step of Δ; what PHASE_OFS held beside it stays. -/
def captureStep (s : State) : State :=
  match s.tb.stepWait with
  | none => s
  | some d => phaseStep d (staleOver { s with tb := { s.tb with phaseOfs := wrapPhase (refHz s) (s.tb.phaseOfs - d), stepWait := none } })

/-- A slew step (R61): at most FOLLOW_PPM times the time since the previous step. -/
def slewStep (s : State) : State :=
  let most := (s.now - s.tb.slewAt) * (cfgF s .mode 0 0 14 9 : Nat) / 1000000
  let d := clampI (-most) most s.tb.phaseOfs
  if s.tb.st != .slewing ∨ d = 0 then s
  else
    let s1 := stepTime d s
    let p := s.tb.phaseOfs - d
    pbUpd (fun x => { x with scSteps := satAdd 16 x.scSteps 1 })
      (journalDev 3 { s1 with tb := { s1.tb with phaseOfs := p, st := if p = 0 then .locked else .slewing } })

/-- DT72 as staged by TB.SET_EPOCH (R46, R13). -/
def stagedEpoch (s : State) : Int := ((cfgF s .epoch 0 0 35 0 + cfgF s .epoch 0 1 35 0 * 2 ^ 36 : Nat) : Int)

/-- 24 VCO cycles, from the sampling edge of a divider restart to the first tick rising edge (R45). -/
abbrev restartFine : Int := 3 * 8192

/-- The step of a divider restart: its first tick, 3 ns on, is the staged epoch with HUDDLE_EPOCH set; otherwise a whole
tick, after a HOLD realignment and a free number of ticks within half a reference period (R45, R46, R60; log entry 67). -/
def restartStep (s : State) : Int × State :=
  if cfgF s .mode 0 0 2 2 = 1 then (stagedEpoch s - restartFine - s.now, s)
  else
    let (f, s1) := drawFree s
    let n := (fineNs * 500000000 / max 1 (refHz s) - 2048) / 4096
    let hold := if followMode s then 0 else s.tb.phaseOfs
    let align := 2048 - (s.now + hold + restartFine + 2048) % 4096
    (hold + align + ((f % (2 * n + 1) : Nat) - (n : Int)) * 4096, s1)

/-- A synchronising reset of every echo engine (R226). -/
def syncReset (s : State) : State :=
  (List.range 4).foldl (fun a q => engUpd q (fun e => { e with
    resets := e.resets + 1, bgResets := satAdd 16 e.bgResets 1, resetAt := e.resetAt ++ [a.now] }) a)
    (takeResets s)

/-- From its first tick after a restart a chain follower drives its own HUDDLE_OUT 16 ticks later (R279). -/
def huddleRelay (s : State) : State :=
  if isFollower s && cfgF s .team 0 0 61 61 == 0 then
    { s with team := { s.team with huddleAt := some (s.up + (restartFine + 16 * 4096).toNat) } }
  else s

/-- A divider restart by Huddle (R45, R46, R280): the dividers restart, the epoch may load, the free grid restarts at the
first tick after, TEAM_OFS_VALID clears, with it pixels with a window open are TEAM_STALE (R285), CAL.TEAM measures anew (R263), the journal
records it. On a running follower TEAM_OFS_VALID clears here, at the restart, and not when the Huddle came: the spec names
no moment for a Huddle handled under R47 (R280; DESIGN CHOICE, log entry 137). In mirror mode the grid stands and SC_STEPS does not
count: Table 5 of ch. 04 has the restart as a change point of the free-running clock alone (DEDUCED, log entry 104). -/
def huddle (s : State) : State :=
  let (d, s0) := restartStep (markTeamStale (teamAgain s))
  let s1 := syncReset (stepTime d s0)
  let load := if cfgF s0 .mode 0 0 2 2 = 1 then d else 0
  let s2 := { s1 with
    tb := { s1.tb with accOfs := s1.tb.accOfs - load, restart := false, realign := false, stepWait := none
                       phaseOfs := if followMode s1 then s1.tb.phaseOfs else 0 }
    team := { s1.team with ofsValid := false, stepPending := false, staleAt := none } }
  journalDev 3 (huddleRelay (if mirrorMode s2 || !s2.pb.gridOn then s2 else gridRestart (s2.now + restartFine) s2))

/-- The phase steps that wait are taken: a divider restart, a realignment, a follower's captured step (R47). -/
def phaseSteps (s : State) : State :=
  let s1 := if s.tb.restart then huddle s else s
  captureStep (if s1.tb.realign then realignStep s1 else s1)

/-- Phase steps are applied at once: the device is idle and no window of CAL.ZERO is open (R47, R263). -/
def stepsNow (s : State) : Bool := isIdle s && !zeroOpen s

/-- While idle a step is applied at once (R47, R252); a phase step waits for the windows of CAL.ZERO (R263; log entry
83). -/
def idleSteps (s : State) : State :=
  let s1 := if s.cal.loadedAt.isSome then calStep s else s
  if zeroOpen s1 then s1 else phaseSteps s1

/-! ### The halt (R117, R118, R304) -/

/-- The Playbook halts: idle, or fault with its cause, which is then reported (R111); pixels take their halt close; every waiting set takes effect;
receive, window and coincidence changes that waited for a quiet interval apply at once, before them; a pending load is
taken as while idle. -/
def pbHalt (s : State) : State :=
  let f := s.pb.faulting
  let s1 := pbUpd (fun p => { p with
    st := if f = 0 then .idle else .fault, faultCause := if f = 0 then p.faultCause else f, faulting := 0
    starve := 0, walk := .none, stop := none, passed := false, bnds := [] }) s
  let s2 := if f = 0 then s1 else decideCause 12 s.pb.seg f s1
  idleSteps (applyWaiting (fun _ => true) (bndTake (fun _ => true) (haltClose s2)))

/-! ### Lock (R40, R46, R58 to R61) -/

/-- Lock is declared: at the first one device time starts at zero; later PHASE_OFS is measured and RETURN_MODE selects
what follows; a follower realigns whatever it holds (R284), at once while idle (R47). At the first lock the spread
modulation starts a period at DT72 = 0: the spec gives its phase nowhere (DESIGN CHOICE, log entry 105). The edges of
R388 are judged with lock held: its four in a row are counted anew from here. -/
def declareLock (phase : Int) (s : State) : State :=
  let first := !s.tb.epochSet
  let s1 := { s with tb := { s.tb with
    good := 0, judging := false, refBad := false, coast := false, holdAt := none, reacqAt := none, lockAt := some s.up, aonBad := 0
    coastEnd := if s.tb.coast then s.now else s.tb.coastEnd
    freqHold := s.safe.active.testBit 13, st := .locked }
                     team := { s.team with coastEnd := if isMaster s && s.tb.coast then s.now else s.team.coastEnd } }
  let s2 :=
    if first then
      let s' := { s1 with now := 0, tb := { s1.tb with epochSet := true, ssAt := 0, ssTicks := 0, phaseOfs := 0 } }
      let s'' := { s' with tile := s'.tile.map (fun p => (p.1, { p.2 with at_ := 0, rearm := 0, lastEnd := 0 })) }
      let s3 := (List.range 64).foldl (fun a ti => winApply (cfgF a .winTile ti 0 47 47 == 1) ti 0 a) s''
      gridStart 0 (cfgF s .pb 0 2 35 0) (cfgF s .pb 0 1 35 0) s3
    else
      let p := wrapPhase (refHz s) phase
      if p = 0 then { s1 with tb := { s1.tb with phaseOfs := 0 } }
      else if isFollower s then
        markTeamStale { s1 with tb := { s1.tb with phaseOfs := p, realign := true }
                                team := { s1.team with staleAt := some s1.now } }
      else if followMode s then { s1 with tb := { s1.tb with phaseOfs := p, st := .slewing, slewAt := s1.now } }
      else { s1 with tb := { s1.tb with phaseOfs := p } }
  let s3 := causeGone 15 (causeGone 14 s2)
  let s4 := bgDone 1 true stOk ((tbStatus s3).take 1) s3
  if isFollower s4 && s4.tb.realign && stepsNow s4 then realignStep s4 else s4

end Sys2Proof.Machine
end

