-- ==== Sys2Proof/Machine/Operands.lean ====
section
/-! DEFINITION. The operand forms of a command: the header and payload in a mailbox's command slot (R292), the selector
word SEL (R322, R323), and which command the firmware takes next (R294, R318). -/

namespace Sys2Proof.Machine

/-- A command as the firmware reads it from a slot (Table 7 of ch. 11). -/
structure Cmd where
  mbx : Nat := 0
  opcode : Nat := 0
  len : Nat := 0
  tag : Nat := 0
  txn : Nat := 0
  expect : Nat := 0
  /-- Word 1 [31:0], reserved. -/
  rsv : Nat := 0
  payload : List Word := []
deriving DecidableEq, Repr

/-- The command in the slot of a mailbox. -/
def cmdOf (s : State) (m : Nat) : Cmd :=
  let h := slotWord s m 0
  let len := fld h 47 32
  { mbx := m, opcode := fld h 63 48, len := len, tag := fld h 31 16, txn := fld h 15 0
    expect := fld (slotWord s m 1) 63 32, rsv := fld (slotWord s m 1) 31 0
    payload := (List.range (min 30 (len / 8))).map (fun i => slotWord s m (2 + i)) }

/-- Payload word n: SEL is word 0, W1 word 1. -/
def Cmd.w (c : Cmd) (n : Nat) : Word := c.payload.getD n 0

/-- CLEAR, OPT, LAST and FIRST of SEL (Table 1 of ch. 12). -/
def Cmd.clear (c : Cmd) : Bool := fld (c.w 0) 63 63 == 1
def Cmd.opt (c : Cmd) : Nat := fld (c.w 0) 62 59
def Cmd.last (c : Cmd) : Nat := fld (c.w 0) 39 20
def Cmd.first (c : Cmd) : Nat := fld (c.w 0) 19 0

/-- The command as the journal and the staging keep it. -/
def Cmd.toRec (c : Cmd) (seq : Nat) : CmdRec :=
  { opcode := c.opcode, mbx := c.mbx, tag := c.tag, txn := c.txn, seq := seq, payload := c.payload }

/-! ### Opcodes (ch. 12) -/

/-- The opcodes of actions and status commands. -/
def actionOps : List Nat :=
  [0x0040, 0x0041, 0x0042, 0x0043, 0x0060, 0x0061, 0x0140, 0x0141, 0x0142, 0x0143, 0x0160, 0x0240, 0x0260,
   0x0340, 0x0341, 0x0342, 0x0343, 0x0344, 0x0345, 0x0360, 0x0460, 0x0540, 0x0541, 0x0542, 0x0543, 0x0560,
   0x0660, 0x0740, 0x0741, 0x0760, 0x0840, 0x0841, 0x0842, 0x0843, 0x0844, 0x0860, 0x0861, 0x0862, 0x0940,
   0x0960, 0x0A40, 0x0A60, 0x0B40, 0x0B41, 0x0B42, 0x0B60, 0x0C40, 0x0C41, 0x0C42, 0x0C43, 0x0C60, 0x0D40,
   0x0D41, 0x0D42, 0x0D60]

/-- An opcode is defined: a configuration command, its readback, an action or a status command (R324). -/
def knownOp (op : Nat) : Bool :=
  allKinds.any (fun k => kindOp k == op || kindOp k + 0x80 == op) || actionOps.contains op

/-- Actions that change nothing: reads, which are not journaled (R312). -/
def readOps : List Nat := [0x0042, 0x0043, 0x0C43]

/-- A command writes configuration or state (R312, R318; log entry 13). -/
def writesState (c : Cmd) : Bool :=
  let low := c.opcode % 256
  (decide (1 ≤ low) && decide (low < 0x40)) || (decide (0x40 ≤ low) && decide (low < 0x60) && !readOps.contains c.opcode)
    || (decide (0x60 ≤ low) && decide (low < 0x80) && c.clear)

/-! ### The command taken next -/

/-- More than 3,072 entries await mirroring: commands that write stay posted (R318). -/
def heldBack (s : State) (m : Nat) : Bool :=
  decide (3072 < unmirrored s) && knownOp (cmdOf s m).opcode && writesState (cmdOf s m)

/-- The first of mailboxes that wait: SPI before the others, within one interface in doorbell order (R294). Among
mailboxes rung before MBX_READY the order is that of the doorbells (the text under Table 9 of ch. 11), so a first SPI
mailbox rung then passes none before it, and no later SPI mailbox passes it. -/
def firstMbx (early free : List Nat) : Option Nat :=
  match free.find? (fun m => mbxIface m == 1) with
  | some m => if early.contains m then free.head? else some m
  | none => free.head?

/-- The mailbox whose command is taken next. The firmware passes over those held back (R318; log entry 14). While
FW_FAULT is set no mailbox is served, but the hardware answers SAFE.GET_STATUS (R386, R402; log entry 145). -/
def nextMbx (s : State) : Option Nat :=
  if s.pwr.inReset || s.pwr.shut then none
  else if s.ctl.fwFault then firstMbx s.ctl.early (s.ctl.queue.filter (fun m => (cmdOf s m).opcode == 0x0B60))
  else if s.ctl.mbxReady then firstMbx s.ctl.early (s.ctl.queue.filter (fun m => !heldBack s m))
  else none

/-- A command is taken: it leaves the queue and takes the next SEQ (R296). -/
def takeSeq (m : Nat) (s : State) : Nat × State :=
  (s.ctl.seq, { s with ctl := { s.ctl with
    queue := s.ctl.queue.filter (fun x => x != m), early := s.ctl.early.filter (fun x => x != m)
    seq := (s.ctl.seq + 1) % 2 ^ 32 } })

/-- A refused command: its response, and nothing else (R294). -/
def refuse (m status : Nat) (s : State) : State :=
  let (n, s1) := takeSeq m s
  respond m status false false n [] s1

/-- Commands with an undefined opcode at the front are answered BAD_OPCODE (R295). -/
def answerUnknown : Nat → State → State
  | 0, s => s
  | n + 1, s =>
    match nextMbx s with
    | some m => if knownOp (cmdOf s m).opcode then s else answerUnknown n (refuse m stBadOpcode s)
    | none => s

end Sys2Proof.Machine
end

