-- ==== Sys2Proof/Machine/Umpire.lean ====
section
/-! DEFINITION. The Umpire (ch. 14): reactions to the causes decided in a step, entry to the safe state, CLEAR_READY,
status. -/

namespace Sys2Proof.Machine

/-- Change the Umpire. -/
def safeUpd (f : Safe → Safe) (s : State) : State := { s with safe := f s.safe }

/-! ### Reactions (Table 1 of ch. 14) -/

/-- Causes whose reaction is Safe and fixed. -/
def fixedSafe : List Nat := [0, 1, 2, 5, 6, 7, 8, 10, 11, 13, 15, 21, 22, 23, 24]

/-- The REACT_SAFE bit of a cause, where it has one. -/
def reactBit : Nat → Option Nat
  | 4 => some 9 | 9 => some 8 | 16 => some 0 | 17 => some 1 | 19 => some 2 | 20 => some 6 | 25 => some 7
  | 27 => some 3 | 28 => some 4 | 29 => some 5
  | _ => none

/-- Causes that are gone at once. -/
def goneAtOnce : List Nat := [1, 4, 5, 9, 10, 12, 18, 30]

/-- A decision enters the safe state (R377). -/
def isSafeCause (s : State) (d : Decision) : Bool :=
  fixedSafe.contains d.bit || d.force || (match reactBit d.bit with
    | some b => (cfgF s .safe 0 0 57 48).testBit b
    | none => false)

/-- Whether a decision stays active (R377): EM_TRIP while a source in TRIP_SAFE_MAP is asserted; TEAM_LINK while the team
is not formed or a hop is down; TEAM_SKEW while WATCH_ALARM is set; DEAD_CHANNEL while a channel is dead; ECC_UNCORR
only in controller memory, since any other granule is rewritten within the step (R389; log entry 53). -/
def staysActive (s : State) (d : Decision) : Bool :=
  if d.bit = 3 then decide (tripAsserted s &&& cfgF s .safe 0 1 63 28 ≠ 0)
  else if d.bit = 26 then !(s.team.formed && hopsUp s)
  else if d.bit = 27 then s.team.watchAlarm
  else if d.bit = 19 then !s.safe.deadOn.isEmpty
  else if d.bit = 8 then decide (d.obj = 0x420)
  else !goneAtOnce.contains d.bit

/-- The tile that a safety event names (R183). -/
def namedTile (d : Decision) : Option Nat :=
  if d.bit = 3 ∨ d.bit = 4 ∨ d.bit = 5 then some d.obj
  else if d.bit = 19 then some (d.obj / 16)
  else if (d.bit = 8 ∨ d.bit = 9) ∧ d.obj < 1024 then some (d.obj / 16) else none

/-- The SAFETY trigger of a tile at a decision, where it is enabled (R183). -/
def safetyTrig (at_ : Int) (ti : Nat) (s : State) : State :=
  if (cfgF s .rcd ti 0 36 32).testBit 2 then recTrigger ti 3 0 at_ s else s

/-- SUPPRESSED of a code: taken by the alert that leaves; only an alert of ALERT_KIND 0 holds later ones back (R378). -/
def takeSupp (kind code up : Nat) (s : State) : Nat × State :=
  let x := tabGet {} s.safe.supp code
  let last := if kind = 0 then some up else x.lastAt
  (x.count, safeUpd (fun u => { u with supp := tabSet {} u.supp code { lastAt := last, count := 0 } }) s)

/-- An alert of a code, with SUPPRESSED in DETAIL [63:48]. -/
def sendCode (kind code obj detail : Nat) (at_ : Int) (up : Nat) (s : State) : State :=
  let r := takeSupp kind code up s
  sendAlert kind code obj (min r.1 65535 * 2 ^ 48 + detail % 2 ^ 48) at_ r.2

/-- An alert of a decision. -/
def sendDecision (kind : Nat) (d : Decision) (s : State) : State :=
  sendCode kind (causeCode d.bit) d.obj d.detail d.at_ d.up s

/-- An ALERT_KIND 0 alert, at most one of a code in any millisecond (R378). -/
def safetyAlert (d : Decision) (s : State) : State :=
  let code := causeCode d.bit
  let x := tabGet {} s.safe.supp code
  let early := match x.lastAt with
    | some t => decide (d.up < t + fineMs)
    | none => false
  if early then
    safeUpd (fun u => { u with supp := tabUpd {} u.supp code (fun y => { y with count := y.count + 1 })
                               alertsSuppressed := satAdd 16 u.alertsSuppressed 1 }) s
  else sendDecision 0 d s

/-- The controller stops (R386, R387): FW_FAULT and IRQ bit 7. -/
def stopController (s : State) : State :=
  if s.ctl.fwFault then s else irqBoth 7 { s with ctl := { s.ctl with fwFault := true, mbxReady := false } }

/-- Every emitter channel that is not at its reset value. -/
def emChannels (s : State) : List Nat := s.em.map (fun p => p.1)

/-- Words still queued on the links are dropped: the last steering word is held (Table 8 of ch. 02). -/
def dropWords (s : State) : State :=
  pbUpd (fun p => { p with links := p.links.map (fun l => (l.1, { l.2 with words := [] })) }) s

/-- Volleys of expanded shots that no channel has taken yet are refused whole, as they would be at their offer: none whose
expansion preceded the entry is ever emitted (R76, R77, R383). -/
def dropOffers (s : State) : State :=
  s.pb.offers.foldl (fun a (o : Offer) => markRefused o.seq (emUpd o.ch (fun e => { e with outOff := satAdd 32 e.outOff 1 }) a))
    (pbUpd (fun p => { p with offers := [] }) s)

/-- Entry to the safe state (R380) at a decision: gates low, volleys discarded, the SAFETY trigger on every tile (that of a tile
which the event names counts beside the one it has had, R183: the spec does not say whether they are two; DESIGN CHOICE, log
entry 175), the Playbook halted with its waiting sets applied, IRQ bit 1, the alert, the self-test, the calibration aborted, journal and
log. -/
def enterSafe (d : Decision) (s : State) : State :=
  let s1 := safeUpd (fun u => { u with
    safe := true, safeNLow := true, firstCause := causeCode d.bit, entries := satAdd 8 u.entries 1, entryDt := d.at_, entryUp := d.up
    selftest := true }) s
  let s2 := dropOffers ((emChannels s1).foldl (fun a ch => forceLow ch a) s1)
  let s3 := (List.range 64).foldl (fun a ti => safetyTrig d.at_ ti a) s2
  let s4 := dropWords (if isIdle s3 then s3 else pbHalt s3)
  let s5 := sendDecision 1 d (irqBoth 1 s4)
  let s6 := calAbort 6 s5
  let s7 := if s6.ctl.fwFault then s6 else journalDev 4 s6
  logEvent 6 (causeCode d.bit) s7

/-- The 1 ns cycle of device time, as it counts now, that a running time lies in (R379). -/
def cycleAt (s : State) (up : Nat) : Nat := ((s.now - (s.up : Int)) % (fineNs : Int) + up).toNat / fineNs

/-- One decision is dealt with: the tile that it names is triggered, and every tile where it enters the safe state (log entry
175). -/
def react (d : Decision) (s : State) : State :=
  let s0 := safeUpd (fun u => { u with
      lastCode := causeCode d.bit, decUp := some d.up, seen := u.seen ||| 2 ^ d.bit
      active := if staysActive s d then u.active ||| 2 ^ d.bit else u.active }) s
  let s1 := if d.bit = 6 ∨ d.bit = 7 ∨ (d.bit = 8 ∧ d.obj = 0x420) then stopController s0 else s0
  let s2 := match namedTile d with
    | some ti => safetyTrig d.at_ ti s1
    | none => s1
  if d.bit = 18 then sendDecision 4 d s2
  else if d.bit = 30 then sendDecision 3 d s2
  else if isSafeCause s2 d && !s2.safe.safe then enterSafe d s2
  else safetyAlert d s2

/-- The order of decisions: the earliest first, within one 1 ns cycle the lowest code (R379). -/
def decOrder (s : State) (d : Decision) : Nat := 32 * cycleAt s d.up + d.bit

/-- The decisions that wait are dealt with in their order. Dealing with one may bring further ones. -/
def reactAll : Nat → State → State
  | 0, s => s
  | n + 1, s =>
    match sortBy (decOrder s) s.safe.todo with
    | [] => s
    | d :: _ => reactAll n (react d (safeUpd (fun u => { u with todo := u.todo.erase d }) s))

/-- FIRST_CAUSE after a decision, in the safe state already: a Safe cause of a lower code in the 1 ns cycle of the entry
takes its place (R379; log entry 155). -/
def firstLower (s : State) (first : Nat) (d : Decision) : Nat :=
  if isSafeCause s d && decide (cycleAt s d.up = cycleAt s s.safe.entryUp) && decide (causeCode d.bit < first) then causeCode d.bit
  else first

/-- The decisions that wait are put beside the entry to the safe state that came before them in the same cycle. -/
def lowerFirst (s : State) : State :=
  if s.safe.safe then safeUpd (fun u => { u with firstCause := u.todo.foldl (firstLower s) u.firstCause }) s else s

/-- Every decision that waits is dealt with: dealing with one brings a few others at most. -/
def reactDue (s : State) : State := reactAll (65536 + s.safe.todo.length) (lowerFirst s)

/-! ### Causes that go by themselves -/

/-- BOOT is gone once MBX_READY, FACTORY_OK and TPLL lock hold and the self-test has passed (Table 1 of ch. 14). -/
def bootGone (s : State) : State :=
  if s.ctl.mbxReady && s.cal.factoryOk && tpllLocked s && !s.safe.selftest && !s.safe.active.testBit 2 then causeGone 0 s
  else s

/-- C0_MERGE is gone once fewer than 128 alerts are held for each destination that it was decided for. -/
def mergeGone (s : State) : State :=
  if s.outq.merged = 0 then causeGone 29 s
  else
  let m := ([0, 1, 2].filter (fun d => s.outq.merged.testBit d && decide (128 ≤ (c0Get s d).length))).foldl
    (fun a d => a + 2 ^ d) 0
  let s1 := { s with outq := { s.outq with merged := m } }
  if m = 0 then causeGone 29 s1 else s1

/-- TPLL_FREQ, REF_LOSS … go with their own events; these two go whenever their condition comes to hold. -/
def causesGone (s : State) : State := mergeGone (bootGone s)

/-- CLEAR_READY (R382). -/
def clearReady (s : State) : Bool := decide (s.safe.active = 0) && !s.safe.selftest

/-- A cause has been decided in the 1 ns cycle that ends now; it wins over a clear (R382). -/
def decidedNow (s : State) : Bool :=
  !s.safe.todo.isEmpty || (match s.safe.decUp with
    | some t => decide (s.up ≤ t + fineNs)
    | none => false)

/-! ### Status -/

/-- SAFE_STATUS (Table 4 of ch. 11). -/
def safeStatus32 (s : State) : Nat :=
  b2n s.safe.safe * 2 ^ 31 + b2n s.safe.safeNLow * 2 ^ 30 + b2n (clearReady s) * 2 ^ 29 + s.safe.entries % 256 * 2 ^ 16
    + s.safe.firstCause % 65536

/-- Milliseconds since the last accepted confirmation, saturating (Table 6 of ch. 14); since reset release before the first (log entry 86). -/
def msSinceConfirm (s : State) : Nat := min (2 ^ 32 - 1) (wholeMs (s.up - s.safe.confirmAt.getD s.safe.since))

/-- SAFE_STATUS_EXT (Table 6 of ch. 14). -/
def safeStatus (s : State) : List Word :=
  let u := s.safe
  let dead := deadChannels s
  [pack [(1, b2n u.safe), (1, b2n (clearReady s)), (1, b2n u.selftest), (1, b2n u.confirmPending), (1, b2n s.ctl.fwFault),
     (11, 0), (16, u.firstCause), (16, u.lastCode), (8, 0), (8, u.entries)]] ++ dtWords u.entryDt ++
  [pack [(32, u.seen), (32, u.active)], pack [(32, u.confirmedEpoch), (32, min (2 ^ 32 - 1) u.ceTotal)],
   pack [(16, u.alertsSuppressed), (16, dead.length), (16, twos 16 u.tempInferred), (16, twos 16 u.tempSensor)],
   pack [(10, dead.headD 0), (22, 0), (32, msSinceConfirm s)]]

end Sys2Proof.Machine
end

