-- ==== Sys2Proof/Machine/Flags.lean ====
section
/-! DEFINITION. The status words that the blocks report: flags, counters and positions, in the layouts of the status
tables, and what CLEAR clears; telemetry; and the frame of every meaning: `begin_` at its start, `settle` at its end. (Status of the emitters, comparators, windows, histograms, calibration, timebase, power
and the Umpire stands with their operations.) -/

namespace Sys2Proof.Machine

/-! ### Hardware registers (ch. 11) -/

/-- HOST_STATUS (Table 2 of ch. 11). -/
def hostStatus32 (s : State) : Nat :=
  b2n s.ctl.mbxReady * 2 ^ 31 + b2n s.ctl.fwFault * 2 ^ 30 + b2n s.safe.safe * 2 ^ 29 + b2n s.ctl.lpFitted * 2 ^ 28
    + s.ctl.bootStage % 256 * 2 ^ 16

/-- HOST_ERRORS (Table 5 of ch. 11). -/
def hostErrors32 (s : State) : Nat :=
  s.ctl.busyCount % 65536 * 2 ^ 16 + s.ctl.dbIgnored % 256 * 2 ^ 8 + s.ctl.spiCrcErrors % 256

/-- MBX_POSTED and MBX_DONE (Table 1 of ch. 11): the mailboxes in a state, as a mask. -/
def mbxMask (st : MbxSt) (s : State) : Nat :=
  s.ctl.mbx.foldl (fun a p => if p.2.st = st then a ||| 2 ^ p.1 else a) 0

/-! ### SYS (Table 17 of ch. 12) -/

/-- SYS.GET_INFO. -/
def sysInfo (s : State) : List Word :=
  [pack [(16, s.fact.fwMajor), (16, s.fact.fwMinor), (32, s.fact.fwBuild)],
   pack [(32, s.fact.calId), (32, s.fact.date)], BitVec.ofNat 64 s.fact.deviceId,
   pack [(16, s.ctl.lpMib), (1, s.pwr.slot), (47, 0)]]

/-- Open transactions. -/
def openTxns (s : State) : Nat := (s.ctl.txns.filter (fun p => p.2.st == .open)).length

/-- SYS.GET_STATUS. -/
def sysStatus (s : State) : List Word :=
  [pack [(32, s.ctl.jlost), (16, cfgF s .ctrlPort 0 0 15 0), (8, s.ctl.queue.length + 1), (3, openTxns s),
     (5, s.ctl.waiting.length)],
   pack [(32, s.ctl.epoch), (32, s.ctl.jmirr)]]

/-! ### Playbook (Table 11 of ch. 04) -/

/-- PB_STATE as a number. -/
def pbNum : PbSt → Nat
  | .idle => 0 | .running => 1 | .starved => 2 | .skipping => 3 | .stopping => 4 | .fault => 5

/-- Entries in the refill ring (R128). -/
def ringFill (s : State) : Nat :=
  let n := 2 ^ cfgF s .stream 0 0 31 28
  (s.pb.wr + n - s.pb.rd % n) % n

/-- PB_STATUS. -/
def pbStatus (s : State) : List Word :=
  let p := s.pb
  [pack [(4, pbNum p.st), (3, p.starve), (3, p.faultCause), (1, b2n p.underrun), (1, b2n p.mirrorLocked),
     (1, b2n p.latch.isSome), (3, p.stack.length), (8, p.latch.getD 0), (12, p.seg), (11, 0), (17, p.curIdx)],
   pack [(32, p.frame), (32, p.scEvent)], pack [(32, p.shots), (32, p.skipped)],
   pack [(16, p.underruns), (16, p.lateSkip), (16, p.steerLate), (16, p.jumpReplaced)],
   pack [(16, p.discard), (16, p.gaps), (16, p.forced), (16, p.mirrorLosses)],
   pack [(16, ringFill s), (16, p.rd), (16, p.wr), (16, p.jumpsTaken)],
   pack [(16, p.scSteps), (16, p.overflow), (12, p.bad), (20, p.hostCons)]]

/-- CLEAR of PB.GET_STATUS: the counters (R136 and the sentence after it). -/
def pbClear (s : State) : State :=
  pbUpd (fun p => { p with skipped := 0, underruns := 0, lateSkip := 0, steerLate := 0, jumpReplaced := 0, discard := 0,
                           gaps := 0, forced := 0, mirrorLosses := 0, jumpsTaken := 0, scSteps := 0, overflow := 0
                           bad := 0 }) s

/-! ### Echo (Tables 9 and 10 of ch. 08) -/

/-- ECHO_Q_STATUS. -/
def echoQStatus (s : State) (q : Nat) : List Word :=
  let e := engGet s q
  [pack [(32, e.pixelsDone), (16, e.closed.length), (1, b2n e.run), (1, b2n e.queued.isSome), (1, e.bank),
     (1, (e.queued.getD (0, 0)).1), (12, 0)],
   pack [(16, if e.run then e.pos else 0), (16, if e.run then e.m else 0), (16, (e.queued.getD (0, 0)).2), (16, e.replaced)],
   pack [(32, e.peaksDropped), (16, e.negDrops), (16, e.bgResets)]]

/-- CLEAR of the quadrant counters. -/
def echoQClear (q : Nat) (s : State) : State :=
  engUpd q (fun e => { e with pixelsDone := 0, replaced := 0, peaksDropped := 0, negDrops := 0, bgResets := 0 }) s

/-- ECHO_CH_STATUS. A density of one event per tick per shot or more shows as 2³² − 1 (DESIGN CHOICE, log entry 147). -/
def echoChStatus (s : State) (ch : Nat) : List Word :=
  let t := tabGet {} s.track ch
  [pack [(32, min (2 ^ 32 - 1) t.rho), (32, min (2 ^ 32 - 1) t.frozen)],
   pack [(56, 0), (4, t.initLeft), (3, 0), (1, b2n t.valid)]]

/-! ### Team (Table 6 of ch. 10) -/

/-- The mean of the last skew-watch estimates minus the mean that is its reference (R278), as a fraction of fine units: the
watch keeps twice the estimates. Before a CAL.TEAM step has set a reference it is the plain mean, and without an estimate 0:
the spec gives WATCH_DEV no value there (R286; DESIGN CHOICE, log entry 176). -/
def watchDiff (s : State) : Int × Nat :=
  let w := s.team.watch
  let r := s.team.watchRef
  if w.isEmpty then (0, 1)
  else (w.foldl (· + ·) 0 * (max 1 r.length : Nat) - r.foldl (· + ·) 0 * (w.length : Nat), 2 * w.length * max 1 r.length)

/-- WATCH_DEV: to the nearest fine unit (R455). -/
def watchDev (s : State) : Int := rndDiv (watchDiff s).1 (watchDiff s).2

/-- The deviation is more than WATCH_LIMIT_PS (R278). -/
def watchFar (s : State) : Bool :=
  decide (cfgF s .team 0 0 47 40 * 4096 * (watchDiff s).2 < (watchDiff s).1.natAbs * 500)

/-- TEAM_STATUS. -/
def teamStatus (s : State) : List Word :=
  let t := s.team
  [pack [(1, b2n t.formed), (1, b2n t.ofsValid), (1, b2n (t.stepPending || t.stepDelta.isSome)), (1, b2n t.uplink),
     (1, b2n t.downlink), (1, b2n t.watchAlarm), (10, 0), (16, t.peerSafe), (16, t.peerCoast), (16, t.hopUp)],
   pack [(16, t.skewCount), (16, t.linkDrops), (16, t.huddleRunning), (16, t.unannounced)],
   pack [(24, twos 24 t.hopOfs), (24, twos 24 (watchDev s)), (16, 0)]]

/-- CLEAR of TEAM.GET_STATUS. -/
def teamClear (s : State) : State :=
  { s with team := { s.team with skewCount := 0, linkDrops := 0, huddleRunning := 0, unannounced := 0 } }

/-! ### Output (Table 12 of ch. 13) -/

/-- Queue status. -/
def outQStatus (s : State) (q : Nat) : List Word :=
  let r := qRun s q
  [pack [(32, r.prod), (32, r.cons)], pack [(32, r.rseq), (32, r.drops)]]

/-- Port status; P2 reports LINK_UP and ADMIT_DROPS. -/
def outPortStatus (s : State) (p : Nat) : List Word :=
  let x := portGet s p
  if p = 2 then [pack [(1, 1), (31, 0), (32, x.admitDrops)], 0, 0, 0]
  else
    [pack [(1, b2n x.link), (1, b2n x.asCapable), (1, b2n x.preempt), (29, 0), (32, x.admitDrops)],
     BitVec.ofNat 64 x.tx, pack [(32, x.qciDrops), (32, x.cbDiscards)], BitVec.ofNat 64 (twos 64 x.gptpOfs)]

/-- Class status, C0 to C3. -/
def outClsStatus (s : State) : List Word :=
  (List.range 4).flatMap (fun c =>
    let x := tabGet {} s.outq.cls c
    [BitVec.ofNat 64 x.records,
     pack [(32, x.dropsAdmit), (16, x.dropsRing), (16, if c = 3 then s.outq.telemSkipped else 0)]])

/-- CLEAR of the counters of a port, a queue, the classes. -/
def outPortClear (p : Nat) (s : State) : State :=
  portUpd p (fun x => { x with admitDrops := 0, tx := 0, qciDrops := 0, cbDiscards := 0 }) s
def outQClear (q : Nat) (s : State) : State := qUpd q (fun r => { r with drops := 0 }) s
def outClsClear (s : State) : State := { s with outq := { s.outq with cls := [], telemSkipped := 0 } }

/-! ### Transactions (Table 17 of ch. 12) -/

/-- TXN_STATE. -/
def txnNum : TxnSt → Nat
  | .open => 1 | .committed => 2 | .aborted => 3 | .timedOut => 4 | .refused => 5

/-- Shadow bytes of a transaction: each staged command with its header (log entry 45). -/
def shadowBytes (t : Txn) : Nat := t.staged.foldl (fun a m => a + 16 + 8 * m.cmd.payload.length) 0

/-- TXN.GET_STATUS of an ID. -/
def txnStatus (s : State) (id : Nat) : List Word :=
  match s.ctl.txns.find? (fun p => p.1 == id) with
  | none => [0, 0]
  | some (_, t) =>
    let left := if t.st = .open then wholeMs (t.lastAt + t.timeoutMs * fineMs - s.up) else 0
    [pack [(3, txnNum t.st), (4, t.iface), (9, 0), (16, t.staged.length), (32, shadowBytes t)], pack [(32, 0), (32, left)]]

/-- CLEAR of SAFE.GET_STATUS, PWR.GET_STATUS, CAL.GET_STATUS and SYS.GET_STATUS. -/
def safeClearCnt (s : State) : State := safeUpd (fun u => { u with seen := 0, ceTotal := 0, alertsSuppressed := 0 }) s
def pwrClear (s : State) : State :=
  { s with pwr := { s.pwr with tempMax := -32768, tempMin := 32767, bandChanges := 0, droopEvents := 0
                               throttleFine := 0, nvmFails := 0, pagesWritten := 0 } }
def calClear (s : State) : State := calUpd (fun c => { c with deferred := 0, skipTotal := 0 }) s
def sysClear (s : State) : State := { s with ctl := { s.ctl with jlost := 0 } }

/-! ### Telemetry (R371) -/

/-- A TELEMETRY record of a kind enters a queue (R371; log entry 48). -/
def telemRecord (q tkind mask : Nat) (ws : List Word) (s : State) : State :=
  let s1 := emitRecord q 6 1 (pack [(4, tkind), (28, s.outq.telemSeq), (32, mask)] :: dtWords s.now ++ ws) s
  { s1 with outq := { s1.outq with telemSeq := (s1.outq.telemSeq + 1) % 2 ^ 28 } }

/-- The group words of a periodic record, in ascending bit order. -/
def telemWords (s : State) (groups : Nat) : List Word :=
  (maskBits 8 groups).flatMap (fun b => match b with
    | 0 => tbStatus s
    | 1 => pbStatus s
    | 2 => [cmpStatus s]
    | 3 => calStatus s
    | 4 => teamStatus s
    | 5 => outClsStatus s
    | 6 => safeStatus s
    | _ => pwrStatus s)

/-- The telemetry queue: the enabled queue of SRC_KIND 4 (R352). -/
def telemQueue (s : State) : Option Nat :=
  (s.cfg.find? (fun e => kindIx .queue == e.1 / 2 ^ 20 && fld (e.2.getD 0 0) 63 63 == 1 && fld (e.2.getD 0 0) 58 56 == 4)).map
    (fun e => e.1 % 2 ^ 20)

/-- A telemetry record that is due is assembled once the firmware's command queue is empty. -/
def telemetry (s : State) : State :=
  if s.outq.telemDue && s.ctl.queue.isEmpty && s.ctl.mbxReady && !s.ctl.fwFault then
    let s1 := { s with outq := { s.outq with telemDue := false } }
    match telemQueue s with
    | some q => let g := cfgF s .port 2 2 63 56; telemRecord q 0 g (telemWords s g) s1
    | none => s1
  else s

/-! ### The frame of a meaning -/

/-- The safety events decided at one time cross to the controller in a FIFO of 64; the oldest unsent one is held, and every
further one counts in the overflow counter of crossing 5, whose rise is cause XING_OVERFLOW (R28). An event stands for
its code: further decisions of that code only count in SUPPRESSED, so the counter stays at zero (R378; log entry 101). -/
def xing5 (s : State) : State :=
  let n65 := ((s.safe.todo.map (fun (d : Decision) => d.bit)).eraseDups).length - 65
  if n65 = 0 then s
  else
    let n := satAdd 32 s.safe.xing5 n65
    decideCause 10 5 n (safeUpd (fun u => { u with xing5 := n }) s)

/-- Time passes since the command before, and what left the block then is gone. -/
def elapse (dt : Nat) (s : State) : State := passTime dt { s with outq := { s.outq with outs := [] } }

/-- What has fallen due by now: boundaries of frames are passed, the monitors' filters have taken their samples, origins of
FRAME shots have become resets of the engines, events whose qualification is due are decided, local triggers of team tiles
whose cycle is over leave, and shots that a tile did not acquire pass. -/
def dueNow (s : State) : State := passAll (recSends false (decideAll false (takeResets (monAdvance (passBoundaries s)))))

/-- The block at the moment a command acts: time has passed, what has fallen due has happened, and the causes decided by
it have been dealt with (R377, R380). In reset and in shutdown, whose clocks and comparators are off, nothing falls due
(R408, R419). -/
def begin_ (dt : Nat) (s : State) : State :=
  let x := elapse dt s
  if x.pwr.inReset || x.pwr.shut then x else reactDue (xing5 (dueNow x))

/-- The STATE message on a change of lock, coast, idle or safe state, and of a calibration that runs (R284; log entry
110). -/
def teamState (s0 s : State) : State :=
  let v := fun (x : State) => (tpllLocked x, x.tb.coast, isIdle x, x.safe.safe, calRunning x)
  if teamEn s && v s0 != v s then
    out (.nolgil 6 [devNum s, b2n (tpllLocked s), b2n s.tb.coast, b2n (isIdle s), b2n s.safe.safe, b2n (calRunning s),
      s.safe.firstCause]) s
  else s

/-- Coast that begins ends a calibration (R263). -/
def coastEnds (s0 s : State) : State := if !s0.tb.coast && s.tb.coast then calAbort 5 s else s

/-- Before decisions are dealt with the monitors of a block that runs are brought up to the end of the command, with the blank
windows that stood until then: the reactions may cut volleys, and with them windows (R146, R150). -/
def monCatch (s : State) : State := if s.safe.todo.isEmpty || s.pwr.inReset || s.pwr.shut then s else monAdvance s

/-- The end of a meaning: decisions, causes that go, the team's STATE message, a mirror write that waits, commands with
an undefined opcode, telemetry. -/
def settle (s0 s : State) : State :=
  telemetry (answerUnknown 32 (mirrorGo (teamState s0 (causesGone (reactDue (xing5 (coastEnds s0 (monCatch s))))))))

/-- A meaning from what its command does. -/
def done (dt : Nat) (f : State → State) (s : State) : Host.Outcome State Fault Refusal :=
  .next (settle s (f (begin_ dt s)))

/-- A meaning of a command that acts only while the block is powered and out of reset and shutdown (R408, R419). -/
def doneOn (dt : Nat) (f : State → State) (s : State) : Host.Outcome State Fault Refusal :=
  done dt (fun x => if x.pwr.inReset || x.pwr.shut then x else f x) s

end Sys2Proof.Machine
end

