-- ==== Sys2Proof/Machine/Taking.lean ====
section
/-! DEFINITION. Taking a command (R294 to R296): the checks in their order, staging (R307), single sets (R303), commits
(R309 to R311), readbacks (R324), actions and background commands (R298). -/

namespace Sys2Proof.Machine

/-! ### Transactions -/

/-- The transaction of an ID, where it is open for an interface (R306). -/
def txnFind (s : State) (id iface : Nat) : Option Txn :=
  match s.ctl.txns.find? (fun p => p.1 == id) with
  | some (_, t) => if t.st = .open ∧ t.iface = iface then some t else none
  | none => none

/-- Replace a transaction. -/
def txnPut (id : Nat) (t : Txn) (s : State) : State := { s with ctl := { s.ctl with txns := tabPut s.ctl.txns id t } }

/-- A transaction that receives a command starts its timeout anew (R308). -/
def txnTouch (id iface : Nat) (s : State) : State :=
  match txnFind s id iface with
  | some t => txnPut id { t with lastAt := s.up } s
  | none => s

/-- A transaction closes: its staged commands are discarded (R308, R309). -/
def txnClose (id : Nat) (st : TxnSt) (t : Txn) (s : State) : State := txnPut id { t with st := st, staged := [] } s

/-! ### The checks of R295 -/

/-- What a command's row says of its header and words. -/
structure Row where
  /-- LENGTH is the one that the row requires for the selection (R322). -/
  len : Bool := true
  /-- Every word is in range (check 3; R323). -/
  range : Bool := true
  /-- The command can be staged (R307). -/
  stage : Bool := false
  /-- A command of the TXN group (R348). -/
  txn : Bool := false
  /-- A TXN command names an open transaction of its interface. -/
  named : Bool := true
deriving DecidableEq, Repr

/-- LENGTH is a multiple of 8, at most 240, with SEL (R295, R322). -/
def lenForm (c : Cmd) : Bool := decide (8 ≤ c.len) && decide (c.len ≤ 240) && decide (c.len % 8 = 0)

/-- LENGTH is that of n payload words. -/
def lenIs (c : Cmd) (n : Nat) : Bool := decide (c.len = 8 * n)

/-- Checks 1 to 4: the status of the first that fails. -/
def headStatus (s : State) (c : Cmd) (r : Row) : Nat :=
  if !lenForm c || !r.len then stBadLength
  else if r.txn && c.txn != 0 then stNotStage
  else if (c.txn != 0 && (txnFind s c.txn (mbxIface c.mbx)).isNone) || !r.named then stNoTxn
  else if c.txn != 0 && !r.stage then stNotStage
  else if !r.range || c.rsv != 0 then stRange
  else if c.txn == 0 && c.expect != 0 && c.expect != s.ctl.epoch then stEpoch
  else stOk

/-- SEL's reserved bits are clear, CLEAR is clear unless the row has it, OPT is as given (R323). -/
def selPlain (c : Cmd) (clear : Bool) (opts : List Nat) : Bool :=
  fld (c.w 0) 58 40 == 0 && (clear || !c.clear) && opts.contains c.opt

/-- SEL names no object. -/
def selNone (c : Cmd) : Bool := c.first == 0 && c.last == 0

/-- SEL names one object of n. -/
def selOne (c : Cmd) (n : Nat) : Bool := c.first == c.last && decide (c.first < n)

/-- SEL names a range of objects of n, at most so many. -/
def selRange (c : Cmd) (n most : Nat) : Bool :=
  decide (c.first ≤ c.last) && decide (c.last < n) && decide (c.last - c.first < most)

/-- Objects of a range. -/
def selCount (c : Cmd) : Nat := c.last + 1 - c.first

/-- Bits of a word outside a mask are zero. -/
def onlyBits (w : Word) (fs : List (Nat × Nat)) : Bool := w.toNat &&& bitsOf fs == w.toNat

/-! ### Taking -/

/-- The command of a mailbox is taken, if it is the next and has the opcode (R294): f gets it, its SEQ and the state
without it. -/
def take (m op : Nat) (f : Cmd → Nat → State → State) (s : State) : State :=
  if nextMbx s = some m ∧ (cmdOf s m).opcode = op then
    let c := cmdOf s m
    f c (takeSeq m s).1 (txnTouch c.txn (mbxIface m) (takeSeq m s).2)
  else s

/-- A refusal after the command was taken. -/
def deny (c : Cmd) (status n : Nat) (s : State) : State := respond c.mbx status false false n [] s

/-- An action (R303): checks, then its effect with its response words, its journal entry (R312) and the response. -/
def runAct (m op : Nat) (row : State → Cmd → Row) (dev : State → Cmd → Nat) (eff : Cmd → State → List Word × State)
    (s : State) : State :=
  take m op (fun c n s =>
    let h := headStatus s c (row s c)
    if h ≠ stOk then deny c h n s
    else if dev s c ≠ stOk then deny c (dev s c) n s
    else
      let r := eff c s
      let j := if writesState c then journalCmd 0 (if isIdle s then 4 else 0) (c.toRec n) r.2 else r.2
      respond c.mbx stOk false false n r.1 j) s

/-- A background command (R298): it starts, and its response comes when it ends (bgDone). -/
def runBg (m op : Nat) (row : State → Cmd → Row) (dev : State → Cmd → Nat) (start : Cmd → State → State) (s : State) : State :=
  take m op (fun c n s =>
    let h := headStatus s c (row s c)
    if h ≠ stOk then deny c h n s
    else if dev s c ≠ stOk ∧ dev s c ≠ stIncons then deny c (dev s c) n s
    else if bgBusy s (groupOf op) then deny c stNoRes n s
    else if dev s c ≠ stOk then deny c (dev s c) n s
    else start c { s with ctl := { s.ctl with bg := s.ctl.bg ++ [{ group := groupOf op, cmd := c.toRec n }] } }) s

/-! ### The objects of a configuration command -/

/-- The kind that a writer's opcode and OPT name (CAL.SET_USER has three). -/
def writerKind (op opt : Nat) : Option CfgKind :=
  if op = 0x0801 then [CfgKind.calRx, .calEm, .calDev][opt]? else allKinds.find? (fun k => kindOp k == op)

/-- OPT values of a kind's writer. -/
def kindOpts (k : CfgKind) : List Nat := if k = .coef then [0, 1] else if k = .calEm then [1] else if k = .calDev then [2] else [0]

/-- The selection of a writer is valid (R323). -/
def writeSel (k : CfgKind) (c : Cmd) : Bool :=
  match kindForm k with
  | .one => if k = .coef then selOne c 4 else selOne c (kindCount k)
  | .range most => selRange c (kindCount k) most
  | .fill => selRange c (kindCount k) (kindCount k)
  | .mask => selNone c && c.w 1 != 0

/-- LENGTH of a writer (R322); where the selection is no range of the row it cannot be judged (R323; log entry 11). -/
def writeLen (k : CfgKind) (c : Cmd) : Bool :=
  match kindForm k with
  | .one => if k = .gate then decide (40 ≤ c.len) else lenIs c (1 + kindWords k)
  | .range most => decide (c.last < c.first) || decide (most ≤ c.last - c.first) || lenIs c (1 + selCount c * kindWords k)
  | .fill => lenIs c (1 + kindWords k)
  | .mask => lenIs c (2 + kindWords k)

/-- Index of the object that SEL's FIRST names; a coefficient bank is in OPT. -/
def oneIndex (k : CfgKind) (c : Cmd) : Nat := if k = .coef then 4 * c.opt + c.first else c.first

/-- The objects that a writer writes, with their words. -/
def writeObjs (k : CfgKind) (c : Cmd) : List (Nat × Obj) :=
  match kindForm k with
  | .one => [(oneIndex k c, c.payload.drop 1)]
  | .range _ => (upTo c.first c.last).map (fun i => (i, (c.payload.drop (1 + (i - c.first) * kindWords k)).take (kindWords k)))
  | .fill => (upTo c.first c.last).map (fun i => (i, c.payload.drop 1))
  | .mask => (maskBits 64 (c.w 1).toNat).map (fun i => (i, c.payload.drop 2))

/-- Words of an object in range, reserved bits clear. -/
def objOk (k : CfgKind) (o : Nat × Obj) : Bool := reservedOk k o.1 o.2 && rangeOk k o.1 o.2

/-- The effects of a writer. -/
def writeOps (k : CfgKind) (c : Cmd) : List SetOp := (writeObjs k c).map (fun o => .write (cfgKey k o.1) o.2)

/-- The row of a writer. -/
def writeRow (k : CfgKind) (c : Cmd) : Row :=
  { len := writeLen k c, stage := true
    range := selPlain c false (kindOpts k) && writeSel k c && (writeObjs k c).all (objOk k) }

/-! ### Staging (R307) -/

/-- Shadow bytes in use over all open transactions. -/
def shadowUsed (s : State) : Nat := s.ctl.txns.foldl (fun a p => a + shadowBytes p.2) 0

/-- A command is staged in its transaction, or finds the shadow of 512 KiB full. -/
def stageCmd (c : Cmd) (n : Nat) (ops : List SetOp) (s : State) : State :=
  match txnFind s c.txn (mbxIface c.mbx) with
  | none => deny c stNoTxn n s
  | some t =>
    if 524288 < shadowUsed s + 16 + c.len then deny c stNoRes n s
    else respond c.mbx stOk false true n []
      (txnPut c.txn { t with staged := t.staged ++ [{ cmd := c.toRec n, ops := ops }] } s)

/-! ### Accepting a set -/

/-- TAPS of a quadrant with pixels pending would change (R221). -/
def tapsBusy (s : State) (t : Tab Obj) (ops : List SetOp) : Bool :=
  let t' := putOps s.fact.mac t ops
  (List.range 4).any (fun q =>
    diffIn (idleBits .echo q) (cfgIn s.fact.mac t .echo q) (cfgIn s.fact.mac t' .echo q)
      && !(engGet s q).closed.isEmpty)

/-- The boundary of a set that asks for one, while running (R303, R309, R325): none where it holds class I. -/
def setBoundary (s : State) (ask : Nat) (ops : List SetOp) : Option Nat :=
  let c := classOf s.fact.mac (cfgAt s ask) ops
  if c = 3 then none
  else if c = 2 then (if classOf s.fact.mac (cfgAt s 3) ops = 3 then none else some 3)
  else some ask

/-- A set is accepted: the epoch rises (R305, R320); it takes effect at once or waits for its boundary. -/
def acceptSet (atOnce : Bool) (w : WaitSet) (s : State) : State :=
  let e := (s.ctl.epoch + 1) % 2 ^ 32
  let s1 := { s with ctl := { s.ctl with epoch := e } }
  if atOnce then applySet w.boundary { w with epoch := e } s1
  else { s1 with ctl := { s1.ctl with waiting := s1.ctl.waiting ++ [{ w with epoch := e }] } }

/-- A queue named above 4,095 without LPDDR5 (R352). -/
def queueMissing (s : State) (k : CfgKind) (c : Cmd) : Bool := k == .queue && decide (queueCount s ≤ c.last)

/-- PERS_LP_EN asks for LPDDR5 that is not fitted (R215). -/
def persMissing (s : State) (k : CfgKind) (c : Cmd) : Bool := k == .pers && fld (c.w 1) 62 62 == 1 && !s.ctl.lpFitted

/-- The kinds whose class L fields have their moment by the command: energy limits hold for volleys offered after it
(R85), an output state changes from it (R93), a descriptor and a segment entry serve the next fetch and entry (R102,
R108), a monitor and the monitor margins act within 1 µs of it, with their hold from it (R156). -/
def soonKinds : List CfgKind := [.emCh, .emLim, .desc, .seg, .mc, .mp, .margin]

/-- A single set of class L that writes such objects acts at once while running. It keeps its place behind a set that
waits for the next shot with the same object (R304), and behind those without which the rules would not hold (R311;
DESIGN CHOICE, log entry 133). -/
def soonSet (s : State) (b : Nat) (ops : List SetOp) : Bool :=
  b == 1 && touches soonKinds ops
    && ops.all (fun o => match opKey o with
      | some n => soonKinds.any (fun k => n / 2 ^ 20 == kindIx k)
          && !s.ctl.waiting.any (fun w => decide (w.boundary ≤ 1) && (opsOf w.members).any (fun x => opKey x == some n))
      | none => false)
    && setStatus s 0 ops == stOk

/-- A single set (R303): checks 5 and 6 and acceptance. ECHO.SET_COEF has no class and acts at once (R239, R341). -/
def submitSet (c : Cmd) (n : Nat) (coef : Bool) (missing : Bool) (ops : List SetOp) (s : State) : State :=
  let idle := isIdle s
  let w : WaitSet := { seq := n, members := [{ cmd := c.toRec n, ops := ops }] }
  if tapsBusy s (cfgAt s 1) ops then deny c stNotIdle n s
  else
    match (if idle then some 4 else if coef then some 0 else setBoundary s 1 ops) with
    | none => deny c stNotIdle n s
    | some b =>
      let atOnce := idle || coef || soonSet s b ops
      if missing || (!atOnce && decide (16 ≤ s.ctl.waiting.length)) then deny c stNoRes n s
      else
        let st := setStatus s b ops
        if st ≠ stOk then deny c st n s
        else respond c.mbx stOk false false n [] (acceptSet atOnce { w with boundary := b } s)

/-- A configuration command (R303, R307, R324). -/
def runCfg (m op : Nat) (s : State) : State :=
  take m op (fun c n s =>
    match writerKind op c.opt with
    | none => deny c (headStatus s c { range := false, stage := true }) n s
    | some k =>
      let h := headStatus s c (writeRow k c)
      if h ≠ stOk then deny c h n s
      else if c.txn ≠ 0 then
        (if queueMissing s k c then deny c stNoRes n s else stageCmd c n (writeOps k c) s)
      else submitSet c n (k == .coef) (queueMissing s k c || persMissing s k c) (writeOps k c) s) s

/-- PB.STREAM_CLOSE writes STREAM_SRC off and leaves the rest (R336). -/
def runClose (m : Nat) (s : State) : State :=
  take m 0x0344 (fun c n s =>
    let h := headStatus s c { len := lenIs c 1, range := selPlain c false [0] && selNone c }
    let o := cfgObj s .stream 0
    if h ≠ stOk then deny c h n s
    else submitSet c n false false [.write (cfgKey .stream 0) [setFld (o.getD 0 0) 27 26 0, o.getD 1 0]] s) s

/-- One of the two stageable actions (R307): staged, or at once with its response words. -/
def runStage (m op : Nat) (row : Cmd → Row) (ops : Cmd → List SetOp) (eff : Cmd → State → List Word × State) (s : State) :
    State :=
  take m op (fun c n s =>
    let h := headStatus s c (row c)
    if h ≠ stOk then deny c h n s
    else if c.txn ≠ 0 then stageCmd c n (ops c) s
    else
      let r := eff c s
      respond c.mbx stOk false false n r.1 (journalCmd 0 (if isIdle s then 4 else 0) (c.toRec n) r.2)) s

/-! ### Readback (R324) -/

/-- The words of an object that its readback returns: the writer's, with the values in force. OUT.GET_GATE returns its
entries from `first` on; a descriptor slot that a stream has filled reads with its reserved bits zero (R15); CAL.GET_USER the values in force and those that are past their boundary and wait for their
step, not a CAL.SET_USER before its boundary (R250; DESIGN CHOICE, log entry 148). -/
def readObj (s : State) (first : Nat) (k : CfgKind) (i : Nat) : List Word :=
  let o := cfgObj s k i
  match k with
  | .tpll => [o.getD 0 0, tpllWord1 s]
  | .jump => o.map (fun w => setFld w 15 15 (b2n (s.pb.armed.contains i)))
  | .queue =>
    let r := qRun s i
    [setFld (o.getD 0 0) 31 0 r.drops, o.getD 1 0, o.getD 2 0, pack [(32, r.prod), (32, r.rseq)]]
  | .gate =>
    let es := match (portGet s i).oper with
      | some l => (l.entries.drop first).take 26
      | none => []
    o.take 3 ++ es.map (fun e => pack [(24, 0), (8, e.1), (32, e.2)])
  | .desc => imageWords .desc i o
  | .calRx => o ++ userNext s k i
  | .calEm => o ++ userNext s k i
  | .calDev => o ++ userNext s k i
  | .ctrlPort => o | .mode => o | .epoch => o | .emCh => o | .emLim => o | .volley => o | .stretch => o
  | .seg => o | .pb => o | .stl => o | .stream => o | .rx => o | .rxTile => o | .mc => o | .mp => o | .margin => o
  | .profile => o | .winTile => o | .rcd => o | .histTile => o | .pers => o | .echo => o | .coef => o | .team => o
  | .route => o | .port => o | .filter => o | .cb => o | .time => o | .safe => o | .pwr => o

/-- The objects that a readback names: a writer that takes a mask is read one tile at a time. -/
def readObjs (k : CfgKind) (c : Cmd) : List Nat :=
  match kindForm k with
  | .one => [oneIndex k c]
  | .range _ => upTo c.first c.last
  | .fill => upTo c.first c.last
  | .mask => [c.first]

/-- The selection of a readback; queue IDs end at R350's count. -/
def readSel (s : State) (k : CfgKind) (c : Cmd) : Bool :=
  match kindForm k with
  | .mask => selOne c (kindCount k)
  | .one => writeSel k c
  | .range _ => writeSel k c && (k != .queue || decide (c.last < queueCount s))
  | .fill => selRange c (kindCount k) 30

/-- FIRST_ENTRY of OUT.GET_GATE: of a word W1 after SEL, 0 without one (log entry 44). -/
def readFirst (k : CfgKind) (c : Cmd) : Nat := if k = .gate then fld (c.w 1) 60 53 else 0

/-- LENGTH of a readback. -/
def readLen (k : CfgKind) (c : Cmd) : Bool := lenIs c 1 || (k == .gate && lenIs c 2)

/-- A readback; one whose response would exceed 240 bytes is refused. -/
def runGet (m op : Nat) (s : State) : State :=
  take m op (fun c n s =>
    match writerKind (op - 0x80) c.opt with
    | none => deny c (headStatus s c { range := false }) n s
    | some k =>
      let ok := selPlain c false (kindOpts k) && readSel s k c && (k != .gate || onlyBits (c.w 1) [(60, 53)])
      let ws := if ok then (readObjs k c).flatMap (readObj s (readFirst k c) k) else []
      let h := headStatus s c { len := readLen k c, range := ok && decide (ws.length ≤ 30) }
      if h ≠ stOk then deny c h n s else respond c.mbx stOk false false n ws s) s

/-! ### Status and readout -/

/-- Never a refusal from the device's state. -/
def devFree : State → Cmd → Nat := fun _ _ => stOk

/-- A status command with its row, its words and what CLEAR clears (R327). -/
def runStat (m op : Nat) (row : State → Cmd → Row) (words : Cmd → State → List Word) (clear : Cmd → State → State) (s : State) :
    State :=
  runAct m op row devFree (fun c s => (words c s, if c.clear then clear c s else s)) s

/-- The row of a command that names no object and has n payload words. -/
def rowNone (n : Nat) (clear : Bool) (ok : Cmd → Bool) : State → Cmd → Row :=
  fun _ c => { len := lenIs c n, range := selPlain c clear [0] && selNone c && ok c }

/-- The row of a command that names one object. -/
def rowOne (n count : Nat) (ok : Cmd → Bool) : State → Cmd → Row :=
  fun _ c => { len := lenIs c n, range := selPlain c false [0] && selOne c count && ok c }

/-- No further range. -/
def anyCmd : Cmd → Bool := fun _ => true

/-- The row of a status command over ranges: for each OPT, the number of objects and the most at a time; 0 objects
where the option names none. -/
def rowStat (sel : List (Nat × Nat)) (clear : Bool) : State → Cmd → Row :=
  fun _ c => { len := lenIs c 1
               range := selPlain c clear (List.range sel.length) &&
                 (match sel[c.opt]? with
                  | some (n, most) => if n = 0 then selNone c else selRange c n most
                  | none => false) }

/-! ### Emissions to result queues (R328, R352) -/

/-- A queue that a command may emit to: enabled, not C0, SRC_KIND 0. -/
def queueTakes (s : State) (q : Nat) : Bool :=
  decide (q < queueCount s) && cfgF s .queue q 0 63 63 == 1 && cfgF s .queue q 0 62 61 != 0 && cfgF s .queue q 0 58 56 == 0

/-- The queue named is refused with NO_RESOURCE where it is not configured. -/
def devQueue : State → Cmd → Nat := fun s c => if queueTakes s c.first then stOk else stNoRes

/-! ### Commit (R309 to R311, R318) -/

/-- A set waits with its journal entries (R318). -/
def setEntries (s : State) : Nat := s.ctl.waiting.foldl (fun a w => a + w.members.length) 0

/-- The status of a commit that asks for a boundary, and the boundary that the set is given. -/
def commitPlan (s : State) (ask : Nat) (ms : List Staged) : Nat × Nat :=
  let ops := opsOf ms
  match (if isIdle s then some 4 else setBoundary s ask ops) with
  | none => (stNotIdle, 0)
  | some b =>
    if tapsBusy s (cfgAt s (if b = 4 then 3 else b)) ops then (stNotIdle, b)
    else if 16 ≤ s.ctl.waiting.length ∨ 3072 < ms.length + setEntries s + unmirrored s then (stNoRes, b)
    else (setStatus s b ops, b)

/-- TXN.COMMIT. -/
def runCommit (m : Nat) (s : State) : State :=
  take m 0x0D41 (fun c n s0 =>
    let iface := mbxIface c.mbx
    let s := txnTouch c.first iface s0
    let h := headStatus s c { len := lenIs c 2, txn := true, named := (txnFind s c.first iface).isSome
                              range := selPlain c false [0] && selOne c 65536 && onlyBits (c.w 1) [(1, 0)] }
    match txnFind s c.first iface with
    | none => deny c h n s
    | some t =>
      if h = stEpoch ∨ h = stRange then deny c h n (txnClose c.first .refused t s)
      else if h ≠ stOk then deny c h n s
      else
        let (st, b) := commitPlan s (fld (c.w 1) 1 0) t.staged
        if st = stNoRes then deny c st n s
        else if st ≠ stOk then deny c st n (txnClose c.first .refused t s)
        else
          let s1 := txnClose c.first .committed t s
          let s2 := acceptSet (b == 4 || b == 0)
            { seq := n, boundary := b, isTxn := true, txn := c.first, members := t.staged } s1
          respond c.mbx stOk (!isIdle s && decide (fld (c.w 1) 1 0 < b)) false n [pack [(3, b), (29, 0), (32, s2.ctl.epoch)]] s2) s

end Sys2Proof.Machine
end

