-- ==== Sys2Proof/Machine/HostOps.lean ====
section
/-! DEFINITION. The BAR0 page (R287 to R293): hardware registers, doorbells, releases, slot writes, the SPI alert buffer. -/

namespace Sys2Proof.Machine

/-- A doorbell, release, slot write or datagram that the device ignores (R293). -/
def dbIgnore (s : State) : State := { s with ctl := { s.ctl with dbIgnored := satAdd 8 s.ctl.dbIgnored 1 } }

/-- A queue entry is free for an interface: 16 in all, at most 12 for PCI Express and UDP together (R297). -/
def entryFree (iface : Nat) (s : State) : Bool :=
  decide (s.ctl.queue.length < 16)
    && (iface == 1 || decide ((s.ctl.queue.filter (fun m => mbxIface m != 1)).length < 12))

/-- A mailbox is rung by an interface (Table 8 of ch. 11): POSTED and queued, answered BUSY by hardware (R297), or
ignored. -/
def ring (iface m : Nat) (s : State) : State :=
  if mbxIface m ≠ iface ∨ (mbxGet s m).st = .posted then dbIgnore s
  else if entryFree iface s then
    mbxPut m { mbxGet s m with st := .posted }
      { s with ctl := { s.ctl with queue := s.ctl.queue ++ [m]
                                   early := if s.ctl.mbxReady then s.ctl.early else s.ctl.early ++ [m] } }
  else respond m stBusy false false 0 [] { s with ctl := { s.ctl with busyCount := satAdd 16 s.ctl.busyCount 1 } }

/-- A mailbox is released (Table 8 of ch. 11); the response slot keeps its contents. -/
def releaseMbx (iface m : Nat) (s : State) : State :=
  if mbxIface m ≠ iface ∨ (mbxGet s m).st ≠ .done then dbIgnore s
  else mbxPut m { mbxGet s m with st := .idle } s

/-- The mailboxes of a mask, lowest first (log entry 46). -/
def overMask (f : Nat → State → State) (mask : Nat) (s : State) : State := (maskBits 32 mask).foldl (fun a m => f m a) s

/-- Half h of a word replaced by 32 bits (h = 0: the low half; R292). -/
def setHalf (w : Word) (h v : Nat) : Word := if h = 0 then setFld w 31 0 v else setFld w 63 32 v

/-- Half h of a word. -/
def halfOf (w : Word) (h : Nat) : Nat := if h = 0 then fld w 31 0 else fld w 63 32

/-- A write into the mailbox region (R287, R292, R293; log entry 47): 32 bits, or with `high` an aligned 64-bit write of
two halves. It is ignored, and counted, as one. -/
def slotWrite (iface offset v : Nat) (high : Option Nat) (s : State) : State :=
  let m := (offset - 0x8000) / 512
  let i := (offset - 0x8000) % 512
  let b := mbxGet s m
  let w := setHalf (tabGet 0 b.cmd (i / 8)) (i % 8 / 4) v
  if mbxIface m ≠ iface ∨ b.st = .posted ∨ 256 ≤ i then dbIgnore s
  else mbxPut m { b with cmd := tabSet 0 b.cmd (i / 8) (match high with
    | some h => setHalf w 1 h
    | none => w) } s

/-- IRQ_PENDING bits are cleared in one copy (R289); on SPI, bit 6 acknowledges alerts (R363). -/
def irqClear (iface mask : Nat) (s : State) : State :=
  if iface = 0 then { s with ctl := { s.ctl with irqPendP := s.ctl.irqPendP - (s.ctl.irqPendP &&& mask) } }
  else
    let s1 := { s with ctl := { s.ctl with irqPendS := s.ctl.irqPendS - (s.ctl.irqPendS &&& mask) } }
    if mask.testBit 6 then
      let s2 := { s1 with outq := { s1.outq with acked := s1.outq.seenSeq } }
      if s2.outq.acked < s2.outq.newest then irqBoth 6 s2 else s2
    else s1

/-- IRQ_ENABLE of one copy is written; its reserved bits stay zero (R289). -/
def irqEnable (iface v : Nat) (s : State) : State :=
  let e := v % 256
  if iface = 0 then
    let was := s.ctl.irqPendP &&& s.ctl.irqEnP
    let s1 := { s with ctl := { s.ctl with irqEnP := e } }
    if was = 0 ∧ s.ctl.irqPendP &&& e ≠ 0 then out (.msix 0) s1 else s1
  else { s with ctl := { s.ctl with irqEnS := e } }

/-- The stream doorbell (R129): the host's producer index. -/
def streamRing (v : Nat) (s : State) : State := pbUpd (fun p => { p with hostProd := v % 2 ^ 20 }) s

/-- A 32-bit write on an interface (Table 1 of ch. 11); read-only and reserved offsets ignore it. -/
def regWrite (iface offset v : Nat) (s : State) : State :=
  if offset = 0x0008 then overMask (ring iface) v s
  else if offset = 0x000C then overMask (releaseMbx iface) v s
  else if offset = 0x0018 then irqClear iface v s
  else if offset = 0x001C then irqEnable iface v s
  else if offset = 0x0034 then streamRing v s
  else if 0x8000 ≤ offset ∧ offset < 0xC000 then slotWrite iface offset v none s
  else s

/-- An aligned 64-bit write covers two registers, the lower one first (log entry 114), or a word of the mailbox region
(R287). -/
def regWrite64 (iface offset v high : Nat) (s : State) : State :=
  if 0x8000 ≤ offset ∧ offset < 0xC000 then slotWrite iface offset v (some high) s
  else regWrite iface (offset + 4) high (regWrite iface offset v s)

/-- The SPI alert buffer as its words (R363). -/
def alertWord (s : State) (n : Nat) : Word :=
  if n = 0 then pack [(32, s.outq.newest), (32, s.outq.acked)]
  else if n = 1 then pack [(32, s.outq.c0Spi.length), (32, s.outq.seenSeq)]
  else if n < 8 then 0
  else (tabGet [] s.outq.slots (n / 8)).getD (n % 8) 0

/-- A 32-bit read on an interface (Table 1 of ch. 11). -/
def regRead (iface offset : Nat) (s : State) : Nat :=
  match offset with
  | 0x0000 => 0x10641100
  | 0x0004 => hostStatus32 s
  | 0x0010 => mbxMask .posted s
  | 0x0014 => mbxMask .done s
  | 0x0018 => if iface = 0 then s.ctl.irqPendP else s.ctl.irqPendS
  | 0x001C => if iface = 0 then s.ctl.irqEnP else s.ctl.irqEnS
  | 0x0020 => safeStatus32 s
  | 0x0024 => hostErrors32 s
  | 0x0028 => s.ctl.pubEpoch
  | 0x002C => s.ctl.pubDigest
  | 0x0030 => s.ctl.jseq
  | _ =>
    if 0x8000 ≤ offset ∧ offset < 0xC000 then
      let b := mbxGet s ((offset - 0x8000) / 512)
      let i := (offset - 0x8000) % 512
      -- word 1 [31:0] of a command is reserved and reads as zero (R15)
      if i = 8 then 0
      else halfOf (if i < 256 then tabGet 0 b.cmd (i / 8) else tabGet 0 b.resp (i % 256 / 8)) (i % 8 / 4)
    else if 0xC000 ≤ offset ∧ offset < 0xC800 ∧ iface = 1 then
      halfOf (alertWord s ((offset - 0xC000) / 8)) (offset % 8 / 4)
    else 0

/-! ### SPI (R299, R300, R363) -/

/-- Reading 0xC000 over SPI latches NEWEST_SEQ (R363). -/
def alertLatch (s : State) : State := { s with outq := { s.outq with seenSeq := s.outq.newest } }

/-- One word read over SPI, with the latch at 0xC000. -/
def spiWord (offset : Nat) (s : State) : Nat × State :=
  let s1 := if offset = 0xC000 then alertLatch s else s
  (regRead 1 offset s1, s1)

/-- n words read from an address on, wrapping at 0xFFFF. -/
def spiWords : Nat → Nat → State → List Nat × State
  | 0, _, s => ([], s)
  | n + 1, a, s =>
    let r := spiWord (a % 65536) s
    let t := spiWords n (a + 4) r.2
    (leBytes 4 r.1 ++ t.1, t.2)

/-- n bytes that the spec gives no value (log entry 49). -/
def freeBytes : Nat → State → List Nat × State
  | 0, s => ([], s)
  | n + 1, s =>
    let r := drawFree s
    let t := freeBytes n r.2
    (r.1 % 256 :: t.1, t.2)

/-- 32-bit words written over SPI from an address on. -/
def spiStore : Nat → List (List (BitVec 8)) → State → State
  | _, [], s => s
  | a, w :: r, s => spiStore (a + 4) r (regWrite 1 (a % 65536) (ofLe (w.map BitVec.toNat)) s)

/-- The bytes under the CRC of WRITE_C and READ_C: instruction, address most significant byte first, count, data
(R300). -/
def spiCrcBytes (instr a count : Nat) (data : List Nat) : List Nat := [instr, a / 256 % 256, a % 256, count] ++ data

/-! ### UDP (R301, R302) -/

/-- The stored response of a mailbox with RESENT set. -/
def resentWords (b : Mbx) : List Word :=
  let n := fld (tabGet 0 b.resp 0) 47 32 / 8
  (List.range (2 + n)).map (fun i => if i = 1 then setFld (tabGet 0 b.resp 1) 41 41 1 else tabGet 0 b.resp i)

/-- A control datagram is well formed: prefix, and LENGTH bytes of payload. -/
def udpOk (d : UdpData) : Bool :=
  let p := d.words.getD 0 0
  decide (3 ≤ d.words.length) && decide (24 ≤ fld p 63 56) && decide (fld p 63 56 ≤ 31) && fld p 55 48 == 1 && fld p 47 0 == 0
    && decide (8 * (d.words.length - 3) + d.tail.length = fld (d.words.getD 1 0) 47 32)

/-- A payload with its spare bytes counted as words, as far as they fill some (log entry 149). -/
def udpNorm (d : UdpData) : UdpData :=
  let k := d.tail.length / 8 * 8
  { words := d.words ++ (chunks 8 d.tail.length (d.tail.take k)).map (fun c => BitVec.ofNat 64 (ofLe (c.map BitVec.toNat)))
    tail := d.tail.drop k }

/-- The command that a datagram carries after its prefix. -/
def udpCmd (d : UdpData) : UdpData := { d with words := d.words.drop 1 }

/-- The slot that a datagram writes: its words, the bytes left over in the low bytes of one more (log entry 141). -/
def udpSlot (d : UdpData) : Tab Word :=
  slotOf (((udpCmd d).words ++ (if d.tail.isEmpty then [] else [BitVec.ofNat 64 (ofLe (d.tail.map BitVec.toNat))])).take 32)

/-- A control datagram arrives: dropped, a retransmission, or a slot write with a doorbell. -/
def udpCommand (src : UdpSrc) (d : UdpData) (s : State) : State :=
  let m := fld (d.words.getD 0 0) 63 56
  let b := mbxGet s m
  if !udpOk d then dbIgnore s
  else if b.st = .posted then dbIgnore s
  else
    let same : Bool := match b.src with
      | some x => decide (x.ip = src.ip ∧ x.port = src.port)
      | none => false
    if b.st = .done ∧ same ∧ b.last = udpCmd d then udpReply m src (resentWords b) s
    else ring 2 m (mbxPut m { b with cmd := udpSlot d, src := some src, last := udpCmd d } s)

/-! ### Publication (R320) -/

/-- The pair of the oldest set not yet published is published. -/
def publish (s : State) : State :=
  match s.ctl.unpub with
  | [] => s
  | (e, d) :: r =>
    let changed := decide (e ≠ s.ctl.pubEpoch ∨ d ≠ s.ctl.pubDigest)
    let ctl' := { s.ctl with
      unpub := r, pubEpoch := e, pubDigest := d
      jrnl := s.ctl.jrnl.map (fun j => if j.epoch = e then { j with digestOk := true } else j) }
    let s1 := { s with ctl := ctl' }
    let s2 := if e = s.ctl.pubEpoch then s1 else irqBoth 2 s1
    if changed then
      decideCause 18 0 s2.ctl.jseq (safeUpd (fun u => { u with confirmPending := true, pubAt := s2.up }) s2)
    else s2

/-! ### Emissions (R331, R355, R371) -/

/-- The row of an emission with its parameter words in range: FIRST names the queue. -/
def rowQueue (n : Nat) (ok : Cmd → Bool) : State → Cmd → Row := rowOne n 1048576 ok

/-- The journal entries held: the mirror's, then those of controller memory (R316). -/
def jHeld (s : State) : List JEntry :=
  let first := (s.ctl.jrnl.headD { jseq := s.ctl.jseq + 1 }).jseq
  s.pwr.mram.mirror.filter (fun e => decide (e.jseq < first)) ++ s.ctl.jrnl

/-- Emit journal entries as JOURNAL records of at most 22 entries (R316, Table 2 of ch. 13). -/
def emitJournal (q : Nat) (es : List JEntry) (s : State) : State :=
  (chunks 22 12289 es).foldl (fun a p => emitRecord q 7 p.length (p.flatMap jWords) a) s

end Sys2Proof.Machine
end

