-- ==== Sys2Proof/Machine/BootOps.lean ====
section
/-! DEFINITION. Reset, boot and MRAM (ch. 15): what reset leaves, the boot ROM's stages, page writes, and the boot
configuration image. -/

namespace Sys2Proof.Machine

/-- Change the power block. -/
def pwrUpd (f : Pwr → Pwr) (s : State) : State := { s with pwr := f s.pwr }

/-! ### Page writes cut short (R407, R425) -/

/-- Entries of the journal mirror and records of the log that MRAM holds (Table 8 of ch. 15). -/
abbrev mirrorSize : Nat := 8192
abbrev logSize : Nat := 16384

/-- Change one of the two user copies. -/
def copyUpd (copy : Nat) (f : UserCopy → UserCopy) (m : Mram) : Mram :=
  if copy = 0 then { m with copy0 := f m.copy0 } else { m with copy1 := f m.copy1 }

/-- The MRAM after a page write in progress is cut: a torn ring page loses the entries it overwrote, a torn user copy is
invalid, an image is lost, a torn directory update leaves the other copy of the directory (R425). -/
def tearPage (j : Option NvmJob) (m : Mram) : Mram :=
  match j with
  | some (.journal _) => if mirrorSize ≤ m.mirror.length then { m with mirror := m.mirror.drop 64 } else m
  | some (.log _) => if logSize ≤ m.log.length then { m with log := m.log.drop logPage } else m
  | some (.userCopy c _ _) => copyUpd c (fun x => { x with valid := false }) m
  | some (.imagePage slot _ _) => { m with images := tabDel m.images slot }
  | some (.imageInvalidate _) => dirOlder (fun d => { d with whole := false }) m
  | some (.imageValid _) => dirOlder (fun d => { d with whole := false }) m
  | some (.imageErase _) => dirOlder (fun d => { d with whole := false }) m
  | some (.imageSelect _) => dirOlder (fun d => { d with whole := false }) m
  | some (.bootSlot _) => m
  | none => m

/-! ### Reset (R408) -/

/-- The device held in reset: reset values everywhere; the waiting commands, running time, the factory partition, the
MRAM, JSEQ, SHUTDOWN_CAUSE, the hard latch, the test port and the levels of RESET_N, VDD_CORE and the TRIP_N balls outlive
it. -/
def resetDevice (s : State) : State :=
  let m := tearPage s.pwr.nvmNow s.pwr.mram
  let j := (m.mirror.reverse.headD {}).jseq
  { State.reset with
    pending := s.pending, up := s.up, free := s.free, fact := s.fact, tripN := s.tripN, tap := s.tap
    pwr := { io33 := s.pwr.io33, ioTol := s.pwr.ioTol, mram := m, sdCause := s.pwr.sdCause, sdTemp := s.pwr.sdTemp, hardLatch := s.pwr.hardLatch
             rstLow := s.pwr.rstLow, coreOk := s.pwr.coreOk, tripHold := s.pwr.tripHold }
    ctl := { jseq := j, jmirr := j } }

/-- The boot ROM starts (R409, R453; log entry 51). -/
def romStart (s : State) : State :=
  let slot := s.pwr.mram.bootSlot
  pwrUpd (fun p => { p with slot := slot, triedOther := false })
    { s with ctl := { s.ctl with bootStage := if tpllLocked s then 3 + slot else 2 } }

/-- The boot ROM starts where nothing holds it: SPLL_LOCK has been set and no temperature hold stands. -/
def romKick (s : State) : State := if s.ctl.bootStage = 1 ∧ (s.tb.spll.lock ∨ s.tb.spll.coast) then romStart s else s

/-- The first TPLL lock moves the boot on from stage 2. -/
def romLocked (s : State) : State :=
  if s.ctl.bootStage = 2 ∧ tpllLocked s then { s with ctl := { s.ctl with bootStage := 3 + s.pwr.slot } } else s

/-- The selected boot image, where its slot is valid and the image meets the CRC-32C of its slot (R412, R425). -/
def bootImage (s : State) : Option Image :=
  let d := dirNow s.pwr.mram
  match d.boot with
  | some slot =>
    let img := tabGet {} s.pwr.mram.images slot
    if d.slots.any (fun p => p.1 == slot && p.2 == digestOf img.recs) then some img else none
  | none => none

/-- RESET_N is released (R41, R384, R422, R423): the TPLL words of the boot image, the causes that outlived a shutdown
or a trip, and the hold at stage 0x0F. -/
def releaseReset (temp : Int) (s : State) : State :=
  let hard := s.pwr.hardLatch
  let soft := decide (s.pwr.sdCause ≠ 0)
  let cfg' := match bootImage s with
    | some img => (match img.recs.find? (fun r => r.1 == cfgKey .tpll 0) with
      | some r => tabPut s.cfg (cfgKey .tpll 0) r.2
      | none => s.cfg)
    | none => s.cfg
  let p' := { s.pwr with inReset := false, lastShut := (if hard then 2 else if soft then 1 else 0),
                         hardLatch := hard && decide (1920 ≤ temp), cool := false }
  let s1 := { s with
    cfg := cfg', pwr := p', tb := { s.tb with sdPresent := true }, ctl := { s.ctl with bootStage := if hard || soft then 0x0F else 1 }
    safe := { s.safe with liveAt := s.up, heartAt := s.up, since := s.up } }
  let s2 := if soft then decideCause 22 0 (twos 16 s.pwr.sdTemp) s1 else s1
  if hard then decideCause 23 0 0 s2 else s2

/-- SHUTDOWN_CAUSE is cleared once its cause is gone and its record is written (R423). -/
def shutdownDone (s : State) : State :=
  if s.safe.active.testBit 22 then s else pwrUpd (fun p => { p with sdCause := 0, sdTemp := 0 }) s

/-- A sample below 110 °C ends the hold (R422, R423). -/
def coolSample (s : State) : State :=
  if s.ctl.bootStage = 0x0F then
    let s1 := causeGone 22 (pwrUpd (fun p => { p with cool := true }) s)
    let s2 := if s1.pwr.hardLatch then s1 else causeGone 23 s1
    romKick { s2 with ctl := { s2.ctl with bootStage := 1 } }
  else s

/-! ### Boot completion (R264, R315, R410, R412, R427) -/

/-- The user layer of the newer valid copy becomes the active one; none valid is USER_LAYER_LOST (R264). -/
def loadUser (s : State) : State :=
  let m := s.pwr.mram
  let pick := if copyGood s m.copy0 && (!copyGood s m.copy1 || decide (m.copy1.seqNo ≤ m.copy0.seqNo)) then some m.copy0
    else if copyGood s m.copy1 then some m.copy1 else none
  match pick with
  | some c =>
    let put := fun (t : Tab Obj) (e : Nat × Obj) => match keyOf e.1 with
      | some (k, i) => cfgPutIn s.fact.mac t k i e.2
      | none => t
    { s with cfg := c.vals.foldl put s.cfg }
  | none => calUpd (fun c => { c with userLost := true }) s

/-- The boot image is applied as one set with SRC_IF 0x3, without the TPLL words taken at reset release; or
BOOT_IMAGE_BAD is set (R412). -/
def loadImage (s : State) : State :=
  match (dirNow s.pwr.mram).boot with
  | none => s
  | some _ =>
    match bootImage s with
    | none => pwrUpd (fun p => { p with bootImageBad := true }) s
    | some img =>
      let ops := (img.recs.filter (fun r => r.1 != cfgKey .tpll 0)).map (fun r => SetOp.write r.1 r.2)
      let e := (s.ctl.epoch + 1) % 2 ^ 32
      let s1 := ops.foldl (fun a o => applyOp o a) { s with ctl := { s.ctl with epoch := e } }
      let d := digestOf s1.cfg
      { s1 with ctl := { s1.ctl with effEpoch := e, effDigest := d, unpub := s1.ctl.unpub ++ [(e, d)] } }

/-- The log record of the shutdown that this boot follows (R427). -/
def logShutdown (s : State) : State :=
  if s.pwr.lastShut = 0 then s
  else
    let (f, s1) := drawFree s
    let t := if s.pwr.lastShut = 1 then twos 16 s.pwr.sdTemp else f % 65536
    let s2 := logEvent 2 (logDetail s.pwr.lastShut t) s1
    if (cfgF s .pwr 0 0 59 52).testBit 2 then s2 else shutdownDone s2

/-- The boot ends once its self-test is complete: BOOT_STAGE 0x10, MBX_READY and the journal entry of KIND 6 (Table 3). -/
def bootReady (s : State) : State :=
  if s.ctl.bootStage = 8 ∧ !s.ctl.fwFault ∧ !s.safe.selftest then
    let s1 := { s with ctl := { s.ctl with bootStage := 0x10, mbxReady := true } }
    logShutdown (logEvent 1 (logDetail s1.pwr.slot 0x10) (journalDev 6 s1))
  else s

/-- User layer, journal position and image are loaded; the self-test is what remains. -/
def bootDone (s : State) : State :=
  let s1 := loadImage (loadUser s)
  bootReady (calFeed { s1 with ctl := { s1.ctl with bootStage := 8 } })

/-! ### Page writes (R424 to R427) -/

/-- A user calibration copy as it is stored: its values with the device identity, their CRC-32C and the next sequence
number (R264). -/
def newCopy (ident : Nat) (m : Mram) (vals : List (Nat × Obj)) : UserCopy :=
  { vals := vals, seqNo := max m.copy0.seqNo m.copy1.seqNo + 1, ident := ident, crc := userCrc vals, valid := true }

/-- Queue the next page of a job ahead of its equals. -/
def nvmAgain (j : NvmJob) (s : State) : State := pwrUpd (fun p => { p with nvmQ := j :: p.nvmQ }) s

/-- A page has been written and verified. -/
def pageDone (j : NvmJob) (s : State) : State :=
  let m := s.pwr.mram
  let setM := fun (x : Mram) (st : State) => pwrUpd (fun p => { p with mram := x }) st
  match j with
  | .journal upto =>
    let new := s.ctl.jrnl.filter (fun e => decide (s.ctl.jmirr < e.jseq) && decide (e.jseq ≤ upto))
    let all := m.mirror ++ new
    let s1 := setM { m with mirror := all.drop (all.length - mirrorSize) } { s with ctl := { s.ctl with jmirr := upto } }
    if 1024 < unmirrored s1 then mirrorStart s1 else s1
  | .userCopy c vals left =>
    if left = 0 then bgDone 8 true stOk [] (setM (copyUpd c (fun _ => newCopy s.fact.deviceId m vals) m) s)
    else nvmAgain (.userCopy c vals (left - 1)) (setM (copyUpd c (fun x => { x with valid := false }) m) s)
  | .imageInvalidate slot => setM (dirWrite (dirDrop slot) m) s
  | .imagePage slot img left =>
    if left ≤ 1 then setM { m with images := tabPut m.images slot img } s
    else nvmAgain (.imagePage slot img (left - 1)) (setM { m with images := tabDel m.images slot } s)
  | .imageValid slot => bgDone 12 true stOk [] (setM (dirWrite (dirMark slot (digestOf (tabGet {} m.images slot).recs)) m) s)
  | .imageErase slot => bgDone 12 true stOk [] (setM (dirWrite (dirDrop slot) m) s)
  | .imageSelect slot => bgDone 12 true stOk [] (setM (dirWrite (fun d => { d with boot := slot }) m) s)
  | .bootSlot slot => bgDone 0 true stOk [] (setM { m with bootSlot := slot } s)
  | .log n =>
    let recs := s.pwr.logBuf.take n
    let all := m.log ++ recs
    let s1 := pwrUpd (fun p => { p with logBuf := p.logBuf.drop n })
      (setM { m with log := all.drop (all.length - logSize) } s)
    if recs.any (fun r => r.kind == 2) then shutdownDone s1 else s1

/-- What a page write belongs to: the mirror, the user copies, a PWR image command, the log, or SYS.SELECT_BOOT. -/
def jobGroup : NvmJob → Nat
  | .journal _ => 0
  | .userCopy _ _ _ => 1
  | .imageInvalidate _ => 2 | .imagePage _ _ _ => 2 | .imageValid _ => 2 | .imageErase _ => 2 | .imageSelect _ => 2
  | .log _ => 3
  | .bootSlot _ => 4

/-- Jobs that a failed job takes with it: the pages behind it of the same object. -/
def sameJob (a b : NvmJob) : Bool := jobGroup a == jobGroup b

/-- The first page and the number of pages of the partition that a job writes to (Table 8); the spec gives the boot slot
none (log entry 132). -/
def jobPages : NvmJob → Nat × Nat
  | .journal _ => (0x100, 128)
  | .log _ => (0x180, 128)
  | .userCopy c _ _ => (if c = 0 then 0x80 else 0xC0, 64)
  | .imagePage slot _ _ => (0x204 + 0x7F * slot, 127)
  | .imageInvalidate _ => (0x200, 4) | .imageValid _ => (0x200, 4) | .imageErase _ => (0x200, 4) | .imageSelect _ => (0x200, 4)
  | .bootSlot _ => (0, 1024)

/-- A page write failed twice: it is counted and logged with the address of a page of its partition, and its command ends
with NVM_FAIL (R426, R427). -/
def pageFail (j : NvmJob) (s : State) : State :=
  let (f, s0) := drawFree s
  let s1 := pwrUpd (fun p => { p with nvmFails := satAdd 16 p.nvmFails 1, nvmQ := p.nvmQ.filter (fun x => !sameJob j x)
                                      mram := tearPage (some j) p.mram }) s0
  let s2 := match j with
    | .journal _ => s1
    | .log _ => s1
    | .userCopy _ _ _ => bgDone 8 true stNvmFail [] s1
    | .imageInvalidate _ => bgDone 12 false stNvmFail [] s1
    | .imagePage _ _ _ => bgDone 12 true stNvmFail [] s1
    | .imageValid _ => bgDone 12 true stNvmFail [] s1
    | .imageErase _ => bgDone 12 false stNvmFail [] s1
    | .imageSelect _ => bgDone 12 false stNvmFail [] s1
    | .bootSlot _ => bgDone 0 false stNvmFail [] s1
  logEvent 5 (4096 * ((jobPages j).1 + f % (jobPages j).2)) s2

/-- The page write in progress ends: done, retried once, or failed; then the next queued write starts, unless a soft
shutdown has begun (R418, R424, R426). -/
def pageWritten (ok : Bool) (s : State) : State :=
  match s.pwr.nvmNow with
  | none => s
  | some j =>
    if !ok ∧ !s.pwr.nvmRetry then pwrUpd (fun p => { p with nvmRetry := true }) s
    else
      let s1 := pwrUpd (fun p => { p with nvmNow := none, nvmRetry := false
                                          pagesWritten := if ok then satAdd 64 p.pagesWritten 1 else p.pagesWritten }) s
      let s2 := if ok then pageDone j s1 else pageFail j s1
      if s2.pwr.shutAt.isSome then pwrUpd (fun p => { p with nvmQ := [] }) s2 else nvmKick s2

/-- Records of the buffer that a queued or running page write will store. -/
def logQueued (s : State) : Nat :=
  (s.pwr.nvmQ ++ s.pwr.nvmNow.toList).foldl (fun a j => match j with
    | .log n => a + n
    | .journal _ => a | .userCopy _ _ _ => a | .imageInvalidate _ => a | .imagePage _ _ _ => a | .imageValid _ => a
    | .imageErase _ => a | .imageSelect _ => a | .bootSlot _ => a) 0

/-- The records waiting in the buffer are queued for writing (R427). -/
def logFlushAll (s : State) : State :=
  let n := s.pwr.logBuf.length - logQueued s
  if n = 0 then s else nvmPut (.log (min n logPage)) s

/-! ### Temperature (R415 to R417) -/

/-- The band that contains a sample (Table 6 of ch. 15), in 1/16 °C. -/
def bandOf (t : Int) : Nat :=
  if t < -160 then 0 else if t < 320 then 1 else if t < 800 then 2 else if t < 1280 then 3 else if t < 1680 then 4 else 5

/-- Falling threshold to the band below. -/
def bandFall (b : Nat) : Int := [0, -208, 272, 752, 1232, 1632].getD b 0

/-- The band decision that a sample brings (R415): the first sample decides its band; later one band at a time, 250 ms
apart. -/
def bandNext (s : State) (t : Int) : Nat :=
  let b := s.pwr.band
  if b = 7 then bandOf t
  else if s.up < s.pwr.bandAt + 250 * fineMs then b
  else if b < bandOf t ∧ b < 5 then b + 1
  else if 0 < b ∧ t < bandFall b then b - 1 else b

/-- A band decision: counted after the first, logged, and it feeds the throttle and the next table step (R414, R416). -/
def bandDecide (t : Int) (s : State) : State :=
  let b := bandNext s t
  if b = s.pwr.band then s
  else
    let s1 := pwrUpd (fun p => { p with band := b, bandAt := s.up
                                        bandChanges := if p.band = 7 then p.bandChanges else satAdd 16 p.bandChanges 1 }) s
    let s2 := if s.pwr.band = 7 then calUpd (fun c => { c with bandActive := b }) s1 else s1
    calFeed (sysAdjust (logEvent 3 (logDetail b (twos 16 t)) s2))

/-- Cause TEMP_IMPLAUSIBLE, unless it is active (R393). -/
def implausible (s : State) : State :=
  let s1 := safeUpd (fun u => { u with plausCnt := 0 }) s
  if s.safe.active.testBit 21 then s1
  else decideCause 21 0 (twos 16 s.safe.tempSensor * 2 ^ 16 + twos 16 s.safe.tempInferred) s1

/-- A sample lies outside −60 °C to +160 °C. -/
def sampleWild (t : Int) : Bool := decide (t < -960) || decide (2560 < t)

/-- The sensor takes a sample. -/
def sampleTaken (t : Int) (s : State) : State :=
  pwrUpd (fun p => { p with
    tempNow := t, tempMax := max p.tempMax t, tempMin := min p.tempMin t, samples := (t :: p.samples).take 1000 }) s

/-! ### Shutdown (R418 to R420) -/

/-- No alert waits for a destination or stands on a port: the alert of the decision has left (R373, R418). -/
def alertLeft (s : State) : Bool :=
  s.outq.c0Host.isEmpty && s.outq.c0Net.isEmpty && s.outq.c0Spi.isEmpty && s.sw.ports.all (fun (p : Nat × Port) =>
    (tabGet [] p.2.egress 7).all (fun f => f.cls != 0) && (match p.2.sending with
      | some (_, f) => f.cls != 0
      | none => true))

/-- Shutdown is entered: SHUTDOWN_CAUSE is written, the clocks, links and comparators are off, background commands end
without a response and a calibration is aborted. -/
def shutDown (s : State) : State :=
  let s1 := pwrUpd (fun p => { p with shut := true, shutAt := none, sdCause := 1, sdTemp := p.tempNow, nvmQ := [] })
    (calAbort 6 { s with ctl := { s.ctl with bg := [] } })
  { s1 with
    tb := { s1.tb with st := .reset, refPresent := false, spll := {}, npll := {}, lockAt := none }
    sw := { s1.sw with ports := s1.sw.ports.map (fun (p : Nat × Port) => (p.1, { p.2 with link := false })) }
    rx := s1.rx.map (fun (p : Nat × Rx) => (p.1, { p.2 with out := false, active := false, settling := false }))
    mon := []
    ctl := { s1.ctl with mbxReady := false } }

/-- A temperature sample (R415 to R417, R422; range and missing checks of R393). -/
def sampleTemp (x : Option Int) (s : State) : State :=
  match x with
  | none =>
    let s1 := safeUpd (fun u => { u with missing := u.missing + 1 }) s
    if 4 ≤ s1.safe.missing then implausible s1 else s1
  | some t =>
    let s1 := pwrUpd (fun p => { p with hot := if 2000 ≤ t then p.hot + 1 else 0 }) (sampleTaken t s)
    let same := decide (s.safe.sameVal = t) && decide (0 < s.safe.sameCnt)
    let s2 := safeUpd (fun u => { u with
      missing := 0, sameVal := t, sameCnt := if same then u.sameCnt + 1 else 1
      sameInf := if same then u.sameInf else [] }) s1
    let s3 := if sampleWild t then implausible s2 else s2
    let s4 := bandDecide t s3
    let s5 := if 4 ≤ s4.pwr.hot ∧ s4.pwr.shutAt.isNone then
        decideCause 22 0 (twos 16 t) (pwrUpd (fun p => { p with shutAt := some s4.up }) s4)
      else s4
    if t < 1760 then coolSample s5 else s5

end Sys2Proof.Machine
end

