-- ==== Sys2Proof/Machine/SwitchOps.lean ====
section
/-! DEFINITION. The TSN switch (ch. 13): gate schedules, filters and meters, 802.1CB recovery, learning and forwarding,
and what the device itself receives. -/

namespace Sys2Proof.Machine

/-- Change the switch. -/
def swUpd (f : Sw → Sw) (s : State) : State := { s with sw := f s.sw }

/-! ### Gate schedules (R364, R367) -/

/-- Interval i of a list takes effect on a port at its start: its gates; hold stands through a C0 window on a port with
preemption, and a preemptable frame still on the line was suspended 200 ns before it (R364, R372; log entry 60). -/
def gateEnter (p : Nat) (l : GateList) (i : Nat) (start : Int) (s : State) : State :=
  let e := (gateTimes l).getD i (255, 0, 0)
  let s1 := if c0Gates e.1 then holdCut p start s else s
  portServe p (portUpd p (fun x => { x with
    gateIdx := i, gateEnd := start + (e.2.2 : Int), gatesOpen := e.1, hold := x.preempt && c0Gates e.1 }) s1)

/-- The administrative list becomes operational at its cycle start. -/
def gateApply (p : Nat) (s : State) : State :=
  match (portGet s p).admin with
  | none => s
  | some l =>
    let start := cycleStart l (schedT s p)
    gateEnter p l 0 start (portUpd p (fun x => { x with oper := some l, admin := none }) (reachSched p start s))

/-- The interval in force ends at its time: the next entry's gates take effect. -/
def gateNext (p : Nat) (s : State) : State :=
  match (portGet s p).oper with
  | none => s
  | some l =>
    let x := portGet s p
    gateEnter p l ((x.gateIdx + 1) % max 1 (gateTimes l).length) x.gateEnd (reachSched p x.gateEnd s)

/-! ### Stream filters and meters (802.1Qci, R364) -/

/-- The VLAN of a frame: 0 untagged. -/
def frameVid (f : EthFrame) : Nat := match f.vlan with
  | some (v, _) => v
  | none => 0

/-- The PCP of a frame: 0 untagged. -/
def framePcp (f : EthFrame) : Nat := match f.vlan with
  | some (_, p) => p
  | none => 0

/-- A valid filter matches a frame's port, source address and VLAN. -/
def filterHit (s : State) (p : Nat) (f : EthFrame) (i : Nat) : Bool :=
  let w := cfgW s .filter i 0
  bitOf w 1 && (fld w 3 2).testBit p && fld w 63 16 == f.srcMac && fld w 15 4 == frameVid f

/-- The filter of a frame: the first that matches. -/
def filterOf (s : State) (p : Nat) (f : EthFrame) : Option Nat := (List.range 128).find? (filterHit s p f)

/-- The service data unit of a frame: without addresses, type, tag and FCS (log entry 61). -/
def frameSdu (f : EthFrame) : Nat := f.bytes.length - 18 - (if f.vlan.isSome then 4 else 0)

/-- A frame passes its filter: the size check, which blocks its stream, and the flow meter (log entry 61). -/
def filterPass (i : Nat) (f : EthFrame) (s : State) : Bool × State :=
  let w := cfgW s .filter i 1
  let m := tabGet {} s.sw.meters i
  let put := fun (x : Meter) => swUpd (fun v => { v with meters := tabSet {} v.meters i x }) s
  if m.blocked then (false, s)
  else if fld w 63 48 ≠ 0 ∧ fld w 63 48 < frameSdu f then (false, put { m with blocked := true })
  else if fld w 31 0 = 0 then (true, s)
  else
    let cap := fld w 47 32 * 512 * fineMs
    let have_ := if m.primed then min cap (m.tokens + (s.up - m.at_) * fld w 31 0) else cap
    let need := f.bytes.length * 8 * fineMs
    if need ≤ have_ then (true, put { m with tokens := have_ - need, at_ := s.up, primed := true })
    else (false, put { m with tokens := have_, at_ := s.up, primed := true })

/-! ### 802.1CB recovery (R364) -/

/-- The recovered stream of a frame. -/
def recoverOf (s : State) (f : EthFrame) : Option Nat :=
  (List.range 64).find? (fun i =>
    let w := cfgW s .cb i 0
    bitOf w 3 && bitOf w 2 && fld w 63 16 == f.srcMac && fld w 15 4 == frameVid f)

/-- Vector recovery of a sequence number with a history length (802.1CB; log entry 62): accepted or discarded. -/
def vectorRecover (len n : Nat) (c : CbRun) : Bool × CbRun :=
  if c.takeAny then (true, { c with takeAny := false, high := n, hist := 1 })
  else
    let d := signed 16 ((n + 65536 - c.high) % 65536)
    if (len : Int) ≤ (d.natAbs : Int) then (false, c)
    else if d ≤ 0 then
      if c.hist.testBit d.natAbs then (false, c) else (true, { c with hist := c.hist ||| 2 ^ d.natAbs })
    else (true, { c with high := n, hist := (c.hist * 2 ^ d.natAbs ||| 1) % 2 ^ len })

/-- A frame passes recovery; a frame without an R-TAG is not recovered. -/
def recoverPass (f : EthFrame) (s : State) : Bool × State :=
  match recoverOf s f, f.rtag with
  | some i, some n =>
    let r := vectorRecover (fld (cfgW s .cb i 1) 63 56) n (tabGet {} s.sw.cb i)
    (r.1, swUpd (fun v => { v with cb := tabSet {} v.cb i { r.2 with at_ := if r.1 then s.up else r.2.at_ } }) s)
  | some _, none => (true, s)
  | none, _ => (true, s)

/-! ### Forwarding -/

/-- The source address of a frame is learned (R364): newest first, 4,096 entries. -/
def learn (p : Nat) (f : EthFrame) (s : State) : State :=
  swUpd (fun v => { v with macs := ((f.srcMac, frameVid f, p) ::
    v.macs.filter (fun e => !(e.1 == f.srcMac && e.2.1 == frameVid f))).take 4096 }) s

/-- A frame goes out by a port: the egress queue that PCP_MAP gives it, the level that ADMIT gives that queue (R369). -/
def forward (p : Nat) (f : EthFrame) (s : State) : State :=
  if (portGet s p).link then
    let q := cfgF s .port p 0 (3 * framePcp f + 22) (3 * framePcp f + 20)
    egressPut p q { len := f.bytes.length, cls := cfgF s .port p 0 (2 * q + 7) (2 * q + 6), bytes := f.bytes } s
  else s

/-- RESET_MS after the last frame that recovery accepted, the next is taken whatever its number (R364, R365). -/
def cbReset (i : Nat) (s : State) : State :=
  let s1 := reachUp ((tabGet {} s.sw.cb i).at_ + cfgF s .cb i 1 55 40 * fineMs) s
  swUpd (fun v => { v with cb := tabUpd {} v.cb i (fun c => { c with takeAny := true, hist := 0 }) }) s1

/-- The broadcast address. -/
abbrev bcast : Nat := 2 ^ 48 - 1

/-- A frame carries DEV_VID, or no tag where DEV_VID is 0 (R366). -/
def vidOk (s : State) (f : EthFrame) : Bool :=
  match f.vlan with
  | none => devVid s == 0
  | some (v, _) => devVid s != 0 && v == devVid s

/-- Some valid filter with CTRL_ALLOW matches a frame (R366). -/
def ctrlAllowed (s : State) (p : Nat) (f : EthFrame) : Bool :=
  (List.range 128).any (fun i => filterHit s p f i && bitOf (cfgW s .filter i 0) 0)

/-- A datagram addressed to DEV_MAC that the device accepts (R366). -/
def devAccepts (s : State) (p : Nat) (f : EthFrame) : Bool :=
  match f.udp with
  | none => false
  | some (ip, port) =>
    decide (devIp s ≠ 0) && ip == devIp s && vidOk s f
      && (port == cfgF s .ctrlPort 0 0 15 0 || port == cfgF s .stream 0 0 15 0)
      && (!bitOf (cfgW s .port 2 1) 31 || ctrlAllowed s p f)

/-- A frame dropped by filters, meters or R366. -/
def qciDrop (p : Nat) (s : State) : State := portUpd p (fun x => { x with qciDrops := satAdd 32 x.qciDrops 1 }) s

/-- The ARP responder's answer leaves by the port of arrival (log entry 63). -/
def arpReply (p : Nat) (f : EthFrame) (s : State) : State :=
  egressPut p (cfgF s .port p 0 46 44) { len := 64, cls := 3, info := .arp f.srcMac } s

/-- An ARP request for the device's address. -/
def arpForUs (s : State) (f : EthFrame) : Bool := decide (f.arpFor = some (devIp s) ∧ devIp s ≠ 0)

/-- A frame for P2 is admitted at the level that the port of arrival gives its PCP (R369; log entry 125). -/
def admitP2 (s : State) (p : Nat) (f : EthFrame) : Bool :=
  let q := cfgF s .port p 0 (3 * framePcp f + 22) (3 * framePcp f + 20)
  decide (poolFill s < poolLimit (cfgF s .port p 0 (2 * q + 7) (2 * q + 6)))

/-- A frame refused for P2 (R369). -/
def p2Drop (s : State) : State := portUpd 2 (fun x => { x with admitDrops := satAdd 32 x.admitDrops 1 }) s

/-- An ARP request for the device passes to P2. -/
def arpTake (p : Nat) (f : EthFrame) (s : State) : State :=
  if !arpForUs s f then s else if admitP2 s p f then arpReply p f s else p2Drop s

/-- A frame addressed to the device (R366, R369), and whether the device accepts it as a datagram. -/
def deliver (p : Nat) (f : EthFrame) (s : State) : Bool × State :=
  if arpForUs s f then (false, arpTake p f s)
  else if !admitP2 s p f then (false, p2Drop s)
  else if devAccepts s p f then (true, s)
  else (false, qciDrop p s)

/-- A frame that is not the device's goes to the port learned for its address, or is flooded to the other port. -/
def bridge (p : Nat) (f : EthFrame) (s : State) : State :=
  let dest := if f.dstMac = bcast then none
    else (s.sw.macs.find? (fun e => e.1 == f.dstMac && e.2.1 == frameVid f)).map (fun e => e.2.2)
  let s1 := arpTake p f s
  if dest = some p then s1 else forward (1 - p) f s1

/-- A frame arrives on an external port: filtered, metered, recovered and learned, then the device's or bridged. The
answer says whether the device accepts it as a datagram (R364, R366). -/
def frameRx (p : Nat) (f : EthFrame) (s : State) : Bool × State :=
  if !(portGet s p).link then (false, s)
  else
    let a := match filterOf s p f with
      | some i => filterPass i f s
      | none => (true, s)
    if !a.1 then (false, qciDrop p a.2)
    else
      let b := recoverPass f a.2
      if !b.1 then (false, portUpd p (fun x => { x with cbDiscards := satAdd 32 x.cbDiscards 1 }) b.2)
      else
        let s1 := learn p f b.2
        if f.dstMac = devMac s1 then deliver p f s1 else (false, bridge p f s1)

/-- A datagram arrives in a frame for one of the device's ports: where the device accepts it there, it acts (R366). -/
def datagramRx (p : Nat) (f : EthFrame) (port : Nat) (act : State → State) (s : State) : State :=
  let r := frameRx p f s
  if r.1 && f.udp.map (fun u => u.2) == some port then act r.2 else r.2

/-! ### The datagram in a frame's bytes (log entry 141) -/

/-- The bytes of a frame from its IPv4 header on: after the addresses and the type, the VLAN tag and the R-TAG. -/
def ipBytes (f : EthFrame) : List Nat :=
  f.bytes.drop (14 + (if f.vlan.isSome then 4 else 0) + (if f.rtag.isSome then 6 else 0))

/-- n bytes of a frame's IPv4 and UDP headers, most significant byte first. -/
def ipField (f : EthFrame) (at_ n : Nat) : Nat := ofLe (((ipBytes f).drop at_).take n).reverse

/-- The sender of a datagram: address and port of its headers. -/
def udpSender (p : Nat) (f : EthFrame) : UdpSrc :=
  { ip := ipField f 12 4, port := ipField f 20 2, swPort := p, mac := f.srcMac }

/-- The UDP payload of a datagram as words and the bytes left over. -/
def udpPayload (f : EthFrame) : UdpData :=
  let b := ((ipBytes f).drop 28).take (ipField f 24 2 - 8)
  { words := (chunks 8 191 (b.take (b.length / 8 * 8))).map (fun c => BitVec.ofNat 64 (ofLe c))
    tail := (b.drop (b.length / 8 * 8)).map (BitVec.ofNat 8) }

/-! ### 802.1AS (R364; log entry 65) -/

/-- 802.1AS runs on a port. -/
def asOn (s : State) (p : Nat) : Bool := (portGet s p).link && cfgF s .time p 0 63 63 == 1

/-- DOMAIN_NUM: the device's one gPTP domain (R364, Table 9 of ch. 13). -/
def gptpDomain (s : State) : Nat := cfgF s .time 2 0 63 56

/-- gPTP time less device time at the last sync, in ns to the nearest (R455), on a port that runs 802.1AS (Table 12 of
ch. 13). -/
def syncOfs (t : Nat) (p : Nat) (s : State) : State :=
  if asOn s p && (portGet s p).asCapable then
    portUpd p (fun x => { x with gptpOfs := rndDiv ((t : Int) * fineNs - s.now) fineNs }) s
  else s

/-- A message of 802.1AS enters the egress queue of C1 (log entry 65). -/
def gptpFrame (p : Nat) (i : FrameInfo) (s : State) : State :=
  egressPut p (cfgF s .port p 0 52 50) { len := 64, cls := 1, info := i } s

/-- A device time in ns, to the nearest: the resolution of the timestamps (R364). -/
def stampNs (t : Int) : Int := rndDiv t fineNs

/-- A message is received and time-stamped; one of another domain is not the device's. A sync tells both ports of the
bridge the time; a peer's delay request is answered. -/
def gptpRx (p : Nat) (msg : GptpMsg) (s : State) : State :=
  if !asOn s p then s
  else match msg with
    | .pdelayReq => gptpFrame p (.pdelayResp (stampNs s.now)) s
    | .pdelay ns => schedBoth (portUpd p (fun x => { x with
        propDelay := ns, asCapable := decide (ns ≤ cfgF s .time p 0 62 47) }) s)
    | .sync d t => if d = gptpDomain s ∧ (portGet s p).asCapable = true then syncOfs t (1 - p) (syncOfs t p s) else s
    | .announce d g =>
      if d = gptpDomain s ∧ (portGet s p).asCapable = true then schedBoth (portUpd p (fun x => { x with gmKnown := g }) s)
      else s

/-- An interval given as a signed log2 of seconds, in fine units. -/
def logInterval (v : Nat) : Nat :=
  let k := signed 4 v
  if 0 ≤ k then 1000 * fineMs * 2 ^ k.toNat else 1000 * fineMs / 2 ^ k.natAbs

/-- The sync of a grandmaster known behind one port is relayed by the other: the device is never grandmaster itself. -/
def relaysSync (s : State) (p : Nat) : Bool :=
  (portGet s p).asCapable && (portGet s (1 - p)).asCapable && (portGet s (1 - p)).gmKnown

/-- A sync or peer-delay interval expires. -/
def gptpTx (p : Nat) (pdelay : Bool) (s : State) : State :=
  let x := portGet s p
  if !asOn s p then s
  else if pdelay then
    let s1 := reachUp (x.pdelays + logInterval (cfgF s .time p 0 42 39)) s
    gptpFrame p .pdelay (portUpd p (fun y => { y with pdelays := s1.up }) s1)
  else if relaysSync s p then
    let s1 := reachUp (x.syncs + logInterval (cfgF s .time p 0 46 43)) s
    gptpFrame p (.sync (gptpDomain s)) (portUpd p (fun y => { y with syncs := s1.up }) s1)
  else s

/-- The follow-up of a message that has left, with the time at which it did (R364: two-step transmit). -/
def followUp (p : Nat) (f : Frame) (s : State) : State :=
  let t := s.now - ((s.up : Int) - f.began)
  match f.info with
  | .sync d => gptpFrame p (.followUp d (stampNs (t + (portGet s (1 - p)).gptpOfs * fineNs))) s
  | .pdelayResp _ => gptpFrame p (.pdelayFollow (stampNs t)) s
  | .followUp _ _ => s | .pdelay => s | .pdelayFollow _ => s | .transit => s | .udp _ => s | .arp _ => s

/-! ### Transmission and link -/

/-- The frame on the line of a port has left, when its bytes, preamble and gap have had their time; one that hold has
suspended before has not (R372). -/
def frameSent (p : Nat) (s : State) : State :=
  let x := portGet s p
  match x.sending with
  | none => s
  | some (_, f) =>
    let s1 := holdFor p (reachUp (x.sendAt + lineTime (f.len - x.sentB + 20)) s)
    if (portGet s1 p).sending.isNone then s1
    else portServe p (followUp p f (out (.frame p f) (portUpd p (fun y => { y with sending := none, tx := satAdd 64 y.tx 1 }) s1)))

/-- The link of a port changes (R368): it comes up on a port that is on while the NPLL is locked. -/
def linkChange (p : Nat) (up : Bool) (s : State) : State :=
  if up then
    if (portGet s p).link ∨ cfgF s .port p 0 63 62 = 0 ∨ !s.tb.npll.lock then s
    else
      let (b, s1) := drawBool s
      portServe p (portUpd p (fun x => { x with link := true, preempt := cfgF s .port p 0 61 61 == 1 && b }) s1)
  else if (portGet s p).link then portDown p s else s

end Sys2Proof.Machine
end

