-- ==== Sys2Proof/Machine/ClockOps.lean ====
section
/-! DEFINITION. The timebase's events in their parts (ch. 02): lock windows, loss and return of references, frequency
supervision, phase jumps and quiet intervals; and a member's hops and links (ch. 10). -/

namespace Sys2Proof.Machine

/-- Change the timebase. -/
def tbUpd (f : Tb → Tb) (s : State) : State := { s with tb := f s.tb }

/-- Change the team link. -/
def teamUpd (f : Team → Team) (s : State) : State := { s with team := f s.team }

/-! ### Lock windows (R39, R40, R55, R58) -/

/-- A window of the TPLL ends: lock, loss of lock, or the judgement of a returned reference. The loop word moves while
the loop is not frozen; `loop` is its mean over the 1,024 updates of the window (log entry 103). Where lock is lost with the
reference present, its last good edge is taken at the end of the window that failed (R40, R55; DESIGN CHOICE, log entry
154). -/
def tpllWindow (count : Nat) (phase : Int) (loop : Nat) (s : State) : State :=
  let e := lockExp (refHz s)
  let lockBy := fun (st : State) =>
    let n := if within count e 2 then st.tb.good + 1 else 0
    if n = 4 then romLocked (declareLock phase st) else tbUpd (fun t => { t with good := n }) st
  let moved := tbUpd (fun t => { t with loopWord := loop % 1024 }) s
  if !s.tb.refPresent then s
  else if s.tb.judging then
    if within count e 8 then tbUpd (fun t => { t with judging := false, refBad := false, st := .reacquire, good := 0 }) s
    else tbUpd (fun t => { t with refBad := true }) s
  else match s.tb.st with
    | .acquire => lockBy moved
    | .reacquire => lockBy moved
    | .locked => if within count e 8 then moved else goCoast 0 (some loop) s
    | .slewing => if within count e 8 then moved else goCoast 0 (some loop) s
    | .reset => s
    | .search => s
    | .coast => s
    | .fault => s

/-- A window of the SPLL or the NPLL (R40, R453): the loop after it, and whether it has just locked. -/
def pllWindow (e count : Nat) (x : Pll) : Pll × Bool :=
  if x.lock then
    if within count e 8 then (x, false) else ({ lock := false, good := 0, coast := true }, false)
  else if within count e 2 then
    if x.good + 1 = 4 then ({ lock := true, good := 0, coast := false }, true) else ({ x with good := x.good + 1 }, false)
  else ({ x with good := 0 }, false)

/-- The switch ports are down while the NPLL is not locked (R368). -/
def nplLost (s : State) : State := if s.tb.npll.lock then s else portDown 1 (portDown 0 s)

/-- A window of a loop on SD_REFCLK; the first SPLL lock starts the boot ROM. -/
def sdWindow (pll count : Nat) (s : State) : State :=
  if !s.tb.sdPresent then s
  else if pll = 1 then
    let r := pllWindow (sdExp 1) count s.tb.spll
    let s1 := tbUpd (fun t => { t with spll := r.1 }) s
    if r.2 then romKick s1 else s1
  else
    let r := pllWindow (sdExp 2) count s.tb.npll
    nplLost (tbUpd (fun t => { t with npll := r.1 }) s)

/-- SD_REFCLK is lost: both loops coast on frozen words, unlocked (R63). -/
def sdLoss (s : State) : State :=
  let f := fun (x : Pll) => { x with lock := false, good := 0, coast := x.coast || x.lock : Pll }
  nplLost (tbUpd (fun t => { t with sdPresent := false, spll := f t.spll, npll := f t.npll }) s)

/-! ### The reference (R41, R55, R58) -/

/-- The reference counts present. -/
def refHere (s : State) : State :=
  if s.tb.refPresent then s
  else tbUpd (fun t =>
    let t1 := { t with refPresent := true, good := 0 }
    match t.st with
    | .reset => { t1 with st := .search }
    | .fault => { t1 with st := .reacquire, judging := true }
    | .coast => { t1 with judging := true }
    | .search => t1 | .acquire => t1 | .locked => t1 | .reacquire => t1 | .slewing => t1) s

/-- A gap of 2 µs is a loss, the last edge `ago` fine units back and `mean` the mean of the loop word's last 1,024
updates: coast from lock; a coast that was about to end goes on; a start-up waits again. -/
def refGone (ago mean : Nat) (s : State) : State :=
  let s1 := tbUpd (fun t => { t with refPresent := false, good := 0, judging := false }) s
  if !s.tb.refPresent then s
  else match s.tb.st with
    | .locked => goCoast ago (some mean) s1
    | .slewing => goCoast ago (some mean) s1
    | .reacquire =>
      let m := if s.tb.judging then s.tb.loopWord else mean
      if s.tb.holdAt.isSome then freezeLoop (some m) (tbUpd (fun t => { t with st := .coast }) s1)
      else tbUpd (fun t => { t with lastGood := min t.lastGood s.tb.lastGood }) (goCoast ago (some m) s1)
    | .acquire => tbUpd (fun t => { t with st := if s.tb.epochSet then .search else .reset }) s1
    | .search => if s.tb.epochSet then s1 else tbUpd (fun t => { t with st := .reset }) s1
    | .reset => s1
    | .coast => s1
    | .fault => s1

/-- A search completes: the loop acquires (R42). -/
def searchDone (band loop : Nat) (s : State) : State :=
  if s.tb.st == .search && s.tb.refPresent then
    tbUpd (fun t => { t with st := .acquire, vcoBand := band, bandSlot := 15, loopWord := loop % 1024, good := 0 }) s
  else s

/-- No lock 5 ms after a re-acquiring command: a band search starts, and the command ends with NOT_LOCKED (R37, R333). -/
def reacqLate (s : State) : State :=
  match s.tb.reacqAt with
  | some t =>
    let s1 := tbUpd (fun x => { x with reacqAt := none }) (reachUp (t + 5 * fineMs) s)
    bgDone 1 true stNotLocked [] (bandSearch s1)
  | none => s

/-! ### Frequency supervision (R53, R54, R388) -/

/-- Ticks expected over a window of W = floor (10 µs × REF_FREQ_HZ) reference cycles (R53), to the nearest whole tick,
which the test of 1,000 ppm then takes (DESIGN CHOICE, log entry 140). -/
def freqExp (hz : Nat) : Nat := (rndDiv ((hz / 100000 * 2000000000 : Nat) : Int) hz).toNat

/-- A supervision count is judged (log entry 19); one that differs too much is a fault, whether or not one stands. -/
def freqJudge (count e : Nat) (s : State) : State :=
  if s.tb.epochSet ∧ ppmOver count e then freqFault (errPpm count e) s else s

/-- A period of fine units lies outside 25 µs to 40 µs. -/
def aonOut (p : Nat) : Bool := decide (p < 25 * fineUs) || decide (40 * fineUs < p)

/-- An AON period ends: calibration, and the check of four in a row (R54, R388). -/
def aonPeriod (p : Nat) (s : State) : State :=
  if !tpllLocked s then s
  else
    let l := (s.tb.aonHist ++ [p]).drop (s.tb.aonHist.length - 64)
    let s1 := tbUpd (fun t => { t with aonHist := l, aonCal := aonMean (aonLast l), aonAt := s.up }) s
    if aonOut p then
      let s2 := tbUpd (fun t => { t with aonBad := t.aonBad + 1, aonGood := 0 }) s1
      if s.tb.aonBad + 1 = 4 then decideCause 11 0 (rndDiv ((p * 500 : Nat) : Int) 4096).toNat s2 else s2
    else
      let s2 := tbUpd (fun t => { t with aonBad := 0, aonGood := min 64 (t.aonGood + 1) }) s1
      if 63 ≤ s.tb.aonGood then causeGone 11 s2 else s2

/-! ### Phase jumps (R454, R282, R283) -/

/-- More than 50 ps, in fine units. -/
def over50ps (d : Int) : Bool := decide (50 * 4096 < d.natAbs * 500)

/-- Nothing happens in the next 200 ns (R47): no tile has a window open, no edge is launched, no update is placed. -/
def quietNow (s : State) : Bool :=
  let soon := s.now + 200 * fineNs
  !zeroOpen s &&
  s.tile.all (fun p => p.2.cur.isNone && p.2.shots.all (fun e => e.judge != .acquired || decide (soon ≤ e.preAt)))
    && s.em.all (fun p => p.2.vols.all (fun v => v.dead ||
        ((edgesOf s v.pulses).drop v.launched).all (fun u => decide (soon ≤ launchAt s p.1 u))))
    && s.pb.links.all (fun p => p.2.words.all (fun w => decide (soon ≤ w.at_)))

/-- A change at an edge is the step that a held notice announces: Δ ± 50 ps (R282). -/
def announced (d : Int) (s : State) : Bool :=
  match s.team.stepDelta with
  | some x => !over50ps (x - d)
  | none => false

/-- A jump on a follower (R282, R283): captured, and a step of the announced Δ, or of the change where none is announced,
which is counted; applied at once in a quiet interval, else at the next frame boundary, the pixels TEAM_STALE until
then. The notice is no longer held after a jump that differs from it: the spec says neither (R283; DESIGN CHOICE, log
entry 138). -/
def followerJump (d : Int) (s : State) : State :=
  let step := if announced d s then s.team.stepDelta.getD d else d
  let s1 := if announced d s then s
    else decideCause 27 (devNum s) (twos 48 (watchDev s)) (teamUpd (fun t => { t with unannounced := satAdd 16 t.unannounced 1 }) s)
  let s2 := { s1 with
    tb := { s1.tb with phaseOfs := wrapPhase (refHz s) (s.tb.phaseOfs + d), stepWait := some (s.tb.stepWait.getD 0 + step) }
    team := { s1.team with stepDelta := none } }
  if stepsNow s2 || quietNow s2 then captureStep s2
  else markTeamStale (teamUpd (fun t => { t with stepPending := true, staleAt := some (t.staleAt.getD s2.now) }) s2)

/-- An edge of the reference moves by d while locked. -/
def phaseJump (d : Int) (s : State) : State :=
  if !tpllLocked s then s
  else if isFollower s && (over50ps d || announced d s) then followerJump d s
  else if !over50ps d then s
  else
    let p := wrapPhase (refHz s) (s.tb.phaseOfs + d)
    tbUpd (fun t => { t with
      phaseOfs := p
      slewAt := if followMode s && t.st != .slewing then s.now else t.slewAt
      st := if !followMode s then t.st else if p = 0 then .locked else .slewing }) s

/-! ### Quiet intervals (R47, R155, R199, R251, R457) -/

/-- What waits for a frame's quiet interval is applied. -/
def quietFrame (s : State) : State :=
  let s1 := if s.cal.loadedAt.isSome then calStep s else s
  phaseSteps (bndTake (bndDue (boundaryNow s1)) s1)

/-- A quiet interval begins; `frame` tells that it lies between the windows of two frames. -/
def quietStart (frame : Bool) (s : State) : State :=
  if isIdle s then (if zeroOpen s then s else slewStep (phaseSteps s))
  else if !quietNow s then s
  else slewStep (if frame then quietFrame s else s)

/-- A rising edge on HUDDLE_IN (R45, R281). Before the first epoch after reset the edge does nothing: the spec says
neither what a restart of gated dividers is nor that it sets the epoch (DESIGN CHOICE, log entry 106). -/
def huddleEdge (s : State) : State :=
  if cfgF s .mode 0 0 3 3 = 0 ∨ !s.tb.epochSet then s
  else if stepsNow s then huddle s
  else
    let s2 := tbUpd (fun t => { t with restart := true }) s
    if isFollower s2 && !isIdle s2 then
      decideCause 26 (devNum s2) (devNum s2) (teamUpd (fun t => { t with huddleRunning := satAdd 16 t.huddleRunning 1 }) s2)
    else s2

/-- HUDDLE_OUT is driven (R279): by a chain follower after its restart; by the master, which restarts with its team,
AUTO_CAL following 1 ms later (R280). The master never sends a Huddle while running (R281): one due then lapses (log
entry 107); one due in a window of CAL.ZERO waits for its end (R263; log entry 83). -/
def huddleDrive (s : State) : State :=
  match s.team.huddleAt with
  | none => s
  | some t =>
    if zeroOpen (reachUp t s) && isMaster s && isIdle s then reachUp t s
    else
    let s1 := teamUpd (fun x => { x with huddleAt := none }) (reachUp t s)
    if !isMaster s1 then out .huddleOut s1
    else if !isIdle s1 then s1
    else
      let s2 := huddle (out .huddleOut s1)
      if cfgF s2 .team 0 0 60 60 = 1 then teamUpd (fun x => { x with autoCalAt := some (s2.up + fineMs) }) s2 else s2

/-! ### Bands (R42) -/

/-- The words in force of TB_TPLL_CFG replaced by hardware (log entry 17). -/
def putTpll (w : Word) (s : State) : State := { s with cfg := cfgPutIn s.fact.mac s.cfg .tpll 0 [w] }

/-- The current band, fraction, reference and loop word go into a slot. -/
def bandStore (slot : Nat) (s : State) : State :=
  let w := cfgW s .tpll 0 0
  let b : BandSlot := { band := s.tb.vcoBand, frac := fracNow s, refSel := fld w 29 28, loopWord := s.tb.loopWord }
  tbUpd (fun t => { t with slots := tabPut t.slots slot b }) s

/-- A slot is loaded and the loop re-locks from its word. -/
def bandHop (slot : Nat) (s : State) : State :=
  let x := tabGet {} s.tb.slots slot
  tbUpd (fun t => { t with st := .reacquire, good := 0, judging := false, lockAt := none, bandSlot := slot
                           vcoBand := x.band, loopWord := x.loopWord, fracHop := some x.frac, reacqAt := some s.up })
    (putTpll (setFld (cfgW s .tpll 0 0) 29 28 x.refSel) s)

/-! ### Hops and team messages (R270 to R285) -/

/-- TEAM_LINK is gone with the team formed and every hop up (Table 1 of ch. 14). -/
def teamLinkGone (s : State) : State := if s.team.formed && hopsUp s then causeGone 26 s else s

/-- The member that a hop of this device leads into. -/
def hopMember (s : State) (up : Bool) : Nat := if up then devNum s else devNum s + 1

/-- HOP_UP of a hop as this device sees it. The bits of hops that are not its own stay 0: no message of Table 3 of ch. 10
reports them (R286; DESIGN CHOICE, log entry 177). -/
def hopMask (m : Nat) (on : Bool) (x : Nat) : Nat := if on then x ||| 2 ^ m else x - (x &&& 2 ^ m)

/-- A hop goes down (R274). Without TEAM_EN the channel is not watched and its bits stand (DESIGN CHOICE, log entry 139). -/
def hopLost (up : Bool) (s : State) : State :=
  let was := if up then s.team.uplink else s.team.downlink
  let m := hopMember s up
  if !teamEn s || !was then s
  else decideCause 26 m m (teamUpd (fun t => { t with
    uplink := t.uplink && !up, downlink := t.downlink && up, hopUp := hopMask m false t.hopUp
    linkDrops := satAdd 16 t.linkDrops 1 }) s)

/-- A hop recovers (R274; log entry 139). -/
def hopBack (up : Bool) (s : State) : State :=
  if !teamEn s then s
  else teamLinkGone (teamUpd (fun t => { t with
    uplink := t.uplink || up, downlink := t.downlink || !up, hopUp := hopMask (hopMember s up) true t.hopUp }) s)

/-- The hop on a side carries messages (R274). -/
def hopOpen (s : State) (up : Bool) : Bool := if up then s.team.uplink else s.team.downlink

/-- A received message goes on to the other side, where a hop is there and up (R273, R274). -/
def nolgilRelay (fromUp : Bool) (kind : Nat) (vals : List Int) (s : State) : State :=
  if (if fromUp then decide (devNum s < teamSizeM1 s) else decide (0 < devNum s)) && hopOpen s (!fromUp) then
    out (.nolgilRelay (!fromUp) kind vals) s
  else s

/-- A message arrives on a side: relayed and then dealt with; none crosses a hop that is down (R273, R274). -/
def nolgilIn (fromUp : Bool) (kind : Nat) (vals : List Int) (f : State → State) (s : State) : State :=
  if teamEn s && hopOpen s fromUp then f (nolgilRelay fromUp kind vals s) else s

/-- The side that a member's message comes from: the members above a device are upstream (Topology and roles of ch.
10). -/
def sideOf (s : State) (dev : Nat) : Bool := decide (dev < devNum s)

/-- A FORM message (R270): a follower judges the device above it and answers; the master counts the answers. The
identity of a member further up, which the hops between have relayed (R273), is no mismatch (log entry 108). -/
def formMsg (fromUp : Bool) (dev size : Nat) (s : State) : State :=
  if !teamEn s then s
  else if isFollower s then
    if !fromUp || (decide (dev + 1 < devNum s) && size == teamSizeM1 s) then s
    else if dev + 1 = devNum s ∧ size = teamSizeM1 s then
      teamLinkGone (out (.nolgil 0 [devNum s, teamSizeM1 s, s.fact.deviceId]) (teamUpd (fun t => { t with formed := true }) s))
    else decideCause 26 (devNum s) (devNum s) (teamUpd (fun t => { t with formed := false }) s)
  else if fromUp || size != teamSizeM1 s || dev == 0 || decide (teamSizeM1 s < dev) then s
  else
    let l := insBy id dev (s.team.heard.filter (fun x => x != dev))
    teamLinkGone (teamUpd (fun t => { t with heard := l, formed := t.formed || decide (l.length = teamSizeM1 s) }) s)

/-- A STATE message of another member (R284; log entry 110). -/
def stateMsg (dev : Nat) (locked coast idle safe cal : Bool) (cause : Nat) (s : State) : State :=
  if !teamEn s || dev == devNum s then s
  else
    let was := s.team.peerSafe.testBit dev
    let s0 := teamUpd (fun t => { t with peerSafe := hopMask dev safe t.peerSafe, peerCoast := hopMask dev coast t.peerCoast
                                         peerIdle := hopMask dev idle t.peerIdle
                                         peerLock := hopMask dev locked t.peerLock
                                         peerCal := hopMask dev cal t.peerCal }) s
    let s1 := if pathCoast s0 && !pathCoast s then markTeamCoast s0
      else if pathCoast s && !pathCoast s0 then teamUpd (fun t => { t with coastEnd := s.now }) s0 else s0
    if safe && !was then decideCause 28 dev cause s1
    else if s1.team.peerSafe = 0 then causeGone 28 s1 else s1

/-- Twice the hop estimate of an exchange, in fine units: (w1 − a0) − (a3 − w2), less twice the factory constant for
driver and receiver asymmetry of the hop (R275). -/
def hopTwice (asym : Int) (x : Stamps) : Int := (x.w1 - x.a0) - (x.a3 - x.w2) - 2 * asym

/-- The asymmetry constant of the hop into a member, where it is one of this device's two hops; the stamps of other hops
come with theirs taken off by the devices there (R275; log entry 109). -/
def hopAsym (s : State) (member : Nat) : Int :=
  if member = devNum s then tabGet 0 s.fact.asym 0 else if member = devNum s + 1 then tabGet 0 s.fact.asym 1 else 0

/-- A skew-watch exchange on the upstream hop (R275, R278): the mean of the last 1,024 against the hop's reference. -/
def watchHop (x : Stamps) (s : State) : State :=
  let s1 := teamUpd (fun t => { t with watch := (hopTwice (hopAsym s (devNum s)) x :: t.watch).take 1024 }) s
  let far := s1.team.watchHas && watchFar s1
  if far && !s.team.watchAlarm then
    let s2 := teamUpd (fun t => { t with watchAlarm := true, skewCount := satAdd 16 t.skewCount 1 }) s1
    decideCause 27 (devNum s) (twos 48 (watchDev s1)) s2
  else if far then s1 else causeGone 27 (teamUpd (fun t => { t with watchAlarm := false }) s1)

/-- A value staged for the next Huddle (R279; log entry 66). -/
def stageEpoch (e : Nat) (s : State) : State :=
  { s with cfg := cfgPutIn s.fact.mac s.cfg .epoch 0 [w36 e, w36 (e / 2 ^ 36)] }

/-- Other members are idle as last reported. -/
def teamIdle (s : State) : Bool := (upTo 1 (teamSizeM1 s)).all (fun d => s.team.peerIdle.testBit d)

end Sys2Proof.Machine
end

