-- ==== Sys2Proof/Machine/WinOps.lean ====
section
/-! DEFINITION. Timed events and lost events (ch. 05, ch. 06), shot windows, and the event recorder's parts. -/

namespace Sys2Proof.Machine

/-! ### A timed event (R143, R165, R171, R180; log entry 73) -/

/-- The time is in the dead time of a channel's last event (R165). -/
def inDead (x : Chan) (t : Int) : Bool :=
  match x.lastEvt with
  | some l => decide (t < l + 4 * fineNs)
  | none => false

/-- The acquired shots of a tile that are open or to come. -/
def acquiredOf (x : Tile) : List ShotEnt := x.cur.toList ++ x.shots.filter (fun e => e.judge == .acquired)

/-- The shot whose post-window holds a time. -/
def postShot (x : Tile) (t : Int) : Option ShotEnt :=
  (acquiredOf x).find? (fun e => decide (e.origin ≤ t) && decide (t < e.origin + e.l * 4096))

/-- The shot whose pre-window holds a time. -/
def preShot (x : Tile) (t : Int) : Option ShotEnt :=
  (acquiredOf x).find? (fun e => decide (e.preAt ≤ t) && decide (t < e.origin))

/-- An event as it enters qualification, with its window and the times its histogram and its record count from. -/
def eventOf (s : State) (ch : Nat) (t : Int) (high : Bool) (ecc : Nat) : PendEv :=
  let ti := ch / 16
  let x := tileGet s ti
  let base : PendEv := { c := ch % 16, t := t, high := high, bufB := (chanGet s ch).accB, ecc := ecc
                         rt := (t - x.rcd.refAt) / 64, rtag := x.rcd.refTag, pile := (chanGet s ch).pileMark
                         rxw := rxWord s ch, tileW := rxTileWord s ti, coinW := coincWord s ti, recW := cfgW s .rcd ti 0
                         wait := eventWait s ch }
  if x.win == .disarmed then base
  else match postShot x t with
  | some e => { base with win := 2, r := (t - e.origin) / 64, tag := e.seq }
  | none =>
    match preShot x t with
    | some e =>
      let o := e.origin - e.p * 4096
      { base with win := 1, tag := e.seq, rtag := e.seq, rt := (t - o) / 64, preBin := ((t - o) / ((e.p / 8 * 4096 : Nat) : Int)).toNat }
    | none => if x.win == .hold && decide (t < x.rearm) then { base with win := 3 } else base

/-- A HIGH event is a trigger on a watched channel (R183). -/
def highTrig (ti c : Nat) (t : Int) (high : Bool) (s : State) : State :=
  if high && (cfgF s .rcd ti 0 36 32).testBit 3 && (cfgF s .rcd ti 1 63 48).testBit c then recTrigger ti 4 0 t s else s

/-- An event counts in its rate window; the first excess of the window is a trigger at the end of its 1 ns cycle
(R183). The spec does not say what counts when a setting changes within a window: events timed before RATE was enabled or
their channel was in TRIG_CH_MASK do not, and a change of RATE_WIN starts the count anew (DESIGN CHOICE, log entry 169). -/
def rateTrig (ti c : Nat) (t : Int) (s : State) : State :=
  if (cfgF s .rcd ti 0 36 32).testBit 4 && (cfgF s .rcd ti 1 63 48).testBit c then
    let ix := t / ((16 * 2 ^ cfgF s .rcd ti 1 35 32 * 4096 : Nat) : Int)
    let r := (tileGet s ti).rcd
    let r1 := if r.rateIdx = ix then r else { r with rateIdx := ix, rateCnt := [], rateHit := false }
    let r2 := { r1 with rateCnt := tabUpd 0 r1.rateCnt c (· + 1) }
    let hit := !r2.rateHit && decide (cfgF s .rcd ti 1 31 16 < tabGet 0 r2.rateCnt c)
    let s1 := recUpd ti (fun _ => { r2 with rateHit := r2.rateHit || hit }) s
    if hit then recTrigger ti 5 0 ((t / 8192 + 1) * 8192) s1 else s1
  else s

/-- A channel that times an event is not silent, and no longer dead (R396). -/
def notDead (ch : Nat) (s0 : State) : State :=
  let s := { s0 with safe := { s0.safe with deadSeen := tabSet 0 s0.safe.deadSeen ch 1 } }
  if s.safe.deadCnt.any (fun p => p.1 == ch) then
    deadPrune { s with safe := { s.safe with deadCnt := tabDel s.safe.deadCnt ch, deadOn := tabDel s.safe.deadOn ch } }
  else s

/-- CAL.LIN has disconnected the channel's comparator from its TDC (R257 step 3). -/
def tdcCut (s : State) (ch : Nat) : Bool := (tileGet s (ch / 16)).calOut && s.cal.kind == 1

/-- RX_EVENT: an assertion of an active channel's timing output, captured in a spread cycle at a raw code. It is timed
unless it falls in the dead time. -/
def rxEvent (ch : Nat) (cycle : Int) (code : Nat) (high : Bool) (ecc : Nat) (s0 : State) : State :=
  let t := tdcTime s0 ch cycle code
  let s := reach t s0
  let x := rxGet s ch
  if tdcCut s ch || !x.active || x.out || !s.tb.epochSet || inDead (chanGet s ch) t then s0
  else
    let high := high && fld (rxWord s ch) 45 45 == 1
    let e := eventOf s ch t high ecc
    let ti := ch / 16
    let s1 := rxOutput ch true t (rxUpd ch (fun y => { y with high := if high then satAdd 32 y.high 1 else y.high }) s)
    let s2 := chanUpd ch (fun y => { y with eventsTimed := satAdd 64 y.eventsTimed 1, pileMark := false, lastEvt := some t }) s1
    let s3 := tileUpd ti (fun y => { y with pend := y.pend ++ [e] }) s2
    notDead ch (rateTrig ti (ch % 16) t (highTrig ti (ch % 16) t high s3))

/-- A lost event of a channel now (R166): counted, and in the window of a pixel too. -/
def pileLost (ch : Nat) (s : State) : State :=
  let x := tileGet s (ch / 16)
  if tdcCut s ch || !(rxGet s ch).active || (rxGet s ch).out || !inDead (chanGet s ch) s.now then s
  else
    let s1 := chanUpd ch (fun y => { y with pileTotal := satAdd 32 y.pileTotal 1, pileMark := true }) (rxOutput ch true s.now s)
    if x.win == .disarmed then s1
    else match postShot x s.now, preShot x s.now with
    | some e, _ => chanUpd ch (fun y =>
        if y.pix.acqSeqs.contains e.seq then { y with pix := { y.pix with pile := satAdd 32 y.pix.pile 1 } } else y) s1
    | none, some _ => chanUpd ch (fun y => { y with prePile := y.prePile + 1 }) s1
    | none, none => s1

/-! ### The recorder (R180 to R189) -/

/-- WIN.DISARM_REC (Table 8; log entry 74). -/
def recDisarm (ti : Nat) (s : State) : State :=
  match (tileGet s ti).rcd.st with
  | .armed => recUpd ti (fun r => { r with st := .disarmed }) s
  | .frozen => recUpd ti (fun r => { r with st := .disarmed }) s
  | .hold => s | .filling => s | .reading => s | .disarmed => s

/-- A tile leaves service: a recorder in HOLD or ARMED disarms (R256). -/
def recCalOff (ti : Nat) (s : State) : State :=
  let st := (tileGet s ti).rcd.st
  if st == .hold || st == .armed then recUpd ti (fun r => { r with st := .disarmed }) s else s

/-- The recorder of a tile writes records: from arming until it freezes. -/
def recWrites (r : Rec) : Bool := r.st == .hold || r.st == .armed || r.st == .filling

/-- 2²⁹ ticks without a newer reference point: the EPOCH marker, whose time is the new one (R180). -/
def recEpoch (ti : Nat) (s : State) : State :=
  let r := (tileGet s ti).rcd
  let t := r.refAt + 2 ^ 41
  if recWrites r then
    recUpd ti (fun x =>
      let y := recRef t x.refTag x
      { y with marks := y.marks ++ [{ kind := 4, t := t, time := some 0x800000000, tag := x.refTag }] }) (reach t s)
  else s

/-- A recorder whose hold-off is over enters ARMED (R182). -/
def recHoldOver (ti : Nat) (s : State) : State :=
  let r := (tileGet s ti).rcd
  if r.st == .hold then
    recUpd ti (fun x => { x with st := .armed }) (reach (r.armDt + cfgF s .rcd ti 0 31 16 * fineUs) s)
  else s

/-- The fill time is over: the recorder freezes (R185). -/
def recTimeout (ti : Nat) (s : State) : State :=
  let r := (tileGet s ti).rcd
  let t := r.trigDt + cfgF s .rcd ti 0 15 0 * fineUs
  if r.st == .filling then recFreeze ti t (reach t s) else s

/-- The last record of a readout is queued: a fresh arm, or FROZEN (Table 8). -/
def recReadDone (ti : Nat) (s : State) : State :=
  let r := (tileGet s ti).rcd
  if r.st == .reading then
    if cfgF s .rcd ti 0 44 44 = 1 then recArm ti s else recUpd ti (fun x => { x with st := .frozen }) s
  else s

/-- Tiles with REC_TEAM set. -/
def teamTiles (s : State) : List Nat := (List.range 64).filter (fun ti => cfgF s .rcd ti 0 45 45 == 1)

/-- The earliest of some times. -/
def earliestOf : List Int → Option Int
  | [] => none
  | t :: r => match earliestOf r with
    | some u => some (min t u)
    | none => some t

/-- The next common arming time (R187): member tiles arm; one in FILLING or READING ignores it, as does one out of service
(R256; log entry 74). -/
def recTeamArm (s : State) : State :=
  match earliestOf s.team.armAt with
  | none => s
  | some t =>
    let s1 := reach t { s with team := { s.team with armAt := s.team.armAt.erase t } }
    (teamTiles s1).foldl (fun a ti =>
      let x := tileGet a ti
      if x.rcd.st == .filling || x.rcd.st == .reading || x.calOut then
        recUpd ti (fun r => { r with armIgnored := satAdd 16 r.armIgnored 1 }) a
      else recArm ti a) s1

/-- TEAM_LAT (R187). -/
abbrev teamLat : Nat := 2500 * fineNs

/-- The order of pending team triggers: by effect time, then by device. -/
def trigBefore (a b : Nat × Int) : Bool := decide (a.2 < b.2) || (decide (a.2 = b.2) && decide (a.1 ≤ b.1))

/-- The first of them. -/
def firstTrig : List (Nat × Int) → Option (Nat × Int)
  | [] => none
  | p :: r => match firstTrig r with
    | none => some p
    | some q => if trigBefore p q then some p else some q

/-- A pending team trigger takes effect on a member tile, unless an earlier one has displaced it there: taken, it displaces
the others pending, which count TRIG_BUSY at once (R187). -/
def recTeamTake (dev : Nat) (tt t : Int) (rest : List (Nat × Int)) (ti : Nat) (s : State) : State :=
  let r := (tileGet s ti).rcd
  if r.gone.contains (dev, tt) then recUpd ti (fun x => { x with gone := x.gone.erase (dev, tt) }) s
  else if r.st == .armed then
    recUpd ti (fun x => { x with gone := rest, busy := satAdd 16 x.busy (rest.filter (fun p => !x.gone.contains p)).length })
      (recTrigger ti 7 dev t s)
  else recTrigger ti 7 dev t s

/-- The earliest pending team trigger takes effect on every member tile (R187). -/
def recTeamFire (s0 : State) : State :=
  let s := recSends true s0
  match firstTrig s.team.trigs with
  | none => s
  | some (dev, tt) =>
    let t := tt + teamOfs s + teamLat
    let rest := s.team.trigs.erase (dev, tt)
    let s1 := reach t { s with team := { s.team with trigs := rest } }
    (teamTiles s1).foldl (fun a ti => recTeamTake dev tt t rest ti a) s1

/-! ### The recorder commands (R187, R188, R339) -/

/-- Tiles that W1 names. -/
def maskTiles (c : Cmd) : List Nat := maskBits 64 (c.w 1).toNat

/-- Team arming is asked for. -/
def teamArm (c : Cmd) : Bool := c.opt == 1

/-- What the device says to WIN.ARM_REC: no tile out of service; team arming on the master of a formed team alone (R187,
R270), no local arm of a team tile in a team. -/
def armDev (s : State) (c : Cmd) : Nat :=
  if (maskTiles c).any (fun ti => (tileGet s ti).calOut) then stNoRes
  else if (teamArm c && !(isMaster s && s.team.formed))
      || (!teamArm c && teamEn s && (maskTiles c).any (fun ti => cfgF s .rcd ti 0 45 45 == 1)) then stIncons
  else stOk

/-- WIN.ARM_REC. A tile in FILLING or READING is not left by it (Table 8; log entry 74). -/
def armEff (c : Cmd) (s : State) : State :=
  if teamArm c then
    let t := s.now + 100 * fineUs
    out (.nolgil 1 [t - teamOfs s]) { s with team := { s.team with armAt := s.team.armAt ++ [t] } }
  else (maskTiles c).foldl (fun a ti =>
    match (tileGet a ti).rcd.st with
    | .filling => a
    | .reading => a
    | .disarmed => recArm ti a | .hold => recArm ti a | .armed => recArm ti a | .frozen => recArm ti a) s

/-- What the device says to WIN.READ_REC: the queue must take records, and no tile be DISARMED, in HOLD or READING. -/
def readDev (s : State) (c : Cmd) : Nat :=
  if !queueTakes s c.first || (maskTiles c).any (fun ti =>
    let st := (tileGet s ti).rcd.st
    st == .disarmed || st == .hold || st == .reading) then stNoRes else stOk

/-- WIN.READ_REC on a tile: read now, or once it freezes, an ARMED one after a trigger by command. A second one before that
takes the place of the first (R188; DESIGN CHOICE, log entry 163). -/
def readTile (q ti : Nat) (s : State) : State :=
  match (tileGet s ti).rcd.st with
  | .frozen => if (tileGet s ti).rcd.freezeAt.isSome then recUpd ti (fun r => { r with readQ := some q }) s else recRead ti q s
  | .filling => recUpd ti (fun r => { r with readQ := some q }) s
  | .armed => recTrigger ti 6 0 s.now (recUpd ti (fun r => { r with readQ := some q }) s)
  | .disarmed => s | .hold => s | .reading => s

/-- A rising edge on TRIG_IN, sampled to the tick (R183; log entry 74). -/
def trigIn (pin : Nat) (s : State) : State :=
  ((List.range 64).filter (fun ti => (cfgF s .rcd ti 0 36 32).testBit pin)).foldl
    (fun a ti => recTrigger ti (pin + 1) 0 (a.now / 4096 * 4096) a) s

/-- A post-window closes (R168). -/
def postEnd (ti : Nat) (s : State) : State :=
  match (tileGet s ti).cur with
  | some e => endPost ti (reach (e.origin + e.l * 4096) s)
  | none => s

/-- A tile in HOLD reaches its re-arm time (R168). -/
def tileRearm (ti : Nat) (s : State) : State :=
  let x := tileGet s ti
  if x.win == .hold then tileUpd ti (fun y => { y with win := .armed }) (reach x.rearm s) else s

/-- CLEAR of WIN.GET_STATUS (R191). -/
def winClear (tiles : Bool) (first last : Nat) (s : State) : State :=
  (upTo first last).foldl (fun a i =>
    if tiles then tileUpd i (fun x => { x with
      shotsAcq := 0, holdoffSkip := 0, preShort := 0
      rcd := { x.rcd with holdIgn := 0, busy := 0, captures := 0, armIgnored := 0 } }) a
    else chanUpd i (fun x => { x with eventsTimed := 0, pileTotal := 0, recWritten := 0 }) a) s

end Sys2Proof.Machine
end

