-- ==== Sys2Proof/Machine/WalkOps.lean ====
section
/-! DEFINITION. The Playbook's parts (ch. 04): jumps, links, the expansion of a shot, frames, the walk, under-run,
streaming, and mirror lock. -/

namespace Sys2Proof.Machine

/-! ### Descriptor fields (Table 1 of ch. 04) -/

/-- Field [hi:lo] of word n of a descriptor. -/
def dF (d : Obj) (n hi lo : Nat) : Nat := fld (d.getD n 0) hi lo

/-- Flag bit of word 3 of a descriptor: 36 CHECK, 35 RESUME, 34 FRAME, 33 CLOSE, 32 OPEN. -/
def dFlag (d : Obj) (bit : Nat) : Bool := dF d 3 bit bit == 1

/-- PB_LEAD_US in fine units. -/
def leadFine (s : State) : Nat := cfgF s .pb 0 0 47 32 * fineUs

/-- A device time rounded down to the tick. -/
def tickDown (t : Int) : Int := t / 4096 * 4096

/-- A device time rounded up to the tick. -/
def tickUp (t : Int) : Int := -(-t / 4096) * 4096

/-! ### Jumps (R109, R113) -/

/-- The condition of a slot holds. -/
def slotHolds (s : State) (slot : Nat) : Bool :=
  match cfgF s .jump slot 0 13 12 with
  | 1 => true
  | 2 => s.pb.armed.contains slot
  | 3 => mirrorMode s && !s.pb.mirrorLocked
  | _ => false

/-- A jump request latches; its slot is ARMED no more. -/
def latchJump (slot : Nat) (s : State) : State :=
  pbUpd (fun p => { p with
    latch := some slot, armed := p.armed.filter (fun x => x != slot)
    jumpReplaced := if p.latch.isSome then satAdd 16 p.jumpReplaced 1 else p.jumpReplaced }) s

/-! ### Links (R125 to R127) -/

/-- The clock period of a link. -/
def linkPer (s : State) (n : Nat) : Nat := 10 * fineNs * 2 ^ cfgF s .stl n 0 13 12

/-- From the start of a word's shift to its update edge. -/
def linkShift (s : State) (n : Nat) : Nat := (cfgF s .stl n 0 11 6 + 2) * linkPer s n

/-- The earliest start of a shift on a link: 300 ns from now, and the previous word gone. -/
def linkStart (s : State) (n : Nat) : Int := max (s.now + 300 * fineNs) (tabGet ({} : Link) s.pb.links n).freeAt

/-- A word can have its update edge at a time. -/
def linkFits (s : State) (n : Nat) (u : Int) : Bool := decide (linkStart s n ≤ u - linkShift s n)

/-- A word is placed with its update edge at a time. -/
def linkPut (n : Nat) (u : Int) (driver : Bool) (w : Nat) (s : State) : State :=
  let word : LinkWord := { at_ := u, driver := driver, word := w % 2 ^ cfgF s .stl n 0 11 6 }
  let free := u + 2 * linkPer s n
  pbUpd (fun p => { p with links := tabUpd {} p.links n (fun l => { l with words := l.words ++ [word], freeAt := free }) }) s

/-- The driver link, where there is one. -/
def drvLink (s : State) : Option Nat := if cfgF s .pb 0 0 31 31 = 1 then some (cfgF s .pb 0 0 27 26) else none

/-- The driver word of a shot: its link and update edge, where its current code is new (R127). -/
def drvWord (s : State) (d : Obj) (shot : Int) : Option (Nat × Int) :=
  match drvLink s with
  | none => none
  | some n => if s.pb.lastCode = some (dF d 3 7 0) then none
              else some (n, tickDown (shot - (cfgF s .pb 0 0 15 0 * 4096 : Nat)))

/-- The steering word of a shot goes to one link; true where it is late or cannot be sent (R126). -/
def steerOne (d : Obj) (shot : Int) (n : Nat) (s : State) : Bool × State :=
  let w := dF d 2 31 0
  let u := tickDown (shot - (dF d 2 51 36 * 4096 : Nat))
  if cfgF s .stl n 0 15 15 = 0 then (true, s)
  else if linkFits s n u then (false, linkPut n u false w s)
  else (true, linkPut n (tickUp (linkStart s n + linkShift s n)) false w s)

/-- The steering words of a shot: how many are late. -/
def steerAll (d : Obj) (shot : Int) (s : State) : Nat × State :=
  ((maskBits 4 (dF d 2 35 32)).filter (fun n => drvLink s != some n)).foldl
    (fun (a : Nat × State) n => let r := steerOne d shot n a.2; (a.1 + b2n r.1, r.2)) (0, s)

/-- The bits of a word in the order in which a link shifts them out (R125: LSB_FIRST). -/
def linkBits (s : State) (n w : Nat) : List Bool :=
  let bits := (List.range (cfgF s .stl n 0 11 6)).map w.testBit
  if cfgF s .stl n 0 14 14 = 1 then bits else bits.reverse

/-- The update edge of the first word of a link. -/
def steerEdge (n : Nat) (s : State) : State :=
  match (tabGet ({} : Link) s.pb.links n).words with
  | [] => s
  | w :: r =>
    let s1 := reach w.at_ s
    let s2 := pbUpd (fun p => { p with
      links := tabUpd {} p.links n (fun l => { l with words := r, last := w.word })
      upds := (w.at_ :: p.upds).filter (fun t => decide (s1.now ≤ t + keepFine)) }) s1
    out (.link n w.driver (linkBits s2 n w.word)) s2

/-! ### Expansion (R104, R105, R114, R115, R169, R170) -/

/-- The hold-off end of a tile after an origin (R170). -/
def holdEnd (s : State) (ti : Nat) (o : Int) : Int :=
  if cfgF s .winTile ti 0 46 46 = 0 then o + (cfgF s .winTile ti 0 23 0 * 4096 : Nat)
  else eventAfter s o (cfgF s .winTile ti 0 39 32)

/-- The shot origin of a descriptor with a shot time (R104). -/
def originOf (s : State) (d : Obj) (shot : Int) : Int :=
  shot + (dF d 1 51 36 * 4096 : Nat) + (cfgF s .emCh (dF d 3 21 16) 0 35 0 : Nat)

/-- The pulses of a descriptor's volley on an emitter. -/
def pulsesFor (s : State) (d : Obj) (shot : Int) (e : Nat) : List Pulse :=
  pulsesOf s e (dF d 2 59 52) (shot + (dF d 1 51 36 * 4096 : Nat) + (cfgF s .emCh e 0 35 0 : Nat))

/-- TILE_MASK of a descriptor's window profile. -/
def armMask (s : State) (d : Obj) : Nat := (cfgW s .profile (dF d 3 13 8) 0).toNat

/-- A descriptor as a shot that its tiles hold, before it is judged. -/
def entOf (s : State) (d : Obj) (seq : Nat) (origin : Int) : ShotEnt :=
  let pr := dF d 3 13 8
  { seq := seq, origin := origin, p := cfgF s .profile pr 1 29 16, l := cfgF s .profile pr 1 47 32
    opens := dFlag d 32, closes := dFlag d 33, frameStart := dFlag d 34, frame := s.pb.frame, tag := dF d 3 61 46 }

/-- How a tile judges a shot; none where it has no effect (R169, R256). -/
def judgeTile (s : State) (d : Obj) (origin : Int) (ti : Nat) : Option Judge :=
  let arms := (armMask s d).testBit ti
  let emits := (d.getD 0 0).toNat.testBit ti
  let x := tileGet s ti
  if x.calAsk || x.calOut then (if arms || emits then some .outOfService else none)
  else if cfgF s .winTile ti 0 47 47 = 0 then (if arms then some .disarmed else none)
  else if origin < x.at_ ∧ (arms || emits) then some .refused
  else if arms then some .acquired else none

/-- The emitters whose volleys are offered. -/
def offered (s : State) (d : Obj) (origin : Int) : List Nat :=
  (maskBits 64 (d.getD 0 0).toNat).filter (fun e =>
    let j := judgeTile s d origin e
    j != some .refused && j != some .outOfService)

/-- A shot is late (R115): a pre-window, an edge or the driver word's shift less than 300 ns ahead, or no place for the
driver word. -/
def isLate (s : State) (d : Obj) (shot origin : Int) : Bool :=
  let soon := s.now + 300 * fineNs
  let p := cfgF s .profile (dF d 3 13 8) 1 29 16
  ((List.range 64).any (fun ti => judgeTile s d origin ti == some .acquired) && decide (origin - (p * 4096 : Nat) < soon))
    || (offered s d origin).any (fun e => (pulsesFor s d shot e).any (fun x => decide (launchAt s e x.rise < soon)))
    || (match drvWord s d shot with
        | some (n, u) => !linkFits s n u
        | none => false)

/-- OPEN, CLOSE and the limit of 65,535 shots as the expansions of a tile go (R105): whether this shot closes, whether by
the limit, and the tile after it. -/
def exStep (opens closes counted : Bool) (x : Tile) : Bool × Tile :=
  let o := opens || x.exOpen
  let n := (if opens then 0 else x.exShots) + b2n (o && counted)
  let forced := o && n == 65535 && !closes
  (forced, { x with exOpen := o && !closes && !forced, exShots := if closes || forced then 0 else n })

/-- A judged shot enters a tile; one refused brings the recorder's HOLDOFF_SKIP marker at its origin (R181). -/
def enterTile (base : ShotEnt) (arms : Bool) (j : Judge) (ti : Nat) (s : State) : State :=
  let x := tileGet s ti
  let counted := j == .acquired || j == .refused || j == .outOfService
  let r := if arms then exStep base.opens base.closes counted x else (false, x)
  let pre := max (base.origin - (base.p * 4096 : Nat)) x.at_
  let re := if j == .acquired then max (base.origin + (base.l * 4096 : Nat)) (holdEnd s ti base.origin) else x.at_
  let e := { base with judge := j, arms := arms, closes := base.closes || r.1, preAt := pre, rearm := re
                       histW := cfgW s .histTile ti 0, echoW := cfgObj s .echo (ti / 16) }
  let s1 := tileUpd ti (fun _ => { r.2 with
    shots := r.2.shots ++ [e], at_ := re
    rcd := if j == .refused then { x.rcd with marks := x.rcd.marks ++ [{ kind := 5, t := base.origin, tag := base.seq % 4096 }] } else x.rcd
    holdoffSkip := if j == .refused then satAdd 32 x.holdoffSkip 1 else x.holdoffSkip }) s
  let s2 := if r.1 then pbUpd (fun p => { p with forced := satAdd 16 p.forced 1 }) s1 else s1
  if j == .outOfService then calUpd (fun c => { c with skipTotal := satAdd 32 c.skipTotal 1 }) s2 else s2

/-- A shot enters every tile that it concerns, as judged; a late or passed one every tile that its profile arms. -/
def enterTiles (d : Obj) (base : ShotEnt) (as_ : Option Judge) (s : State) : State :=
  (List.range 64).foldl (fun a ti =>
    let arms := (armMask s d).testBit ti
    match as_ with
    | some j => if arms then enterTile base true j ti a else a
    | none => match judgeTile s d base.origin ti with
      | some j => enterTile base arms j ti a
      | none => a) s

/-- Crossing 1 of R27 at the SYS setting in force, in fine units. -/
def crossing1 (s : State) : Int := if s.pwr.div = 0 then 38502 else if s.pwr.div = 1 then 52428 else 79462

/-- The volleys of a shot leave for the scheduler. -/
def offerAll (d : Obj) (seq : Nat) (shot origin : Int) (s : State) : State :=
  let os := (offered s d origin).map (fun e =>
    { ch := e, seq := seq, pulses := pulsesFor s d shot e, code := dF d 3 7 0, arrive := s.now + crossing1 s : Offer })
  pbUpd (fun p => { p with offers := p.offers ++ os.filter (fun o => !o.pulses.isEmpty) }) s

/-- A FRAME shot is a synchronising reset to come for the engines with BG_FRAME_RESET (R226). -/
def frameReset (d : Obj) (origin : Int) (s : State) : State :=
  if dFlag d 34 then
    ((List.range 4).filter (fun q => cfgF s .echo q 0 32 32 == 1)).foldl
      (fun a q => engUpd q (fun e => { e with frameResets := e.frameResets ++ [origin] }) a) s
  else s

/-- The next-pixel sets that wait have seen a CLOSE (R107). -/
def sawClose (d : Obj) (s : State) : State :=
  if dFlag d 33 then { s with ctl := { s.ctl with waiting := s.ctl.waiting.map (fun (w : WaitSet) => { w with closed := true }) } }
  else s

/-- A descriptor with an anchor is expanded now: the shot's words, windows and volleys, or its late skip. -/
def expandShot (d : Obj) (anchor : Int) (s : State) : State :=
  let shot := anchor + (dF d 1 35 0 : Nat)
  let o := originOf s d shot
  let seq := (s.pb.shots + 1) % 2 ^ 32
  let late := isLate s d shot o
  let s1 := pbUpd (fun p => { p with shots := seq, anyShot := true, origin := some o, anchor := anchor, rephase := false
                                     passed := false, expandAt := s.now }) (noteBoundary o (sawClose d (frameReset d o s)))
  if late then
    pbUpd (fun p => { p with lateSkip := satAdd 16 p.lateSkip 1 }) (enterTiles d (entOf s1 d seq o) (some .late) s1)
  else
    let s2 := match drvWord s1 d shot with
      | some (n, u) => pbUpd (fun p => { p with lastCode := some (dF d 3 7 0) }) (linkPut n u true (dF d 3 7 0) s1)
      | none => s1
    let (n, s3) := steerAll d shot s2
    let s4 := pbUpd (fun p => { p with steerLate := satAdd 16 p.steerLate n }) s3
    enterTiles d { entOf s4 d seq o with steerLate := decide (0 < n) } none (offerAll d seq shot o s4)

/-! ### Frames (R106, R394, R396) -/

/-- The check of R394 fails: the published pair is still unconfirmed after the grace time. -/
def unconfirmed (s : State) : Bool :=
  cfgF s .safe 0 0 63 63 == 1 && s.safe.confirmPending && decide (s.safe.pubAt + cfgF s .safe 0 0 15 0 * fineUs ≤ s.up)

/-- A watched channel whose silent frames have reached DEAD_FRAMES is dead: decided once, until it is dead no more. -/
def deadJudge (s : State) (p : Nat × Nat) : State :=
  if deadWatched s p.1 && decide (cfgF s .safe 0 0 61 58 ≤ p.2) && !s.safe.deadOn.any (fun x => x.1 == p.1) then
    decideCause 19 p.1 p.2 { s with safe := { s.safe with deadOn := tabSet 0 s.safe.deadOn p.1 1 } }
  else s

/-- Dead-channel watch at a FRAME descriptor: a frame in which the tile acquired a shot and the channel timed nothing is
silent. -/
def deadFrame (s : State) : State :=
  let silent := fun (st : State) (ch : Nat) =>
    deadWatched st ch && (rxGet st ch).active && tabGet 0 st.safe.deadSeen ch == 0
  let chs := (s.safe.deadShots.map (fun (p : Nat × Nat) => upTo (16 * p.1) (16 * p.1 + 15))).flatten.filter (silent s)
  let s1 := { s with safe := { s.safe with
    deadCnt := chs.foldl (fun t ch => tabUpd 0 t ch (· + 1)) s.safe.deadCnt, deadSeen := [], deadShots := [] } }
  s1.safe.deadCnt.foldl deadJudge s1

/-- A frame begins: SWEEP_FRAMES of every quadrant (Table 10 of ch. 07). -/
def sweepFrame (s : State) : State :=
  { s with pers := (List.range 4).foldl (fun t q => tabUpd {} t q (fun (p : Pers) => { p with sweepFrames := satAdd 16 p.sweepFrames 1 })) s.pers }

/-- The walk reaches a FRAME descriptor: the dead-channel watch, the check, the new frame's number, and the sets due at
it; a next-pixel set waits on where no CLOSE has come since (R107). Nothing more follows where the check enters the safe
state. -/
def frameStart (s0 : State) : Bool × State :=
  let s := deadFrame s0
  let bad := unconfirmed s
  let s2 := if bad then decideCause 16 0 s.ctl.pubEpoch s else s
  if bad && (cfgF s .safe 0 0 57 48).testBit 0 then (false, s2)
  else
    let s3 := if s2.pb.anyShot then sweepFrame (pbUpd (fun p => { p with frame := (p.frame + 1) % 2 ^ 32 }) s2) else s2
    (true, applyWaiting (fun w => w.boundary != 2 || w.closed) s3)

/-! ### The walk (R108 to R112) -/

/-- The walk stops; the Playbook halts once its shots are complete (R117). -/
def pbStopping (s : State) : State := pbUpd (fun p => { p with st := .stopping, walk := .none, starve := 0 }) s

/-- A fault stops the walk: 1 LOOP_DEPTH, 2 UNDEF_SEGMENT, 3 STREAM_UNDEF; it is reported at the halt (R111). -/
def pbFault (k : Nat) (s : State) : State := pbUpd (fun p => { p with faulting := k }) (pbStopping s)

/-- The walk enters a segment, copying its entry (R108). -/
def enterSeg (seg : Nat) (s : State) : State :=
  let e := cfgObj s .seg seg
  let s1 := pbUpd (fun p => { p with seg := seg, idx := 0, curIdx := 0 }) s
  if dF e 0 63 63 = 0 then pbFault 2 s1
  else pbUpd (fun p => { p with entry := e, header := false, walk := .fetch, passed := false
                                len := if dF e 0 62 62 = 1 then 0 else dF e 0 32 16 }) s1

/-- The segment being walked is streamed. -/
def streamed (s : State) : Bool := dF s.pb.entry 0 62 62 == 1

/-- Entries of the refill ring. -/
def ringSize (s : State) : Nat := 2 ^ cfgF s .stream 0 0 31 28

/-- The walk needs a ring entry and none is present (R128). -/
def ringDry (s : State) : Bool := s.pb.walk == .fetch && streamed s && s.pb.rd == s.pb.wr

/-- The walk takes the ring's next entry. -/
def ringPop (s : State) : State :=
  pbUpd (fun p => { p with gapAt := p.gapAt.filter (fun g => g != p.rd), rd := (p.rd + 1) % ringSize s }) s

/-- The descriptor slot of a ring position (R128). -/
def ringSlot (s : State) (i : Nat) : Nat := (cfgF s .stream 0 0 47 32 + i % ringSize s) % 65536

/-- The descriptor just done is behind the walk: the next one, or the decision point after the last. -/
def walkOn (s : State) : State :=
  let s1 := if streamed s then ringPop s else s
  pbUpd (fun p => { p with idx := p.idx + 1, walk := if p.idx + 1 < p.len then .fetch else .decide }) s1

/-- A descriptor is passed while skipping (R132). -/
def passDesc (d : Obj) (s : State) : State :=
  let s1 := enterTiles d (entOf s d s.pb.shots s.now) (some .skipped) (sawClose d s)
  walkOn (pbUpd (fun p => { p with skipped := satAdd 32 p.skipped 1, passed := true }) s1)

/-- The re-phase rule (R133). -/
def rephaseAnchor (s : State) (d : Obj) : Int := eventFrom s (s.now + leadFine s - (dF d 1 35 0 : Nat))

/-- The anchor of a descriptor on the grid in force (R121, R133). -/
def anchorOf (s : State) (d : Obj) : Int :=
  if s.pb.rephase then rephaseAnchor s d
  else if dF d 1 59 52 = 0 then s.pb.anchor else eventAfter s s.pb.anchor (dF d 1 59 52)

/-- A descriptor reached while skipping: passed, or firing restarts with it (Table 10). -/
def skipDesc (d : Obj) (s : State) : State :=
  if dFlag d 35 then
    pbUpd (fun p => { p with st := .running, rephase := true, origin := none, walk := .expand d (rephaseAnchor s d) }) s
  else passDesc d s

/-- Starved is left once the entry needed is present and, for cause mirror, lock is back (Table 10); a descriptor that
waited for its expansion is then reached while skipping. -/
def unstarve (s : State) : State :=
  if s.pb.st == .starved && s.pb.walk != .decide && !ringDry s && (s.pb.starve != 4 || s.pb.mirrorLocked) then
    let s1 := pbUpd (fun p => { p with st := .skipping, starve := 0 }) s
    match s.pb.walk with
    | .expand d _ => skipDesc d s1
    | .fetch => s1 | .decide => s1 | .none => s1
  else s

/-- The Playbook starves with a cause. -/
def starveNow (cause : Nat) (s : State) : State := pbUpd (fun p => { p with st := .starved, starve := cause }) s

/-- Loss of mirror lock with MIRROR_LOSS = STOP (R124). -/
def mirrorStarve (s : State) : State :=
  if mirrorMode s && cfgF s .pb 0 3 28 28 == 1 && !s.pb.mirrorLocked && (s.pb.st == .running || s.pb.st == .skipping) then
    starveNow 4 s
  else s

/-- An under-run is declared once the origin of the last expanded shot is reached and the walk lacks a ring entry; while
skipping the walk starves again without a count (R132). -/
def underCheck (s : State) : State :=
  if !ringDry s then s
  else if s.pb.st == .skipping then starveNow 1 s
  else if s.pb.st == .running && (match s.pb.origin with
      | some o => decide (o ≤ s.now)
      | none => false) then
    let s1 := starveNow 1 (pbUpd (fun p => { p with underruns := satAdd 16 p.underruns 1, underrun := true }) s)
    if s.pb.underrun then s1 else irqBoth 4 s1
  else s

/-- A streamed segment ends at a gap or a bad entry (R130, R131). -/
def gapEnd (cause : Nat) (s : State) : State :=
  starveNow cause (pbUpd (fun p => { p with walk := .decide, header := false }) s)

/-- A header's block is taken: a BLOCK_SEQ that does not follow the block before is reported (R131; log entry 117). -/
def blockTaken (e : Obj) (s : State) : State :=
  let n := dF e 0 63 32
  let s1 := match s.pb.blockSeq with
    | some b => if n = (b + 1) % 2 ^ 32 then s else out (.blockSeq ((b + 1) % 2 ^ 32) n) s
    | none => s
  pbUpd (fun p => { p with blockSeq := some n }) s1

/-- The walk looks for the header of its segment (R131); none found, the ring is empty, or a gap lies ahead (R130). A
header is taken as it stands with reserved bits set or a DESC_COUNT above 65,536: R131 calls neither bad (DESIGN CHOICE,
log entry 76). -/
def findHeader : Nat → State → State
  | 0, s => s
  | n + 1, s =>
    if s.pb.rd = s.pb.wr ∨ s.pb.gapAt.contains s.pb.rd then s
    else
      let e := cfgObj s .desc (ringSlot s s.pb.rd)
      let id := dF e 1 11 0
      let target := cfgObj s .seg id
      if dF e 3 63 62 ≠ 1 then findHeader n (ringPop (pbUpd (fun p => { p with discard := satAdd 16 p.discard 1 }) s))
      else if id = s.pb.seg then
        pbUpd (fun p => { p with header := true, len := dF e 0 16 0, walk := if dF e 0 16 0 = 0 then .decide else .fetch
                                 passed := decide (dF e 0 16 0 = 0) }) (ringPop (blockTaken e s))
      else if dF target 0 63 63 = 1 ∧ dF target 0 62 62 = 1 then
        findHeader n (ringPop (pbUpd (fun p => { p with discard := satAdd 16 p.discard 1 }) s))
      else pbFault 3 s

/-- The descriptor that the walk stands at, in the ring or resident. -/
def curDesc (s : State) : Obj :=
  if streamed s then cfgObj s .desc (ringSlot s s.pb.rd) else cfgObj s .desc (dF s.pb.entry 0 15 0 + s.pb.idx)

/-- The walk reaches a descriptor: CHECK, FRAME, and then its expansion or its passing. -/
def reachDesc (d : Obj) (s : State) : State :=
  let s1 := if dFlag d 36 && slotHolds s (dF d 3 31 24) then latchJump (dF d 3 31 24) s else s
  if dFlag d 34 && s1.pb.stop == some 1 then pbStopping s1
  else
    let (go, s2) := if dFlag d 34 then frameStart s1 else (true, s1)
    if !go then s2
    else if s2.pb.st == .skipping then skipDesc d s2
    else pbUpd (fun p => { p with walk := .expand d (anchorOf s2 d) }) s2

/-- DESC_FETCH: the walk, running or skipping, takes its next descriptor. -/
def descFetch (s00 : State) : State :=
  let s0 := mirrorStarve s00
  if s0.pb.walk != .fetch || !(s0.pb.st == .running || s0.pb.st == .skipping) then s0
  else
    let s := if streamed s0 && !s0.pb.header then findHeader 65536 s0 else s0
    if s.pb.walk != .fetch then s
    else if ringDry s then underCheck s
    else if streamed s && s.pb.gapAt.contains s.pb.rd then
      unstarve (gapEnd 2 (pbUpd (fun p => { p with gapAt := p.gapAt.filter (fun g => g != p.rd) }) s))
    else
      let d := curDesc s
      let s := pbUpd (fun p => { p with curIdx := p.idx }) s
      if streamed s && !(reservedOk .desc 0 d && rangeOk .desc 0 d) then
        gapEnd 3 (ringPop (pbUpd (fun p => { p with gaps := satAdd 16 p.gaps 1 }) s))
      else reachDesc d s

/-- The scheduler holds the Playbook at crossing 1: some channel's queue has no room for all the volleys on their way to
it (R72). -/
def heldFull (s : State) : Bool :=
  s.pb.offers.any (fun o => decide (2048 < pendingEdges (emGet s o.ch) +
    (s.pb.offers.filter (fun x => x.ch == o.ch)).foldl (fun n x => n + 2 * x.pulses.length) 0))

/-- SHOT_EXPAND: the expansion of the descriptor that waits, at the later of its shot time less PB_LEAD_US and the end of
the expansion before, which a full queue holds up (R72); sets due at it take effect first (R107). A FRAME descriptor is not
expanded after PB.STOP AT_FRAME (R117), and brings the journal's mirror write (R313). -/
def shotExpand (s00 : State) : State :=
  let s := mirrorStarve s00
  match s.pb.walk with
  | .expand d a0 =>
    if s.pb.st != .running || heldFull s then s
    else if dFlag d 34 && s.pb.stop == some 1 then pbStopping s
    else
      let anchorAt := fun (st : State) => if st.pb.rephase then a0 else anchorOf st d
      let s1 := monAdvance (reach (max (anchorAt s + (dF d 1 35 0 : Nat) - leadFine s) s.pb.expandAt) s)
      let s2 := applyWaiting (fun w => w.boundary == 1 || (w.boundary == 2 && w.closed)) s1
      let s3 := expandShot d (anchorAt s2) s2
      walkOn (if dFlag d 34 then mirrorTick s3 else s3)
  | .fetch => s | .decide => s | .none => s

/-- The end action LOOP (R110). -/
def loopEnd (s : State) : State :=
  let e := s.pb.entry
  let next := dF e 0 59 48
  let st := s.pb.stack.dropWhile (fun p => p.1 != s.pb.seg)
  if st.isEmpty && decide (4 ≤ s.pb.stack.length) then pbFault 1 s
  else
    match (if st.isEmpty then (s.pb.seg, dF e 1 23 0) :: s.pb.stack else st) with
    | (g, n) :: r =>
      if 1 < n then enterSeg (dF e 0 47 36) (pbUpd (fun p => { p with stack := (g, n - 1) :: r }) s)
      else enterSeg next (pbUpd (fun p => { p with stack := r }) s)
    | [] => s

/-- SEGMENT_DECISION_POINT: 16 ns before the origin of the segment's last descriptor, or once that was passed (R112). -/
def decisionPoint (s0 : State) : State :=
  if s0.pb.walk != .decide then s0
  else
    let s := match s0.pb.origin with
      | some o => if s0.pb.passed then s0 else reach (o - 16 * fineNs) s0
      | none => s0
    if s.pb.stop == some 2 then pbStopping s
    else match s.pb.latch with
    | some slot =>
      unstarve (enterSeg (cfgF s .jump slot 0 11 0) (pbUpd (fun p => { p with
        latch := none, stack := [], jumpsTaken := satAdd 16 p.jumpsTaken 1 }) s))
    | none =>
      match dF s.pb.entry 0 61 60 with
      | 2 => pbStopping s
      | 1 => unstarve (loopEnd s)
      | _ => unstarve (enterSeg (dF s.pb.entry 0 59 48) s)

/-! ### Start, halt, origins (R116, R117, R132) -/

/-- PB.START on a segment (R106, R116, R213, R226). -/
def pbStart (seg : Nat) (s : State) : State :=
  let s1 := { s with
    pb := { s.pb with st := .running, starve := 0, faultCause := 0, faulting := 0, latch := none, stack := [], stop := none
                      rephase := true, origin := none, anyShot := false, frame := 0, bound := 0, bnds := [], lastCode := none
                      expandAt := s.now }
    pers := (List.range 4).foldl (fun t q => tabUpd {} t q (fun (p : Pers) => { p with clearing := true })) s.pers
    chan := s.chan.map (fun (p : Nat × Chan) => (p.1, { p.2 with dumpCnt := 0 }))
    tile := s.tile.map (fun (p : Nat × Tile) => (p.1, { p.2 with ord := 0, ordFrame := 0, exOpen := false, exShots := 0 }))
    safe := { s.safe with deadSeen := [], deadShots := [] } }
  let s2 := (List.range 4).foldl (fun a q => engUpd q (fun e => { e with startRst := e.resets }) a) (syncReset (sweepFrame s1))
  mirrorStarve (enterSeg seg s2)

/-- Every expanded shot has launched its last edge and closed its last window (R117); one that a tile does not acquire has
no window there. -/
def allDone (s : State) : Bool :=
  s.pb.offers.isEmpty
    && s.tile.all (fun p => p.2.cur.isNone && p.2.shots.all (fun e => e.judge != .acquired))
    && s.em.all (fun p => p.2.vols.all (fun v => !inProgress v && !notStarted v))

/-- PB_HALT. -/
def haltEvent (s : State) : State := if s.pb.st == .stopping && allDone s then pbHalt s else s

/-- SHOT_ORIGIN on a tile: the shots ahead that it did not acquire pass, and the acquired one opens its post-window; an
under-run is declared where the walk lacks an entry. -/
def shotOrigin (ti : Nat) (s0 : State) : State :=
  let s := passDue true ti (tileGet s0 ti).shots.length s0
  let x := tileGet s ti
  match x.cur, x.shots with
  | none, e :: _ =>
    if e.judge == .acquired then underCheck (startShot ti e (passBoundaries (reach e.origin s))) else s0
  | _, _ => s0

/-! ### The shot clock and the mirror (R119, R123, R124; log entry 75) -/

/-- A shot-clock event falls due. -/
def clockEvent (s : State) : State :=
  if !s.pb.gridOn then s
  else
    pbUpd (fun p =>
      let g := gridsLeft p.gridOld p.gridK
      { p with scEvent := (p.scEvent + 1) % 2 ^ 32, gridOld := g.1, gridK := g.2 + 1 }) (reach (nextEvent s) s)

/-- The spacing of the mirror's events: floor (T_m ÷ SC_PER_MIRROR), the mean's division in one with it. -/
def mirrorSpacing (s : State) : Option Nat :=
  (mirrorPeriods s).map (fun tm => (tm.1 / ((tm.2 * cfgF s .pb 0 3 47 32 : Nat) : Int)).toNat)

/-- The prediction of the next MP0 edge: the last event before it, advanced by one spacing, less MIRROR_OFS. -/
def mirrorNext (s : State) : Option Int :=
  match s.pb.mpEdges, mirrorSpacing s with
  | e :: _, some p => some (e + (cfgF s .pb 0 3 47 32 * p : Nat))
  | _, _ => none

/-- The time of an MP0 edge: the raw crossing less the comparator's delay in M1, to the nearest tick (R123, R455). -/
def mpStamp (s : State) : Int :=
  let raw := if cfgF s .mp 0 0 56 56 = 1 then (monGet s 32).crossAt else s.now
  rndDiv (raw - factVal s (entU 16 s.fact.monDelay) (32 * 4 + 1) s.cal.bandActive) 4096 * 4096

/-- Mirror lock is lost. -/
def mirrorLost (s : State) : State :=
  let s1 := pbUpd (fun p => { p with
    mpGood := 0, mirrorLocked := false
    mirrorLosses := if p.mirrorLocked then satAdd 16 p.mirrorLosses 1 else p.mirrorLosses }) s
  mirrorStarve s1

/-- The scan direction: MP1 as its filter and its hold give it (R123, R156, R158). -/
def scanDirNow (s : State) : Bool := let x := monGet s 33; x.hold.getD x.filt

/-- An edge of MP0 is accepted: from a resolved input, with FILT_EN once for each assertion of the filtered output (R158). -/
def mpAccepts (s : State) : Bool :=
  !(monGet s 32).held && s.tb.epochSet && (cfgF s .mp 0 0 56 56 == 0 || ((monGet s 32).filt && (monGet s 32).crossNew))

/-- A rising edge of MP0 (R123, R124, R158), the input of MP1 at a level. The first edge, with no period seen, restarts the
grid at the spacing it had (DESIGN CHOICE, log entry 75). -/
def mpEdge (mp1 : Bool) (s0 : State) : State :=
  let sm := monInputs 33 mp1 false s0
  if !mpAccepts sm then sm
  else
    let s := monUpd 32 (fun x => { x with crossNew := false }) sm
    let t := mpStamp s
    let good := match mirrorNext s with
      | some e => decide ((t - e).natAbs ≤ cfgF s .pb 0 3 63 48 * 4096)
      | none => false
    let s1 := pbUpd (fun p => { p with
      mpEdges := (t :: p.mpEdges).take 65
      scanDir := if cfgF s .pb 0 3 29 29 = 1 then scanDirNow s else p.scanDir }) s
    let sp := (mirrorSpacing s1).getD s1.pb.gridPer
    let s2 := if mirrorMode s1 then gridStart t (cfgF s .pb 0 4 35 0 : Nat) sp s1 else s1
    if !good || decide (sp < 500 * fineNs) then mirrorLost s2
    else
      let n := min 8 (s2.pb.mpGood + 1)
      unstarve (pbUpd (fun p => { p with mpGood := n, mirrorLocked := p.mirrorLocked || n == 8 }) s2)

/-- No MP0 edge came by the prediction plus MIRROR_TOL. -/
def mirrorTimeout (s : State) : State :=
  match mirrorNext s with
  | some e => if s.pb.mirrorLocked then mirrorLost (reach (e + (cfgF s .pb 0 3 63 48 * 4096 : Nat)) s) else s
  | none => s

/-! ### Streaming (R128 to R131) -/

/-- Free entries of the refill ring. -/
def ringRoom (s : State) : Nat := ringSize s - 1 - ringFill s

/-- Entries enter the refill ring: they stand in its descriptor slots (R30, R128). -/
def ringAdd (es : List Obj) (s : State) : State :=
  pbUpd (fun p => { p with wr := (p.wr + es.length) % ringSize s })
    { s with cfg := es.zipIdx.foldl (fun t e => cfgPutIn s.fact.mac t .desc (ringSlot s (s.pb.wr + e.2)) e.1) s.cfg }

/-- A DMA read completes: at most 64 entries, as many as the host has rung and the ring has room for. -/
def dmaFetch (es : List Obj) (s0 : State) : State :=
  if cfgF s0 .stream 0 0 27 26 ≠ 1 then s0
  else
    let s := underCheck s0
    let host := 2 ^ cfgF s .stream 0 0 25 21
    let n := min (min 64 es.length) (min (ringRoom s) ((s.pb.hostProd + host - s.pb.hostCons % host) % host))
    unstarve (pbUpd (fun p => { p with hostCons := (p.hostCons + n) % host }) (ringAdd (es.take n) s))

/-- A malformed datagram is dropped: the next is a gap, whatever its number (R130; log entry 160). -/
def streamBad (s : State) : State := pbUpd (fun p => { p with bad := satAdd 12 p.bad 1, netBad := true }) s

/-- A stream datagram arrives with its sequence number, its entry count and the entries that it holds. The first after the
stream is opened is no gap whatever its number: there is no last one accepted to compare it with (R130; DESIGN CHOICE,
log entry 118). -/
def streamData (seq count : Nat) (es : List Obj) (s0 : State) : State :=
  if cfgF s0 .stream 0 0 27 26 ≠ 2 then s0
  else
    let s := underCheck s0
    if count = 0 ∨ 44 < count ∨ es.length ≠ count then streamBad s
    else if ringRoom s < count then pbUpd (fun p => { p with overflow := satAdd 16 p.overflow 1 }) s
    else
      let gap := s.pb.netBad || (match s.pb.netSeq with
        | some n => decide (seq % 2 ^ 32 ≠ (n + 1) % 2 ^ 32)
        | none => false)
      let s1 := if gap then pbUpd (fun p => { p with gaps := satAdd 16 p.gaps 1, gapAt := p.gapAt ++ [p.wr] }) s else s
      unstarve (ringAdd es (pbUpd (fun p => { p with netSeq := some (seq % 2 ^ 32), netBad := false }) s1))

end Sys2Proof.Machine
end

