-- ==== Sys2Proof/WellFormed.lean ====
section
/-! DEFINITION. Well-formed commands: the shapes that the block's buses and wires carry. A command that is not well formed
stops nothing: an access that no register can take, and a frame that no port can take, pass without effect; entries that are
no whole entries make a malformed datagram; spare bytes of a payload count as the words that they fill (log entry 149). -/

namespace Sys2Proof

/-- A 32-bit access lies in the 64 KiB page at an aligned offset (R287). -/
def wfOffset (offset : Nat) : Bool := decide (offset < 65536) && decide (offset % 4 = 0)

/-- A 64-bit access comes over PCI Express, aligned to 8 bytes (R287, R299). -/
def wfWide (iface : Fin 2) (offset : Nat) (high : Option (BitVec 32)) : Bool :=
  high.isNone || (decide (iface.val = 0) && decide (offset % 8 = 0))

/-- An access to a command slot lies in the mailbox region (R287, R292). -/
def wfSlot (offset : Nat) : Bool := wfOffset offset && decide (0x8000 ≤ offset) && decide (offset < 0xC000)

/-- An Ethernet frame of 64 to 1,522 bytes with its addresses, tag and redundancy tag (R364). -/
def wfFrame (f : EthFrame) : Bool :=
  decide (64 ≤ f.bytes.length) && decide (f.bytes.length ≤ 1522) && decide (f.srcMac < 2 ^ 48)
    && decide (f.dstMac < 2 ^ 48) && f.bytes.all (fun b => decide (b < 256))
    && (match f.vlan with
        | some (v, p) => decide (v < 4096) && decide (p < 8)
        | none => true)
    && (match f.rtag with
        | some n => decide (n < 65536)
        | none => true)

/-- Stream entries of 32 bytes, four words each (R128, R130). -/
def wfEntries (es : List Obj) : Bool := es.all (fun e => decide (e.length = 4))

/-- The payload of a control datagram: fewer than 8 bytes after its whole words. -/
def wfUdp (d : UdpData) : Bool := decide (d.tail.length < 8)

/-- A well-formed command. -/
def Instr.wf : Instr → Bool
  | .hostDoorbell _ _ _ => true
  | .mbxSlotWrite _ iface offset data => wfSlot offset && wfWide iface offset data.high
  | .registerWrite _ iface offset data => wfOffset offset && wfWide iface offset data.high
  | .ethFrameRx _ _ frame => wfFrame frame
  | .udpCtrlDatagram _ rx _ _ data => wfFrame rx.frame && wfUdp data
  | .streamDatagram _ rx _ entries => wfFrame rx.frame && wfEntries entries
  | _ => true

end Sys2Proof
end

