-- ==== Sys2Proof/Machine/LinOps.lean ====
section
/-! DEFINITION. The calibrations (ch. 09): CAL.LIN, CAL.ZERO and CAL.TEAM as they run, and saving and restoring the user
layer. Residuals and one-way estimates are in femtoseconds (R258, R261); a fine unit is 15,625/128 fs. -/

namespace Sys2Proof.Machine

/-! ### Results -/

/-- The first failing cause of the results, the command's (R262; log entry 81). -/
def firstCause (rs : Tab CalRes) : Nat := ((rs.find? (fun p => p.2.cause != 0)).map (fun p => p.2.cause)).getD 0

/-- A square root rounded to the nearest integer, of a fraction. -/
def rootRnd (num den : Nat) : Nat := (isqrt (4 * num / max 1 den) + 1) / 2

/-- CAL_RESULT (Table 13 of ch. 09). -/
def calResWords (s : State) (i : Nat) : List Word :=
  let r := tabGet ({} : CalRes) s.cal.results i
  [pack [(32, min (2 ^ 32 - 1) r.rms), (32, min (2 ^ 32 - 1) r.peak)],
   pack [(4, r.cause), (4, min 15 r.passes), (1, b2n (s.cal.applied && r.cause == 0 && r.samples != 0)), (23, 0),
     (32, min (2 ^ 32 - 1) r.samples)]]

/-- The state in which a calibration starts (R257 to R261). -/
def calBegin (kind st mask : Nat) (left : List Nat) (req : List Word) (s : State) : State :=
  let s1 := calUpd (fun c => { c with
    st := st, kind := kind, startAt := s.up, mask := mask, left := left, req := req, results := [], resKind := kind
    passed := 0, failed := 0, shot := 0, blocks := 0, fired := 0, events := [], shotAt := [], firedAt := none, newVals := []
    redo := [], passAt := s.up, applied := false, teamN := if kind = 3 then teamSizeM1 s else c.teamN }) s
  (tilesOf mask).foldl (fun a ti => tileUpd ti (fun x => { x with calAsk := true }) a) s1

/-- A calibration whose objects have all finished ends (R257 step 8). -/
def calFinish (s : State) : State := if s.cal.left.isEmpty then calEnd (firstCause s.cal.results) s else s

/-- A calibration runs on this device or on its team (R257, R261; log entry 110). -/
def teamCalibrates (s : State) : Bool := calRunning s || (teamEn s && decide (s.team.peerCal % 2 ^ (teamSizeM1 s + 1) ≠ 0))

/-- The checks of R257 step 1 of the device, in the order in which it lists them: lock, safe state, another calibration, a
recorder. R295 lists the safe state before lock, "as each command's rules require"; with both failing, as after holdover
expiry, Table 8 of ch. 02 has the calibrations refused with NOT_LOCKED (R57; DEDUCED, log entry 167). -/
def calDev (s : State) (mask : Nat) : Nat :=
  let busy := fun (ti : Nat) =>
    let st := (tileGet s ti).rcd.st
    st == .filling || st == .frozen || st == .reading
  if s.tb.st != .locked then stNotLocked
  else if s.safe.safe then stSafe
  else if teamCalibrates s || (tilesOf mask).any busy then stNoRes
  else stOk

/-! ### Leaving service (R256) -/

/-- The last post-window of a tile has closed and the last edge of its emitter has launched. -/
def tileFree (s : State) (ti : Nat) : Bool :=
  let x := tileGet s ti
  x.cur.isNone && x.shots.all (fun e => e.judge != .acquired)
    && (emGet s ti).vols.all (fun v => !inProgress v && !notStarted v) && s.pb.offers.all (fun o => o.ch != ti)

/-- A named tile leaves service; once none waits, the unit measures. -/
def leaveService (ti : Nat) (s : State) : State :=
  if calRunning s && (tileGet s ti).calAsk && tileFree s ti then
    let s1 := tileUpd ti (fun x => { x with calAsk := false, calOut := true
                                            rcd := if x.rcd.st == .hold || x.rcd.st == .armed then { x.rcd with st := .disarmed } else x.rcd }) s
    calUpd (fun c => { c with passAt := s.up, st := if (tilesOf s1.cal.mask).any (fun t => (tileGet s1 t).calAsk) then c.st else 2 }) s1
  else s

/-! ### CAL.LIN (R257, R258) -/

/-- The centre of code k less mid-scale, in fine units (R246). -/
def linX (k : Nat) : Int := 64 * k + 32 - 2048

/-- Σ x² over the 64 codes. -/
abbrev linSxx : Int := 89456640

/-- The position of code k, or the summed positions of the 64 fine codes of group k, that the tables in force and the
active user layer predict, times 64, in fine units (R246, R247, R257 step 5): converter 18 of a tile is its emitter, 16
and 17 its reference converters. An emitter's fine code is the one it launches at, less the terms that R69 adds on the
way to it; TEAM_OFS cancels against that of the reference TDC (DEDUCED, log entry 111). -/
def linPredict (s : State) (t c k : Nat) : Int :=
  if c = 18 then
    let w := cfgW s .calEm t 0
    (List.range 64).foldl (fun (a : Int) (j : Nat) =>
      let f : Int := ((64 * k + j : Nat) : Int)
      a + f - linE s t (64 * k + j) - skewF s t s.cal.bandActive - sfld w 63 40 - rndDiv (sfld w 27 16 * (f - 2048)) 65536) 0
  else if c < 16 then
    let w := cfgW s .calRx (16 * t + c) 0
    64 * codePos k (linR s (16 * t + c) k) (sfld w 7 0) (sfld w 27 16)
  else
    let tr := refTrims s t (c == 16)
    64 * codePos k (linRef s t (c == 16) k) tr.1 tr.2

/-- The residuals of a converter in 2⁻¹³ fs, with the sign in which less of the fitted terms takes them away (R257 step
5; log entry 111): a TDC's predicted less measured positions, an emitter's measured less predicted ones. -/
def linResid (s : State) (t c : Nat) (pos : List Int) : List Int :=
  pos.mapIdx (fun k m =>
    let d := 15625 * linPredict s t c k - 8192 * m
    if c = 18 then -d else d)

/-- The fitted offset and slope in trim units, and the residual left after them in 2⁻²⁴ fs: TDC (offset in 1/16 receive
LSB) or emitter interpolator (offset in fine units, groups of 64 fine codes). -/
def linFit (em : Bool) (r : List Int) : Int × Int × List Int :=
  let sr := r.foldl (· + ·) 0
  let srx := (r.mapIdx (fun k x => x * linX k)).foldl (· + ·) 0
  let g := rndDiv (srx * 2 ^ 10) (15625 * linSxx).toNat
  let o := if em then rndDiv (sr * 2 * linSxx + 64 * srx) (2 ^ 13 * 15625 * linSxx).toNat else rndDiv sr (2 ^ 13 * 31250)
  (o, g, r.mapIdx (fun k x =>
    if em then x * 2 ^ 11 - o * 15625 * 2 ^ 17 - g * 15625 * (2 * linX k - 1)
    else x * 2 ^ 11 - o * 15625 * 2 ^ 19 - g * 15625 * 2 * linX k))

/-- The object, word and fields (offset, then gain) of the trims of converter c of tile t (Tables 4 and 5 of ch. 09). -/
def linTrim (t c : Nat) : CfgKind × Nat × Nat × (Nat × Nat) × (Nat × Nat) :=
  if c < 16 then (.calRx, 16 * t + c, 0, (7, 0), (27, 16))
  else if c = 16 then (.calEm, t, 1, (7, 0), (23, 12))
  else if c = 17 then (.calEm, t, 1, (31, 24), (47, 36))
  else (.calEm, t, 0, (63, 40), (27, 16))

/-- A value fits a signed field. -/
def fits (f : Nat × Nat) (v : Int) : Bool :=
  decide (-(2 ^ (f.1 - f.2) : Int) ≤ v) && decide (v < (2 ^ (f.1 - f.2) : Int))

/-- A new value of a user-layer field. -/
def trimOf (k : CfgKind) (i w : Nat) (f : Nat × Nat) (v : Int) : Trim :=
  { key := cfgKey k i, word := w, hi := f.1, lo := f.2, val := twos (f.1 - f.2 + 1) v }

/-- A converter is judged: its result and its new trims. -/
def linJudge (s : State) (t c : Nat) (pos : List Int) : CalRes × List Trim :=
  let em := c == 18
  let (o, g, after) := linFit em (linResid s t c pos)
  let (k, i, w, fo, fg) := linTrim t c
  let act := (cfgObj s k i).getD w 0
  let o' := sfld act fo.1 fo.2 - o
  let g' := sfld act fg.1 fg.2 - g
  let peak := after.foldl (fun (a : Nat) x => max a x.natAbs) 0
  let sq := after.foldl (fun (a : Nat) x => a + x.natAbs * x.natAbs) 0
  let limit := if em then 1500 else 2000
  let ok := fits fo o' && fits fg g' &&
    (!em || (laterCfgs s).all (fun x => (teamOfsIn s.fact.mac x).all (fun team => skewsOk s t team o')))
  let old := tabGet ({} : CalRes) s.cal.results (19 * t + c)
  let res : CalRes := { rms := rootRnd sq (64 * 2 ^ 48), peak := (rndDiv (peak : Int) (2 ^ 24)).toNat
                        cause := if limit * 2 ^ 24 < peak then 2 else if ok then 0 else 4
                        passes := old.passes + 1, samples := (old.passes + 1) * 2 ^ 19 }
  (res, [trimOf k i w fo o', trimOf k i w fg g'])

/-- A tile whose pass has ended is judged (R257 step 6): it rejoins where all 19 converters pass. -/
def linTile (ps : List (Nat × List Int)) (ti : Nat) (s : State) : State :=
  let of := fun (c : Nat) => ps.find? (fun r => r.1 == 19 * ti + c)
  if !(s.cal.left.contains ti && (tileGet s ti).calOut && (List.range 19).all (fun c => (of c).isSome)) then s
  else
    let run := (List.range 19).map (fun c => linJudge s ti c (((of c).map (fun r => r.2)).getD []))
    let s1 := calUpd (fun c => { c with
      results := run.zipIdx.foldl (fun t r => tabSet {} t (19 * ti + r.2) r.1.1) c.results
      redo := c.redo.filter (fun x => x != ti), passAt := s.up }) s
    if run.all (fun r => r.1.cause == 0) then
      rejoinTile ti (calUpd (fun c => { c with
        newVals := c.newVals ++ (run.map (fun r => r.2)).flatten, passed := c.passed + 19, left := c.left.erase ti }) s1)
    else s1

/-- A pass of CAL.LIN ends on the tiles whose converters are given (R257). -/
def linPass (rs : List (Nat × List Int)) (s : State) : State :=
  if calRunning s && s.cal.kind == 1 then calFinish ((tilesOf s.cal.mask).foldl (fun a ti => linTile rs ti a) s) else s

/-- A tile has not passed 50 ms after acceptance (R257 step 7, R263). -/
def linTimeout (ti : Nat) (s : State) : State :=
  if calRunning s && s.cal.kind == 1 && s.cal.left.contains ti then
    let s1 := reachUp (s.cal.startAt + 50 * fineMs) s
    let why := fun (r : CalRes) => if s.cal.redo.contains ti then 7 else if r.passes = 0 then 1 else if r.cause = 0 then 2 else r.cause
    calFinish (tileBack ti (calUpd (fun c => { c with
      results := (List.range 19).foldl (fun t k => tabUpd {} t (19 * ti + k) (fun r => { r with cause := why r })) c.results
      failed := c.failed + 19, left := c.left.erase ti }) s1))
  else s

/-! ### CAL.ZERO (R259, R260) -/

/-- A field of the request. -/
def zeroF (s : State) (n hi lo : Nat) : Nat := fld (s.cal.req.getD n 0) hi lo

/-- The words of CAL.ZERO lie in their ranges (R259, R260). -/
def zeroRange (c : Cmd) : Bool :=
  c.w 1 != 0 && onlyBits (c.w 2) [(63, 48), (45, 24), (15, 0)] && onlyBits (c.w 3) [(35, 0)]
    && decide (1 ≤ fld (c.w 2) 15 0) && decide (2 ≤ fld (c.w 4) 63 48) && decide (1 ≤ fld (c.w 4) 47 32)
    && decide (1 ≤ fld (c.w 4) 31 16) && decide (1 ≤ fld (c.w 4) 15 0)
    && decide (fld (c.w 2) 15 0 * fld (c.w 4) 63 48 ≤ 400000)

/-- What the device says to CAL.ZERO. -/
def zeroDev (s : State) (c : Cmd) : Nat :=
  let em := fld (c.w 2) 45 40
  let d := calDev s (c.w 1).toNat
  if d ≠ stOk then d
  else if !(c.w 1).toNat.testBit em || cfgF s .emCh em 1 37 36 != 2 then stIncons
  else stOk

/-- Channels that CAL.ZERO measures. -/
def zeroChannels (mask chMask : Nat) : List Nat := ((tilesOf mask).map (fun t => (maskBits 16 chMask).map (fun c => 16 * t + c))).flatten

/-- The sequence number that the volleys of calibration shots carry; no shot of the Playbook has it. -/
abbrev calSeq : Nat := 2 ^ 40

/-- The time at which the next calibration shot is fired has come: SHOT_PERIOD_US after the last (R259, R260). -/
def zeroReach (s : State) : State :=
  match s.cal.firedAt with
  | some t => reachUp (t + zeroF s 3 63 48 * fineUs) s
  | none => s

/-- A calibration shot of a block is fired (R260 step 3): its shot time lies the lead of R115 ahead (log entry 82). -/
def zeroShot (dither : Nat) (s0 : State) : State :=
  if calRunning s0 && s0.cal.kind == 2 && s0.cal.st == 2 && decide (s0.cal.shot < zeroF s0 1 15 0) then
    let s := zeroReach s0
    let em := zeroF s 1 45 40
    let at_ := s.now + 300 * fineNs + (dither * 4096 : Nat) + (cfgF s .emCh em 0 35 0 : Nat)
    let o : Offer := { ch := em, seq := calSeq, pulses := pulsesOf s em (zeroF s 1 39 32) at_, code := zeroF s 1 31 24
                       arrive := s.now + crossing1 s }
    let shot := s.cal.shot + 1
    let s1 := if o.pulses.isEmpty then s else pbUpd (fun p => { p with offers := p.offers ++ [o] }) s
    calUpd (fun c => { c with shot := shot, fired := c.fired + zeroF s 3 63 48, firedAt := some s.up
                              shotAt := c.shotAt ++ [(c.blocks * zeroF s 1 15 0 + shot, at_)] }) s1
  else s0

/-- The time by which the gates of a block's shots are over and what was timed in them is decided (R199, R260). -/
def zeroOver (s : State) : Int :=
  let half : Int := (zeroF s 3 47 32 * 4096 : Nat)
  s.cal.shotAt.foldl (fun a x => s.cal.left.foldl (fun (b : Int) ch =>
    max b (x.2 + zeroGate s ch + half + eventWait s ch)) a) s.now

/-- The sums of a channel's events: their number, Σt and Σt². -/
def zeroSums (l : List (Nat × Int)) : Nat × Int × Int :=
  (l.length, l.foldl (fun a e => a + e.2) 0, l.foldl (fun a e => a + e.2 * e.2) 0)

/-- n³ · σ² ÷ n in fine units squared: n Σt² − (Σt)². -/
def zeroVar (l : List (Nat × Int)) : Nat := let z := zeroSums l; (z.1 * z.2.2 - z.2.1 * z.2.1).toNat

/-- The largest deviation of a sub-block's mean from t̄ in fs, over `shots` shots (R260 step 5). -/
def zeroPeak (shots : Nat) (l : List (Nat × Int)) : Nat :=
  let z := zeroSums l
  (List.range 8).foldl (fun a j =>
    let b := zeroSums (l.filter (fun e => (e.1 - 1) * 8 / max 1 shots == j))
    max a (rndDiv (((b.2.1 * z.1 - z.2.1 * b.1).natAbs * 15625 : Nat) : Int) (b.1 * z.1 * 128)).toNat) 0

/-- A channel has enough events within its limit (R260 step 6). -/
def zeroPass (s : State) (l : List (Nat × Int)) : Bool :=
  let n := l.length
  decide (zeroF s 3 15 0 ≤ n) && decide (zeroVar l * 15625 * 15625 ≤ zeroF s 3 31 16 * zeroF s 3 31 16 * n * n * n * 128 * 128)

/-- The user range zero that a channel's events give (R260 step 7). -/
def zeroUser (s : State) (ch : Nat) (l : List (Nat × Int)) : Int :=
  let z := zeroSums l
  rndDiv z.2.1 z.1 - sfld (cfgW s .echo (ch / 256) 1) 23 0 - (zeroF s 2 35 0 : Nat)
    - factOne s (entS 32 s.fact.zero) ch

/-- A measured channel takes its final result. -/
def zeroChannel (ch : Nat) (s : State) : State :=
  let l := tabGet [] s.cal.events ch
  let z := zeroUser s ch l
  let ok := zeroPass s l
  let cause := if ok then (if fits (63, 40) z then 0 else 4) else if l.length < zeroF s 3 15 0 then 3 else 2
  let n := l.length
  let r : CalRes := { rms := rootRnd (zeroVar l * 15625 * 15625) (n * n * n * 128 * 128), peak := zeroPeak (s.cal.blocks * zeroF s 1 15 0) l
                      samples := n, cause := cause, passes := s.cal.blocks }
  calUpd (fun c => { c with
    results := tabSet {} c.results ch r
    passed := if cause = 0 then c.passed + 1 else c.passed
    failed := if cause = 0 then c.failed else c.failed + 1
    newVals := if cause = 0 then c.newVals ++ [trimOf .calRx ch 0 (63, 40) z] else c.newVals }) s

/-- A block of CAL.ZERO ends, its gates over (R260 steps 5 to 7). -/
def zeroBlock (s0 : State) : State :=
  if calRunning s0 && s0.cal.kind == 2 && s0.cal.st == 2 && s0.cal.shot == zeroF s0 1 15 0 then
    let s := decideAll false (reach (zeroOver s0) s0)
    let s1 := calUpd (fun c => { c with blocks := c.blocks + 1, shot := 0, shotAt := [] }) s
    let all := s1.cal.left.all (fun ch => zeroPass s1 (tabGet [] s1.cal.events ch))
    if !all && decide (s1.cal.fired + blockUs s1 ≤ 400000) then s1
    else calFinish (calUpd (fun c => { c with left := [] }) (s1.cal.left.foldl (fun a ch => zeroChannel ch a) s1))
  else s0

/-- CAL.ZERO has not finished 2 s after acceptance (R260 step 8). -/
def zeroTimeout (s : State) : State :=
  if calRunning s && s.cal.kind == 2 then calAbort 1 (reachUp (s.cal.startAt + 2000 * fineMs) s) else s

/-! ### CAL.TEAM (R261, R276) -/

/-- This device and the members it must see are locked, a master to REF_IN; a follower's reference is NREF_IN (R269). -/
def membersLocked (s : State) : Bool :=
  s.tb.st == .locked && (!isMaster s || cfgF s .tpll 0 0 29 28 == 0) && (!teamEn s || (upTo 0 (teamSizeM1 s)).all (fun d => d == devNum s || s.team.peerLock.testBit d))

/-- What the device says to CAL.TEAM (R261 step 1). -/
def teamCalDev (s : State) : Nat :=
  if !membersLocked s then stNotLocked
  else if teamCalibrates s then stNoRes
  else if !isMaster s || !s.team.formed then stIncons
  else stOk

/-- The exchanges of one hop measurement. -/
abbrev HopMeas : Type := List Stamps

/-- A hop measurement: the mean of its 1,024 exchanges, in 1/2,048 fine unit (R275): half of each exchange's twofold
estimate. -/
def hopMean (s : State) (member : Nat) (xs : HopMeas) : Int := (xs.map (hopTwice (hopAsym s member))).foldl (· + ·) 0

/-- The 64 values of member d: each the sum of one hop measurement on each hop from the master to d (R276). -/
def memberVals (s : State) (rounds : List (List HopMeas)) (d : Nat) : List Int :=
  rounds.map (fun r => ((r.take d).mapIdx (fun h xs => hopMean s (h + 1) xs)).foldl (· + ·) 0)

/-- The mean of 64 values in 1/2,048 fine unit, in fine units. -/
def mean64 (l : List Int) : Int := rndDiv (l.foldl (· + ·) 0) (64 * 2048)

/-- A member is judged: TEAM_OFS in fine units, and its result, in fs of 15,625/128 to a fine unit (R261 step 3). `room`
is the least and the greatest TEAM_OFS that R248 leaves it (log entry 110). -/
def memberRes (l : List Int) (room : Int × Int) : Int × CalRes :=
  let sum := l.foldl (· + ·) 0
  let ofs := mean64 l
  let devs : List Nat := l.map (fun x => (64 * x - sum).natAbs * 15625)
  let peak := devs.foldl max 0
  let sq := devs.foldl (fun (a : Nat) x => a + x * x) 0
  (ofs, { rms := rootRnd sq (64 * 2 ^ 48), peak := (rndDiv (peak : Int) (2 ^ 24)).toNat, samples := 64, passes := 1
          cause := if 2000 * 2 ^ 24 < peak then 2
                   else if fits (23, 0) ofs && decide (room.1 ≤ ofs) && decide (ofs ≤ room.2) then 0 else 4 })

/-- The measurements complete: on the master the members are judged and the apply time is sent; a follower keeps the
estimate of its upstream hop (R261, R276, R286): the mean of its 64 hop measurements, also where the calibration then fails,
which the spec does not say (DESIGN CHOICE, log entry 178). -/
def teamMeasured (rounds : List (List HopMeas)) (room : List (Int × Int)) (s : State) : State :=
  let d := devNum s
  if isFollower s then
    if rounds.all (fun r => decide (d ≤ r.length)) then
      { s with team := { s.team with hopOfs := mean64 (rounds.map (fun r => hopMean s d (r.getD (d - 1) []))) } }
    else s
  else if !(calRunning s && s.cal.kind == 3 && rounds.all (fun r => decide (r.length = s.cal.teamN))) then s
  else
    let rs := (upTo 1 s.cal.teamN).map (fun m => memberRes (memberVals s rounds m) (room.getD (m - 1) (0, 0)))
    let bad := (rs.filter (fun r => r.2.cause != 0)).length
    let s1 := calUpd (fun c => { c with
      results := (rs.zipIdx).foldl (fun t p => tabSet {} t (p.2 + 1) p.1.2) c.results
      passed := rs.length - bad, failed := bad, redo := [] }) s
    if bad ≠ 0 then calEnd 9 s1
    else
      let d := s1.now + 100 * fineMs
      let s2 := out (.nolgil 5 ((d - teamOfs s1) :: rs.map (fun r => r.1))) { s1 with team := { s1.team with calApply := some (0, d) } }
      calEnd 0 s2

/-- The apply time is reached: STANDBY loads for a step with the new TEAM_OFS (R261 step 4); an offset that R248 leaves
this device no room for is refused (R248). -/
def teamApply (s : State) : State :=
  match s.team.calApply with
  | none => s
  | some (ofs, d) =>
    let s1 := reach d { s with team := { s.team with calApply := none } }
    let w := setFld ((userNext s1 .calDev 0).getD 0 0) 23 0 (twos 24 ofs)
    let ok := (laterCfgs s1).all (fun x => (List.range 64).all (fun ch => (emOfsIn s1 x ch).all (skewsOk s1 ch ofs)))
    if !ok then calFeed s1
    else calFeed (calUpd (fun c => { c with teamStep := true }) (pendUser (cfgKey .calDev 0) [w] s1))

/-- CAL.TEAM has not finished 1 s after acceptance (R261 step 5, R263). -/
def teamTimeout (s : State) : State :=
  if calRunning s && s.cal.kind == 3 then
    calAbort (if s.cal.redo.isEmpty then 1 else 7) (reachUp (s.cal.startAt + 1000 * fineMs) s)
  else s

/-- 1 ms after a Huddle the master starts CAL.TEAM (R280), where the command would be accepted. -/
def autoCal (s : State) : State :=
  match s.team.autoCalAt with
  | none => s
  | some t =>
    let s1 := reachUp t { s with team := { s.team with autoCalAt := none } }
    if teamCalDev s1 = stOk ∧ !bgBusy s1 8 then calBegin 3 2 0 [] [] s1 else s1

/-! ### STANDBY (R251 to R254) -/

/-- STANDBY has been loaded; while idle the step follows at once. -/
def standbyLoaded (s : State) : State :=
  if s.cal.loading && decide (5 ≤ s.ctl.bootStage) && !s.ctl.fwFault then
    let s1 := calUpd (fun c => { c with loading := false, loadedAt := some s.up, bandPending := c.loadBand }) s
    if isIdle s1 then calStep s1 else s1
  else s

/-- A step has waited 1 s (R254): open pixels and those to come carry CAL_STALE. -/
def staleNow (s : State) : State :=
  match s.cal.loadedAt with
  | none => s
  | some t =>
    if s.cal.stale then s
    else
      let s1 := reachUp (t + 1000 * fineMs) s
      let mark := fun (p : Nat × Chan) => if p.2.pix.opened then (p.1, { p.2 with pix := { p.2.pix with calStale := true } }) else p
      decideCause 25 0 s1.cal.gen (calUpd (fun c => { c with stale := true }) { s1 with chan := s1.chan.map mark })

/-! ### Saving and restoring (R264) -/

/-- A key of the user layer. -/
def userKey (n : Nat) : Bool := n / 2 ^ 20 == kindIx .calRx || n / 2 ^ 20 == kindIx .calEm || n / 2 ^ 20 == kindIx .calDev

/-- The active user layer. -/
def userLayer (s : State) : List (Nat × Obj) := s.cfg.filter (fun e => userKey e.1)

/-- The older copy: one that is not valid, else the one saved first. -/
def olderCopy (s : State) : Nat :=
  let m := s.pwr.mram
  if !copyGood s m.copy0 then 0 else if !copyGood s m.copy1 then 1 else if m.copy0.seqNo ≤ m.copy1.seqNo then 0 else 1

/-- CAL.SAVE_USER starts its page writes; how many pages a copy takes is free (log entry 54). -/
def saveUser (s : State) : State :=
  let (f, s1) := drawFree s
  nvmPut (.userCopy (olderCopy s) (userLayer s) (f % 16)) s1

/-- The user copy that CAL.RESTORE names; ZERO is empty. -/
def restoreVals (s : State) (opt : Nat) : List (Nat × Obj) :=
  if opt = 0 then s.pwr.mram.copy0.vals else if opt = 1 then s.pwr.mram.copy1.vals else []

/-- CAL.RESTORE: every object of the user layer waits for the copy's words. -/
def restoreUser (opt : Nat) (s : State) : State :=
  let vals := restoreVals s opt
  let zero := fun (n : Nat) => match keyOf n with
    | some (k, i) => resetWords s.fact.mac k i
    | none => []
  let others := ((userLayer s).map (fun e => e.1) ++ s.cal.pendUser.map (fun e => e.1)).filter (fun n => !vals.any (fun v => v.1 == n))
  let s1 := others.foldl (fun a n => pendUser n (zero n) a) s
  calFeed (vals.foldl (fun a v => pendUser v.1 v.2 a) s1)

/-- What the device says to CAL.RESTORE (R264, R343): the layer that it leaves must keep R248, with the sets that wait
too. -/
def restoreDev (s : State) (c : Cmd) : Nat :=
  if calRunning s then stNoRes
  else if (c.opt = 0 ∧ !copyGood s s.pwr.mram.copy0) ∨ (c.opt = 1 ∧ !copyGood s s.pwr.mram.copy1) then stNoRes
  else if !(laterCfgs (restoreUser c.opt s)).all (userOk s s.fact.mac) then stRange
  else stOk

/-- The six words of CAL.GET_SKEW (R456). -/
def skewWords (s : State) (ch : Nat) : List Word :=
  (List.range 6).map (fun b => BitVec.ofNat 64 (if s.cal.factoryOk then twos 32 (skewF s ch b) else 0))

end Sys2Proof.Machine
end

