-- ==== Sys2Proof/Machine/Calibrate.lean ====
section
/-! DEFINITION. The meanings of the calibration events and of the CAL commands that are no configuration (ch. 09). -/

namespace Sys2Proof.Machine

/-- CAL_STANDBY_LOADED (R251, R252). -/
def execCalStandbyLoaded (dt : Nat) (s : State) : Host.Outcome State Fault Refusal := doneOn dt standbyLoaded s

/-- CAL_STALE_TIMEOUT (R254). -/
def execCalStaleTimeout (dt : Nat) (s : State) : Host.Outcome State Fault Refusal := doneOn dt staleNow s

/-- CAL_TILE_LEAVE_SERVICE (R256). -/
def execCalTileLeaveService (dt : Nat) (tile : Fin 64) (s : State) : Host.Outcome State Fault Refusal :=
  doneOn dt (leaveService tile.val) s

/-- CAL_LIN_PASS_END (R257, R258): the measured positions of converters by result index, 64 each, in fs. -/
def execCalLinPassEnd (dt : Nat) (positions : List (Nat × Vector Int 64)) (s : State) : Host.Outcome State Fault Refusal :=
  doneOn dt (linPass (positions.map (fun p => (p.1, p.2.toList)))) s

/-- CAL_LIN_TIMEOUT (R257). -/
def execCalLinTimeout (dt : Nat) (tile : Fin 64) (s : State) : Host.Outcome State Fault Refusal :=
  doneOn dt (linTimeout tile.val) s

/-- CAL_ZERO_SHOT (R260). -/
def execCalZeroShot (dt : Nat) (dither : BitVec 12) (s : State) : Host.Outcome State Fault Refusal :=
  doneOn dt (zeroShot dither.toNat) s

/-- CAL_ZERO_BLOCK_END (R260). -/
def execCalZeroBlockEnd (dt : Nat) (s : State) : Host.Outcome State Fault Refusal := doneOn dt zeroBlock s

/-- CAL_ZERO_TIMEOUT (R260). -/
def execCalZeroTimeout (dt : Nat) (s : State) : Host.Outcome State Fault Refusal := doneOn dt zeroTimeout s

/-- CAL_TEAM_MEASURE_DONE (R261, R275, R276): 64 rounds of hop measurements, and the room that R248 leaves each member. -/
def execCalTeamMeasureDone (dt : Nat) (meas : TeamMeas) (s : State) :
    Host.Outcome State Fault Refusal :=
  doneOn dt (teamMeasured (meas.rounds.toList.map (fun r => r.map Vector.toList)) meas.room) s

/-- CAL_TEAM_APPLY_TIME (R261). -/
def execCalTeamApplyTime (dt : Nat) (s : State) : Host.Outcome State Fault Refusal := doneOn dt teamApply s

/-- CAL_TEAM_TIMEOUT (R261). -/
def execCalTeamTimeout (dt : Nat) (s : State) : Host.Outcome State Fault Refusal := doneOn dt teamTimeout s

/-- AUTO_CAL_START (R280). -/
def execAutoCalStart (dt : Nat) (s : State) : Host.Outcome State Fault Refusal := doneOn dt autoCal s

/-- CAL.LIN (R256, R257). -/
def execCalLin (dt : Nat) (mbx : Fin 32) (s : State) : Host.Outcome State Fault Refusal :=
  doneOn dt (runBg mbx.val 0x0840 (rowNone 2 false (fun c => c.w 1 != 0)) (fun s c => calDev s (c.w 1).toNat)
    (fun c s => calBegin 1 1 (c.w 1).toNat (tilesOf (c.w 1).toNat) [c.w 1] s)) s

/-- CAL.ZERO (R256, R259, R260). -/
def execCalZero (dt : Nat) (mbx : Fin 32) (s : State) : Host.Outcome State Fault Refusal :=
  doneOn dt (runBg mbx.val 0x0841 (rowNone 5 false zeroRange) zeroDev
    (fun c s => calBegin 2 1 (c.w 1).toNat (zeroChannels (c.w 1).toNat (fld (c.w 2) 63 48)) [c.w 1, c.w 2, c.w 3, c.w 4] s)) s

/-- CAL.TEAM (R261). -/
def execCalTeam (dt : Nat) (mbx : Fin 32) (s : State) : Host.Outcome State Fault Refusal :=
  doneOn dt (runBg mbx.val 0x0842 (rowNone 1 false anyCmd) (fun s _ => teamCalDev s)
    (fun _ s => calBegin 3 2 0 [] [] s)) s

/-- CAL.SAVE_USER (R264, R426). -/
def execCalSaveUser (dt : Nat) (mbx : Fin 32) (s : State) : Host.Outcome State Fault Refusal :=
  doneOn dt (runBg mbx.val 0x0843 (rowNone 1 false anyCmd) (fun s _ => if calRunning s then stNoRes else stOk)
    (fun _ s => saveUser s)) s

/-- CAL.RESTORE (R253, R264, R343). -/
def execCalRestore (dt : Nat) (mbx : Fin 32) (s : State) : Host.Outcome State Fault Refusal :=
  doneOn dt (runAct mbx.val 0x0844
    (fun _ c => { len := lenIs c 1, range := selPlain c false [0, 1, 2] && selNone c }) restoreDev
    (fun c s => ([], restoreUser c.opt s))) s

/-- CAL.GET_STATUS (R265). -/
def execCalGetStatus (dt : Nat) (mbx : Fin 32) (s : State) : Host.Outcome State Fault Refusal :=
  doneOn dt (runStat mbx.val 0x0860 (rowNone 1 true anyCmd) (fun _ s => calStatus s) (fun _ s => calClear s)) s

/-- CAL.GET_RESULT (R266, R343). -/
def execCalGetResult (dt : Nat) (mbx : Fin 32) (s : State) : Host.Outcome State Fault Refusal :=
  doneOn dt (runStat mbx.val 0x0861
    (fun s c => { len := lenIs c 1, range := selPlain c false [0] && selRange c (calIndices s s.cal.resKind) 15 })
    (fun c s => (upTo c.first c.last).flatMap (calResWords s)) (fun _ s => s)) s

/-- CAL.GET_SKEW (R456). -/
def execCalGetSkew (dt : Nat) (mbx : Fin 32) (s : State) : Host.Outcome State Fault Refusal :=
  doneOn dt (runStat mbx.val 0x0862
    (fun _ c => { len := lenIs c 1, range := selPlain c false [0] && selRange c 64 5 })
    (fun c s => (upTo c.first c.last).flatMap (skewWords s)) (fun _ s => s)) s

end Sys2Proof.Machine
end

