-- ==== Sys2Proof/Machine/Compare.lean ====
section
/-! DEFINITION. The meanings of the comparators' events and of CMP.GET_STATUS (ch. 05). -/

namespace Sys2Proof.Machine

/-- MC_OUTPUT_CHANGE (R139, R149): the outputs of MC_TH_HI and MC_TH_LO. -/
def execMcOutputChange (dt : Nat) (m : Fin 34) (hi lo : Bool) (s : State) : Host.Outcome State Fault Refusal :=
  doneOn dt (monInputs m.val hi lo) s

/-- MC_BLANK_END (R150). -/
def execMcBlankEnd (dt : Nat) (m : Fin 34) (s : State) : Host.Outcome State Fault Refusal := doneOn dt (monBlankEnd m.val) s

/-- MC_FILTER_SAMPLE (R148). -/
def execMcFilterSample (dt : Nat) (m : Fin 34) (s : State) : Host.Outcome State Fault Refusal := doneOn dt (monFilter m.val) s

/-- MC_HOLD_END (R156). -/
def execMcHoldEnd (dt : Nat) (m : Fin 34) (s : State) : Host.Outcome State Fault Refusal := doneOn dt (monHoldEnd m.val) s

/-- MC_RESOLVE_SAMPLE (R153): for MC_TH_HI and MC_TH_LO, some true beyond, some false clear, none inside the band. -/
def execMcResolveSample (dt : Nat) (m : Fin 34) (hi lo : Option Bool) (s : State) : Host.Outcome State Fault Refusal :=
  doneOn dt (resolveSample m.val hi lo) s

/-- MONITOR_UNRESOLVED (R154). -/
def execMonitorUnresolved (dt : Nat) (m : Fin 34) (s : State) : Host.Outcome State Fault Refusal := doneOn dt (monLate m.val) s

/-- RX_SETTLE_DONE (R155). -/
def execRxSettleDone (dt : Nat) (ch : Fin 1024) (above : Bool) (s : State) : Host.Outcome State Fault Refusal :=
  doneOn dt (rxSettled ch.val above) s

/-- RX_OUTPUT_DEASSERT (R139, R143): the input falls below the hysteresis band. -/
def execRxOutputDeassert (dt : Nat) (ch : Fin 1024) (s : State) : Host.Outcome State Fault Refusal :=
  doneOn dt (fun s => rxOutput ch.val false s.now s) s

/-- RX_EVENT (R143, R164, R171, R178, R183). -/
def execRxEvent (dt : Nat) (ch : Fin 1024) (cycle : Int) (code : Fin 64) (high : Bool) (ecc : Fin 3) (s : State) :
    Host.Outcome State Fault Refusal :=
  doneOn dt (rxEvent ch.val cycle code.val high ecc.val) s

/-- PILE_LOST_EVENT (R166). -/
def execPileLostEvent (dt : Nat) (ch : Fin 1024) (s : State) : Host.Outcome State Fault Refusal := doneOn dt (pileLost ch.val) s

/-- CMP.GET_STATUS (R163): Table 11, then Table 9 per channel or Table 10 per monitor. -/
def execCmpGetStatus (dt : Nat) (mbx : Fin 32) (s : State) : Host.Outcome State Fault Refusal :=
  doneOn dt (runStat mbx.val 0x0460 (rowStat [(1024, 14), (32, 29)] true)
    (fun c s => cmpStatus s :: (upTo c.first c.last).flatMap (fun i => if c.opt = 1 then [monStatus s i] else rxStatus s i))
    (fun c s => cmpClear (c.opt == 1) c.first c.last s)) s

end Sys2Proof.Machine
end

