-- ==== Sys2Proof/Machine/Control.lean ====
section
/-! DEFINITION. The meanings of the control commands (ch. 11 and 12): host registers, SPI, UDP, journal and publication,
and the SYS and TXN groups. -/

namespace Sys2Proof.Machine

/-! ### Registers -/

/-- HOST_DOORBELL (R293). -/
def execHostDoorbell (dt : Nat) (iface : Fin 2) (mask : BitVec 32) (s : State) : Host.Outcome State Fault Refusal :=
  doneOn dt (overMask (ring iface.val) mask.toNat) s

/-- HOST_RELEASE (R293). -/
def execHostRelease (dt : Nat) (iface : Fin 2) (mask : BitVec 32) (s : State) : Host.Outcome State Fault Refusal :=
  doneOn dt (overMask (releaseMbx iface.val) mask.toNat) s

/-- A write over a bus (R287, R288): 32 bits, or over PCI Express 64 bits of two registers. One that no register takes,
past the page or out of line, or of 64 bits over SPI, has no effect (log entry 149). -/
def busWrite (iface : Fin 2) (offset : Nat) (data : BusData) (s : State) : State :=
  if wfOffset offset && wfWide iface offset data.high then
    match data.high with
    | some h => regWrite64 iface.val offset data.low.toNat h.toNat s
    | none => regWrite iface.val offset data.low.toNat s
  else s

/-- MBX_SLOT_WRITE (R293); outside the command slots the address names what stands there (R287). -/
def execMbxSlotWrite (dt : Nat) (iface : Fin 2) (offset : Nat) (data : BusData) (s : State) :
    Host.Outcome State Fault Refusal :=
  doneOn dt (if wfSlot offset && wfWide iface offset data.high then
      slotWrite iface.val offset data.low.toNat (data.high.map BitVec.toNat)
    else busWrite iface offset data) s

/-- IRQ_PENDING_CLEAR (R289, R363). -/
def execIrqPendingClear (dt : Nat) (iface : Fin 2) (mask : BitVec 32) (s : State) : Host.Outcome State Fault Refusal :=
  doneOn dt (irqClear iface.val mask.toNat) s

/-- SPI_ALERT_ACK (R363). -/
def execSpiAlertAck (dt : Nat) (s : State) : Host.Outcome State Fault Refusal := doneOn dt (irqClear 1 64) s

/-- SPI_ALERT_READ (R363). -/
def execSpiAlertRead (dt : Nat) (s : State) : Host.Outcome State Fault Refusal := doneOn dt alertLatch s

/-- PB_STREAM_DOORBELL (R129). -/
def execPbStreamDoorbell (dt : Nat) (value : BitVec 32) (s : State) : Host.Outcome State Fault Refusal :=
  doneOn dt (streamRing value.toNat) s

/-- REGISTER_WRITE (R287, R288). -/
def execRegisterWrite (dt : Nat) (iface : Fin 2) (offset : Nat) (data : BusData) (s : State) :
    Host.Outcome State Fault Refusal :=
  doneOn dt (busWrite iface offset data) s

/-- SPI WRITE (R299): word by word, or discarded where it is misaligned or no multiple of 4 bytes. -/
def execSpiWrite (dt : Nat) (addr : BitVec 16) (data : List (BitVec 8)) (s : State) : Host.Outcome State Fault Refusal :=
  doneOn dt (fun s =>
    if addr.toNat % 4 = 0 ∧ data.length % 4 = 0 then spiStore addr.toNat (chunks 4 data.length data) s else s) s

/-- SPI READ (R299). A misaligned read has no stated data. -/
def execSpiRead (dt : Nat) (addr : BitVec 16) (n : Nat) (s : State) : Host.Outcome State Fault Refusal :=
  doneOn dt (fun s =>
    let r := if addr.toNat % 4 = 0 then spiWords ((n + 3) / 4) addr.toNat s else freeBytes n s
    out (.miso (r.1.take n)) r.2) s

/-- SPI WRITE_C (R300): applied whole if it ends at its CRC and the CRC checks. -/
def execSpiWriteC (dt : Nat) (addr : BitVec 16) (count : BitVec 8) (data : List (BitVec 8)) (crc : BitVec 32) (ended : Bool)
    (s : State) : Host.Outcome State Fault Refusal :=
  doneOn dt (fun s =>
    let n := count.toNat
    if !ended ∨ data.length ≠ 4 * n ∨ crc32c (spiCrcBytes 0x12 addr.toNat n (data.map BitVec.toNat)) ≠ crc.toNat then
      { s with ctl := { s.ctl with spiCrcErrors := satAdd 8 s.ctl.spiCrcErrors 1 } }
    else if addr.toNat % 4 = 0 ∧ 1 ≤ n ∧ n ≤ 64 then spiStore addr.toNat (chunks 4 n data) s
    else s) s

/-- SPI READ_C (R299, R300): n words and their CRC. -/
def execSpiReadC (dt : Nat) (addr : BitVec 16) (count : BitVec 8) (s : State) : Host.Outcome State Fault Refusal :=
  doneOn dt (fun s =>
    let n := count.toNat
    if addr.toNat % 4 = 0 ∧ 1 ≤ n ∧ n ≤ 64 then
      let r := spiWords n addr.toNat s
      out (.miso (r.1 ++ leBytes 4 (crc32c (spiCrcBytes 0x0B addr.toNat n r.1)))) r.2
    else
      let r := freeBytes (4 * n + 4) s
      out (.miso r.1) r.2) s

/-- UDP_CTRL_DATAGRAM (R301, R302), as the switch delivers its frame (R366). -/
def execUdpCtrlDatagram (dt : Nat) (rx : FrameIn) (srcIp : BitVec 32) (srcUdp : BitVec 16)
    (data : UdpData) (s : State) : Host.Outcome State Fault Refusal :=
  doneOn dt (fun s => if wfFrame rx.frame then
      datagramRx rx.port.val rx.frame (cfgF s .ctrlPort 0 0 15 0)
        (udpCommand { ip := srcIp.toNat, port := srcUdp.toNat, swPort := rx.port.val, mac := rx.frame.srcMac } (udpNorm data)) s
    else s) s

/-! ### Transactions, publication, mirror -/

/-- TXN_TIMEOUT (R308): the open transaction's time runs out. -/
def execTxnTimeout (dt : Nat) (id : Nat) (s : State) : Host.Outcome State Fault Refusal :=
  doneOn dt (fun s =>
    match s.ctl.txns.find? (fun p => p.1 == id) with
    | some (_, t) => if t.st = .open then txnClose id .timedOut t (reachUp (t.lastAt + t.timeoutMs * fineMs) s) else s
    | none => s) s

/-- CFG_PUBLISH (R320, R394). -/
def execCfgPublish (dt : Nat) (s : State) : Host.Outcome State Fault Refusal := doneOn dt publish s

/-- JOURNAL_MIRROR_WRITE (R313, R314): 40 ms have passed without a frame boundary. -/
def execJournalMirrorWrite (dt : Nat) (s : State) : Host.Outcome State Fault Refusal :=
  doneOn dt (fun s => mirrorTick (reachUp (s.ctl.mirrorAt + 40 * fineMs) s)) s

/-! ### SYS (Table 3 of ch. 12); SYS.RESET and SYS.SELECT_BOOT stand with the power family -/

/-- SYS.SET_CTRL_PORT (R301). -/
def execSysSetCtrlPort (dt : Nat) (mbx : Fin 32) (s : State) : Host.Outcome State Fault Refusal :=
  doneOn dt (runCfg mbx.val 0x0001) s

/-- SYS.GET_CTRL_PORT (R324). -/
def execSysGetCtrlPort (dt : Nat) (mbx : Fin 32) (s : State) : Host.Outcome State Fault Refusal :=
  doneOn dt (runGet mbx.val 0x0081) s

/-- SYS.READ_JOURNAL (R316, R331). Where no entry lies at or after START_JSEQ the two numbers of the response are
free (log entry 50). -/
def execSysReadJournal (dt : Nat) (mbx : Fin 32) (s : State) : Host.Outcome State Fault Refusal :=
  doneOn dt (runAct mbx.val 0x0042 (rowQueue 2 (fun c => onlyBits (c.w 1) [(31, 0)])) devQueue (fun c s =>
    let es := (jHeld s).filter (fun e => decide (fld (c.w 1) 31 0 ≤ e.jseq))
    if es.isEmpty then
      let (a, s1) := drawFree s
      let (b, s2) := drawFree s1
      ([pack [(32, a), (32, b)]], s2)
    else ([pack [(32, (es.headD {}).jseq), (32, (es.reverse.headD {}).jseq)]], emitJournal c.first es s))) s

/-- SYS.READ_CONFIG (R331): one TELEMETRY record of TKIND 1 for each record of the image. -/
def execSysReadConfig (dt : Nat) (mbx : Fin 32) (s : State) : Host.Outcome State Fault Refusal :=
  doneOn dt (runAct mbx.val 0x0043 (rowQueue 1 anyCmd) devQueue (fun c s =>
    let img := imageOf s.cfg
    ([pack [(32, s.ctl.effEpoch), (32, digestOf s.cfg)], pack [(32, 0), (32, img.length)]],
     img.foldl (fun a r => telemRecord c.first 1 0 r a) s))) s

/-- SYS.GET_INFO (R349). -/
def execSysGetInfo (dt : Nat) (mbx : Fin 32) (s : State) : Host.Outcome State Fault Refusal :=
  doneOn dt (runStat mbx.val 0x0060 (rowNone 1 false anyCmd) (fun _ s => sysInfo s) (fun _ s => s)) s

/-- SYS.GET_STATUS (R327, R349). -/
def execSysGetStatus (dt : Nat) (mbx : Fin 32) (s : State) : Host.Outcome State Fault Refusal :=
  doneOn dt (runStat mbx.val 0x0061 (rowNone 1 true anyCmd) (fun _ s => sysStatus s) (fun _ s => sysClear s)) s

/-! ### TXN (Table 15 of ch. 12) -/

/-- TXN.OPEN (R306). -/
def execTxnOpen (dt : Nat) (mbx : Fin 32) (s : State) : Host.Outcome State Fault Refusal :=
  doneOn dt (take mbx.val 0x0D40 (fun c n s =>
    let h := headStatus s c { len := lenIs c 2, txn := true
                              range := selPlain c false [0] && selNone c && decide (1 ≤ (c.w 1).toNat)
                                && decide ((c.w 1).toNat ≤ 60000) }
    if h ≠ stOk then deny c h n s
    else if 4 ≤ openTxns s then deny c stNoRes n s
    else
      let id := s.ctl.nextTxn
      let s1 := { s with ctl := { s.ctl with nextTxn := id % 65535 + 1 } }
      respond c.mbx stOk false false n [BitVec.ofNat 64 id]
        (txnPut id { iface := mbxIface c.mbx, timeoutMs := (c.w 1).toNat, lastAt := s.up } s1))) s

/-- TXN.COMMIT (R309). -/
def execTxnCommit (dt : Nat) (mbx : Fin 32) (s : State) : Host.Outcome State Fault Refusal :=
  doneOn dt (runCommit mbx.val) s

/-- TXN.ABORT (R308). -/
def execTxnAbort (dt : Nat) (mbx : Fin 32) (s : State) : Host.Outcome State Fault Refusal :=
  doneOn dt (take mbx.val 0x0D42 (fun c n s =>
    let f := txnFind s c.first (mbxIface c.mbx)
    let h := headStatus s c { len := lenIs c 1, txn := true, named := f.isSome
                              range := selPlain c false [0] && selOne c 65536 }
    match f with
    | none => deny c h n s
    | some t =>
      if h ≠ stOk then deny c h n (txnTouch c.first (mbxIface c.mbx) s)
      else respond c.mbx stOk false false n [] (txnClose c.first .aborted t s))) s

/-- TXN.GET_STATUS (R348, R349): of any ID, by any interface. -/
def execTxnGetStatus (dt : Nat) (mbx : Fin 32) (s : State) : Host.Outcome State Fault Refusal :=
  doneOn dt (take mbx.val 0x0D60 (fun c n s =>
    let h := headStatus s c { len := lenIs c 1, txn := true, range := selPlain c false [0] && selOne c 65536 }
    if h ≠ stOk then deny c h n s else respond c.mbx stOk false false n (txnStatus s c.first) s)) s

end Sys2Proof.Machine
end

