-- ==== Sys2Proof/Machine/EchoOps.lean ====
section
/-! DEFINITION. The echo engines and the persistence of chapters 07 and 08: closures and fades, background, the pass, the
records of a pixel, tags and rows, and what the HIST and ECHO commands need. -/

namespace Sys2Proof.Machine

/-! ### Closures and cross-fades (R229, R230) -/

/-- The template in a bank of a quadrant (R228). -/
def bankOf (s : State) (q bank : Nat) : List Int := bankCoef (cfgObj s .coef (4 * bank + q))

/-- A fade ends on its target; a request that is queued runs from then on, unless its target is that bank (R230). -/
def fadeEnd (e : Eng) : Eng :=
  let e1 := { e with run := false, bank := e.target, pos := 0, m := 0, queued := none }
  match e.queued with
  | some (b, k) => if b = e.target then e1 else { e1 with run := true, target := b, m := k }
  | none => e1

/-- The closure of a pixel: its close instant, told apart from equal instants before a step of device time (R229). -/
def closureOf (c : Closed) : Nat × Int := (c.era, c.inst)

/-- The engine begins a closure: its template, FADE and BANK (R229). -/
def beginClosure (q : Nat) (at_ : Nat × Int) (s : State) : State :=
  let e := engGet s q
  if e.closure = some at_ then s
  else
    let a := bankOf s q e.bank
    let b := bankOf s q e.target
    let i := e.pos + 1
    let e1 := { e with closure := some at_ }
    engUpd q (fun _ =>
      if !e.run then { e1 with h := a, hFade := false, hBank := e.bank }
      else if e.m ≤ i then { fadeEnd e1 with h := b, hFade := false, hBank := e.target }
      else { e1 with pos := i, h := fadeCoef a b i e.m, hFade := true, hBank := if e.m ≤ 2 * i then e.target else e.bank }) s

/-! ### Background (R222 to R226) -/

/-- A channel's tracker. -/
def trackGet (s : State) (ch : Nat) : Track := tabGet {} s.track ch

/-- Change a channel's tracker. -/
def trackUpd (ch : Nat) (f : Track → Track) (s : State) : State := { s with track := tabUpd {} s.track ch f }

/-- A synchronising reset reaches a channel with a pixel (R226). -/
def trackReset (rst : Nat) (t : Track) : Track :=
  if t.rst < rst then { t with rho := if t.valid then t.frozen else 0, initLeft := 8, rst := rst } else t

/-- PRE_EXPO of a bin in ticks (R173). -/
def expoTicks (n : Nat) : Nat := min (2 ^ 32 - 1) (n / 64)

/-- ρ_m of a pixel (R222). -/
def pixRho (p : Pix) : Option Nat := measuredRho (p.preBin.foldl (· + ·) 0) ((p.preExpo.map expoTicks).foldl (· + ·) 0)

/-- The tracker after a pixel, and the density that the pixel uses (R223). -/
def trackUse (p : Pix) (t : Track) : Track × Nat :=
  let w0 := p.echoW.getD 0 0
  match fld w0 31 30 with
  | 1 =>
    let r := match pixRho p with
      | some m => trackRho t.rho m (fld w0 29 27)
      | none => t.rho
    ({ t with rho := r }, r)
  | 2 => (t, if t.valid then t.frozen else 0)
  | _ => (t, 0)

/-- ECHO.FREEZE_BG on a channel (R225): CAPTURE or CLEAR. -/
def freezeBg (clear : Bool) (ch : Nat) (s : State) : State :=
  trackUpd ch (fun t => if clear then { t with frozen := 0, valid := false } else { t with frozen := t.rho, valid := true }) s

/-! ### Records (R208, R236, R237, R356 to R359) -/

/-- The enabled queues of a SRC_KIND that a quadrant feeds (R352). -/
def sourceQueues (s : State) (kind q : Nat) : List Nat :=
  s.cfg.filterMap (fun e =>
    let w := e.2.getD 0 0
    if kindIx .queue = e.1 / 2 ^ 20 ∧ fld w 63 63 = 1 ∧ fld w 58 56 = kind ∧ (fld w 55 52).testBit q then some (e.1 % 2 ^ 20)
    else none)

/-- Word 0 of a point record with a channel and its echo bits (Table 5 of ch. 08). -/
def pointWord0 (c : Closed) (idx countM1 : Nat) : Word :=
  pack [(32, c.pix.frame), (16, c.pix.ord), (10, c.ch), (3, idx), (3, countM1)]

/-- The buffer of a pixel as the bank map lays it out (R192, R359). -/
def bufferWords (p : Pix) : List Word :=
  let n := if p.wide then 2048 else 4096
  let width := if p.wide then 32 else 16
  (chunks (64 / width) n (binList n p.bins)).map (fun bs => pack (bs.reverse.map (fun b => (width, b))))

/-- A HISTOGRAM_DUMP body (R359). -/
def dumpBody (c : Closed) : List Word :=
  pointWord0 c 0 0
    :: pack [(16, c.pix.shotsAcq), (4, c.pix.k), (1, b2n c.pix.wide), (27, 0), (16, c.pix.ofs)] :: bufferWords c.pix

/-- The pixel is counted for dumps, and dumped where it is due (R208). -/
def dumpPixel (c : Closed) (s : State) : State :=
  let n := (chanGet s c.ch).dumpCnt + 1
  let every := cfgF s .histTile (c.ch / 16) 0 15 0
  let s1 := chanUpd c.ch (fun x => { x with dumpCnt := n }) s
  if every ≠ 0 ∧ n % every = 0 ∧ (cfgF s .histTile (c.ch / 16) 1 15 0).testBit (c.ch % 16) then
    (sourceQueues s1 2 (c.ch / 256)).foldl (fun a q => emitRecord q 3 1 (dumpBody c) a) s1
  else s1

/-- The FLAGS of a PIXEL_HEADER (Table 4 of ch. 13). -/
def headerFlags (d : Done) : Nat :=
  let p := d.px.pix
  ([p.ecc, p.coast, p.slew, decide (p.extCount ≠ 0), decide (p.satEvents ≠ 0), decide (p.preShort ≠ 0), d.bgInit, d.bgNone,
    d.fade, d.bank == 1, p.haltClose, p.calMixed, p.calStale, p.teamCoast, p.teamStale, p.steerLate]).foldl
    (fun a b => 2 * a + b2n b) 0

/-- REFUSED_SHOTS (R76). -/
def refusedShots (p : Pix) : Nat := min 65535 p.refSeqs.length

/-- Pairs of 32-bit results, the odd one high. -/
def pairWords (l : List Nat) : List Word := (List.range 4).map (fun i => pack [(32, l.getD (2 * i + 1) 0), (32, l.getD (2 * i) 0)])

/-- A PIXEL_HEADER body (Table 4 of ch. 13). -/
def headerBody (d : Done) : List Word :=
  let p := d.px.pix
  let r := d.res
  let o := dtWords (p.origin.getD 0)
  [pack [(32, p.frame), (16, p.ord), (10, d.px.ch), (4, r.echoes.length), (2, 0)],
   pack [(16, p.tag), (4, p.k), (1, b2n p.wide), (3, p.calBand), (4, r.negDrops), (36, (o.getD 0 0).toNat)],
   pack [(16, p.ofs), (8, p.extCount), (4, 0), (36, (o.getD 1 0).toNat)],
   pack [(16, p.shotsAcq), (16, p.holdSkips), (16, p.preShort), (16, refusedShots p)],
   pack [(16, p.skipped), (16, p.calSkips), (16, p.calGen), (16, r.found)],
   pack [(32, p.postTimed), (32, p.pile)], pack [(32, p.outLow), (32, p.outHigh)], pack [(32, p.coincRej), (32, p.satEvents)],
   pack [(28, r.bg), (24, r.noise), (12, 0)], pack [(32, twos 32 d.px.phaseOfs), (16, 0), (16, headerFlags d)]]
    ++ pairWords (p.preExpo.map expoTicks) ++ pairWords p.preBin

/-- A pixel is exceptional (R357). -/
def exceptional (d : Done) : Bool :=
  d.res.echoes.isEmpty || headerFlags { d with bank := 0 } != 0 || refusedShots d.px.pix != 0 || d.px.pix.skipped != 0
    || d.px.pix.calSkips != 0

/-- A point record (Table 5 of ch. 08): its echo, its index, and PERSIST, PERSISTENT, PERS_NA. -/
def pointBody (d : Done) (n : Nat) (i : Nat) (e : Echo) (pers : Nat × Bool × Bool) : List Word :=
  let p := d.px.pix
  [pointWord0 d.px i (n - 1), pack [(28, e.range), (36, e.time)], pack [(24, e.amp), (12, e.width), (28, d.res.bg)],
   pack [(3, pers.1), (1, b2n pers.2.1), (1, b2n pers.2.2), (1, b2n p.coast), (1, b2n p.slew), (1, b2n (p.extCount != 0)),
     (1, b2n (p.satEvents != 0)), (1, b2n (p.preShort != 0)), (1, b2n d.bgInit), (1, b2n d.bgNone), (1, b2n d.fade),
     (1, b2n p.haltClose), (1, b2n e.edge), (1, d.bank), (8, p.extCount), (1, b2n p.ecc), (7, 0), (16, p.tag), (16, e.score)]]

/-- The records of a pixel enter its queues: the header where HDR_MODE asks for it, then its points (R219, R353, R357). -/
def publishPixel (d : Done) (pers : List (Nat × Bool × Bool)) (s : State) : State :=
  let n := d.res.echoes.length
  let pts := ((d.res.echoes.zip pers).mapIdx (fun i x => pointBody d n i x.1 x.2)).flatten
  (sourceQueues s 1 (d.px.ch / 256)).foldl (fun a q =>
    let mode := cfgF a .queue q 0 51 50
    let a1 := if mode = 1 ∨ (mode = 2 ∧ exceptional d) then emitRecord q 2 1 (headerBody d) a else a
    if n = 0 then a1 else emitRecord q 1 n pts a1) s

/-! ### Persistence (R209 to R213) -/

/-- A quadrant's persistence memory. -/
def persGet (s : State) (q : Nat) : Pers := tabGet {} s.pers q

/-- Change it. -/
def persUpd (q : Nat) (f : Pers → Pers) (s : State) : State := { s with pers := tabUpd {} s.pers q f }

/-- The slot of a pixel, where it has one and persistence runs (R209, R213). -/
def persSlot (s : State) (c : Closed) : Option Nat :=
  if cfgF s .pers 0 0 63 63 = 1 ∧ (c.pix.ord < 64 ∨ (c.pix.ord ≤ 4095 ∧ cfgF s .pers 0 0 62 62 = 1)) then
    some (c.pix.ord * 256 + c.ch % 256)
  else none

/-- The entry of an echo time (R210). -/
def persEntry (s : State) (time : Nat) : Nat := min 0xFFFE (time / 2 ^ cfgF s .pers 0 0 59 56)

/-- The rows of a slot once those of frames without a pixel are empty (R211): g the tag, f the frame, 15 bits each. -/
def emptyRows (g : Option Nat) (f : Nat) (rows : List (List Nat)) : List (List Nat) :=
  let d := match g with
    | some x => (f + 32768 - x % 32768) % 32768
    | none => 8
  (List.range 8).map (fun r =>
    let back := (f + 8 - r) % 8
    if back ≠ 0 ∧ (8 ≤ d ∨ back < d) then [] else rows.getD r [])

/-- PERSIST of an entry: the rows of other frames with an entry within PERS_TOL (R212). An unused entry of a row is no
entry and matches nothing (DESIGN CHOICE, log entry 146). -/
def persCount (tol f x : Nat) (rows : List (List Nat)) : Nat :=
  ((List.range 8).filter (fun r => r != f % 8 && (rows.getD r []).any (fun y => decide (max x y - min x y ≤ tol)))).length

/-- The persistence engine takes a pixel: the marks of its echoes, the row and the tag written (R209 to R212). -/
def persPixel (d : Done) (s : State) : List (Nat × Bool × Bool) × State :=
  let q := d.px.ch / 256
  match persSlot s d.px with
  | none => (d.res.echoes.map (fun _ => (0, false, true)), persUpd q (fun p => { p with naPixels := satAdd 32 p.naPixels 1 }) s)
  | some slot =>
    let f := d.px.pix.frame % 32768
    let p := persGet s q
    let rows := emptyRows (tabGet none p.tags slot) f (tabGet [] p.rows slot)
    let xs := d.res.echoes.map (fun e => persEntry s e.time)
    let tol := cfgF s .pers 0 0 47 32
    let need := cfgF s .pers 0 0 50 48
    let marks := xs.map (fun x => let n := persCount tol f x rows; (n, decide (need ≤ n), false))
    let rows' := rows.mapIdx (fun r l => if r = f % 8 then (sortBy id xs).take 8 else l)
    (marks, persUpd q (fun p => { p with rows := tabSet [] p.rows slot rows', tags := tabSet none p.tags slot (some f) }) s)

/-- The background sweep visits a tag: one 8 frames old or more is no longer valid; the last tag of the quadrant ends a
sweep (R211; log entry 80). -/
def sweepTag (q slot : Nat) (s : State) : State :=
  let last := 4096 * 256
  if last ≤ slot then s
  else
    let f := s.pb.frame % 32768
    persUpd q (fun p =>
      let old := match tabGet none p.tags slot with
        | some g => decide (8 ≤ (f + 32768 - g % 32768) % 32768)
        | none => false
      { p with tags := if old then tabSet none p.tags slot none else p.tags
               sweepFrames := if slot + 1 = last then 0 else p.sweepFrames }) s

/-- The clear of R213 completes: no tag is valid. -/
def tagsCleared (q : Nat) (s : State) : State :=
  persUpd q (fun p => if p.clearing then { p with tags := [], clearing := false } else p) s

/-! ### The pass (R207, R217 to R219, R221) -/

/-- Engine cycles of a pass (R218). -/
def passCycles (p : Pix) : Nat := max 1024 ((if p.wide then 2048 else 4096) * tapCount (p.echoW.getD 0 0) / 128)

/-- Engine cycles of the pipeline tail (R218). -/
abbrev tailCycles : Nat := 250

/-- The least time from the close instant to the output, 2.298 µs (R219). -/
abbrev publishFine : Int := 2298 * 8192

/-- The running time at which a pass or a tail is over at the SYS divider in force (R220). -/
def workEnd (s : State) (d : Done) : Nat := d.since + d.left * fineNs * 2 ^ s.pwr.div

/-- A closed pixel comes before another: in order of closure, then of channel (R24, R217). -/
def closedBefore (c d : Closed) : Bool :=
  decide (c.era < d.era) || (c.era == d.era && (decide (c.inst < d.inst) || (c.inst == d.inst && decide (c.ch < d.ch))))

/-- The closed pixel that is taken next. -/
def nextClosed : List Closed → Option Closed
  | [] => none
  | c :: r =>
    match nextClosed r with
    | some d => if closedBefore d c then some d else some c
    | none => some c

/-- The pixel belongs to the run of the last PB.START, whose tags are still being cleared (R213). -/
def tagWait (s : State) (q : Nat) (c : Closed) : Bool := (persGet s q).clearing && decide ((engGet s q).startRst ≤ c.pix.rst)

/-- Errors that the engine's read of the buffer finds (R389): a corrected one is counted; a granule that is lost is zeroed,
the pixel marked, the cause decided. -/
def readLosses (ecc : List EccHit) (c : Closed) (s : State) : Closed × State :=
  let half := if (chanGet s c.ch).accB then 0 else 1024
  ecc.foldl (fun a h =>
    (if h.lost then { a.1 with pix := loseBins h.granule a.1.pix } else a.1,
     binRead (if h.lost then 2 else 1) c.ch (h.granule % 1024 + half) a.2)) (c, s)

/-- Events of a closed pixel are still on their way to its bins: its swap is not over (stages 7 and 8 of R24; R203). -/
def swapWait (s : State) (c : Closed) : Bool :=
  (tileGet s (c.ch / 16)).pend.any (fun e =>
    e.verdict.isNone && 16 * (c.ch / 16) + e.c == c.ch && e.win != 0 && e.win != 3 && c.pix.acqSeqs.contains e.tag)

/-- A free engine begins the next closed pixel once its swap is over (log entry 31): its closure, the reads, the dump, the
background and the chain. -/
def passStart (q : Nat) (ecc : List EccHit) (s : State) : State :=
  match nextClosed (engGet s q).closed with
  | none => s
  | some c0 =>
    if (engGet s q).pass.isSome || tagWait s q c0 || swapWait s c0 then s
    else
      let s1 := beginClosure q (closureOf c0) (engUpd q (fun e => { e with closed := e.closed.erase c0 }) s)
      let (c, s2) := readLosses ecc c0 s1
      let s3 := dumpPixel c s2
      let t := trackReset c.pix.rst (trackGet s3 c.ch)
      let (t', rho) := trackUse c.pix t
      let (f, s4) := drawFree (trackUpd c.ch (fun _ => { t' with initLeft := t.initLeft - 1 }) s3)
      let e := engGet s4 q
      let d : Done := { px := { c with pix := { c.pix with bins := [] } }, res := echoChain c.pix.echoW c.pix rho e.h c.pix.z f
                        bgInit := decide (0 < t.initLeft), bgNone := (pixRho c.pix).isNone, fade := e.hFade, bank := e.hBank
                        left := passCycles c.pix, since := s4.up }
      engUpd q (fun x => { x with pass := some d }) s4

/-- The pass is over: the buffer is released, empty; the tail follows (R207, R218). -/
def passDone (q : Nat) (s : State) : State :=
  match (engGet s q).pass with
  | none => s
  | some d =>
    let s1 := reachUp (workEnd s d) s
    let s2 := chanUpd d.px.ch (fun x => { x with held := false, relAt := some s1.now }) s1
    engUpd q (fun e => { e with
      pass := none, tail := e.tail ++ [{ d with left := tailCycles, since := s1.up }]
      pixelsDone := satAdd 32 e.pixelsDone 1 }) s2

/-- The engine hands over a pixel: persistence, the header and the points (R219, R235, R237). -/
def publishNext (q : Nat) (s : State) : State :=
  match (engGet s q).tail with
  | [] => s
  | d0 :: _ =>
    let s1 := reach (d0.px.at_ + publishFine) (reachUp (workEnd s d0) s)
    let (marks, s2) := persPixel d0 s1
    publishPixel d0 marks (engUpd q (fun e => { e with
      tail := e.tail.drop 1, peaksDropped := satAdd 32 e.peaksDropped d0.res.dropped
      negDrops := satAdd 16 e.negDrops d0.res.negDrops }) s2)

/-- A channel that waits after a halt closes when it sees the release (R206). -/
def haltDeferred (ch : Nat) (s : State) : State :=
  let c := chanGet s ch
  if !c.haltWait || c.held then s
  else
    let s1 := match c.relAt with
      | some t => reach (t + crossing4 s) s
      | none => s
    closeChan ch s1.now (chanUpd ch (fun x => { x with haltWait := false })
      (tileUpd (ch / 16) (fun x => { x with haltCloses := satAdd 16 x.haltCloses 1 }) s1))

/-! ### Status -/

/-- CLEAR of HIST.GET_STATUS: the counters of Tables 8, 9 and 10 (R216). -/
def histClear (opt first last : Nat) (s : State) : State :=
  (upTo first last).foldl (fun a i =>
    if opt = 0 then chanUpd i (fun x => { x with satTotal := 0, coincTotal := 0, outSpan := 0 }) a
    else if opt = 1 then tileUpd i (fun x => { x with extensions := 0, extRunMax := 0, haltCloses := 0 }) a
    else persUpd i (fun p => { p with naPixels := 0 }) a) s

end Sys2Proof.Machine
end

