-- ==== Sys2Proof/Machine/Echo.lean ====
section
/-! DEFINITION. The meanings of the histogram, persistence and echo engine events and of the HIST and ECHO commands that
are no configuration (ch. 07, ch. 08). -/

namespace Sys2Proof.Machine

/-- ENGINE_PASS_START (R217, R221 to R229, R208): `ecc` holds the granules of the buffer whose read finds a double-bit
error. -/
def execEnginePassStart (dt : Nat) (q : Fin 4) (ecc : List EccHit) (s : State) : Host.Outcome State Fault Refusal :=
  doneOn dt (passStart q.val ecc) s

/-- ENGINE_PASS_DONE (R207, R218). -/
def execEnginePassDone (dt : Nat) (q : Fin 4) (s : State) : Host.Outcome State Fault Refusal := doneOn dt (passDone q.val) s

/-- ENGINE_PUBLISH (R209 to R212, R219, R236, R237). -/
def execEnginePublish (dt : Nat) (q : Fin 4) (s : State) : Host.Outcome State Fault Refusal := doneOn dt (publishNext q.val) s

/-- HALT_DEFERRED_CLOSE (R206). -/
def execHaltDeferredClose (dt : Nat) (ch : Fin 1024) (s : State) : Host.Outcome State Fault Refusal :=
  doneOn dt (haltDeferred ch.val) s

/-- PERS_TAG_SWEEP (R211). -/
def execPersTagSweep (dt : Nat) (q : Fin 4) (slot : Nat) (s : State) : Host.Outcome State Fault Refusal :=
  doneOn dt (sweepTag q.val slot) s

/-- PERS_TAG_CLEAR_DONE (R213). -/
def execPersTagClearDone (dt : Nat) (q : Fin 4) (s : State) : Host.Outcome State Fault Refusal := doneOn dt (tagsCleared q.val) s

/-- HIST.GET_STATUS (R216). -/
def execHistGetStatus (dt : Nat) (mbx : Fin 32) (s : State) : Host.Outcome State Fault Refusal :=
  doneOn dt (runStat mbx.val 0x0660 (rowStat [(1024, 15), (64, 30), (4, 4)] true)
    (fun c s => (upTo c.first c.last).flatMap (fun i =>
      if c.opt = 0 then histChStatus s i else if c.opt = 1 then [histTileStatus s i] else [histQStatus s i]))
    (fun c s => histClear c.opt c.first c.last s)) s

/-- ECHO.SWAP_BANK (R230, R307, R341). -/
def execEchoSwapBank (dt : Nat) (mbx : Fin 32) (s : State) : Host.Outcome State Fault Refusal :=
  doneOn dt (runStage mbx.val 0x0740
    (fun c => { len := lenIs c 2, range := selPlain c false [0, 1] && selOne c 4 && onlyBits (c.w 1) [(15, 0)], stage := true })
    (fun c => [.swapBank c.first c.opt (fld (c.w 1) 15 0)])
    (fun c s => let r := swapBank c.first c.opt (fld (c.w 1) 15 0) s; ([r.2], r.1))) s

/-- ECHO.FREEZE_BG (R225). -/
def execEchoFreezeBg (dt : Nat) (mbx : Fin 32) (s : State) : Host.Outcome State Fault Refusal :=
  doneOn dt (runAct mbx.val 0x0741
    (fun _ c => { len := lenIs c 1, range := selPlain c false [0, 1] && selRange c 1024 1024 }) devFree
    (fun c s => ([], (upTo c.first c.last).foldl (fun a ch => freezeBg (c.opt == 1) ch a) s))) s

/-- ECHO.GET_STATUS (R240). -/
def execEchoGetStatus (dt : Nat) (mbx : Fin 32) (s : State) : Host.Outcome State Fault Refusal :=
  doneOn dt (runStat mbx.val 0x0760 (rowStat [(4, 4), (1024, 15)] true)
    (fun c s => (upTo c.first c.last).flatMap (fun i => if c.opt = 1 then echoChStatus s i else echoQStatus s i))
    (fun c s => if c.opt = 1 then s else (upTo c.first c.last).foldl (fun a q => echoQClear q a) s)) s

end Sys2Proof.Machine
end

