-- ==== Sys2Proof/Machine/VolleyOps.lean ====
section
/-! DEFINITION. The edge scheduler (ch. 03): the judgement of an offered volley, launches, loopback, trip balls. -/

namespace Sys2Proof.Machine

/-! ### The judgement of a volley (R73 to R77, R86, R90, R93; the order of the tests: log entry 71) -/

/-- Programmed edges of the accepted volleys of a channel; of a volley cut short those that launched. -/
def acceptedEdges (s : State) (ch : Nat) : List Int :=
  ((emGet s ch).vols.map (fun v => let l := edgesOf s v.pulses; if v.dead then l.take v.launched else l)).flatten

/-- Programmed pulse-0 rising edges of the accepted volleys. -/
def acceptedRises (s : State) (ch : Nat) : List Int :=
  (emGet s ch).vols.filterMap (fun v => if v.dead ∧ v.launched = 0 then none else v.pulses.head?.map (fun p => p.rise))

/-- Two times lie closer than d. -/
def closer (d : Nat) (a b : Int) : Bool := decide ((a - b).natAbs < d)

/-- The first edge of a volley that collides or breaks the shot-rate limit (R74): the limit is one on its first edge. -/
def collideEdge (s : State) (o : Offer) : Option Int :=
  (edgesOf s o.pulses).find? (fun u => (acceptedEdges s o.ch).any (closer fineNs u) ||
    (o.pulses.head?.map (fun p => p.rise) == some u && (acceptedRises s o.ch).any (closer (500 * fineNs) u)))

/-- A volley collides or breaks the shot-rate limit (R74). -/
def collides (s : State) (o : Offer) : Bool := (collideEdge s o).isSome

/-- The first edge of a volley launches at least 24 ns after the volley has reached the scheduler (R74). -/
def leadOk (s : State) (o : Offer) : Bool :=
  match o.pulses.head? with
  | some p => decide (o.arrive + 24 * fineNs ≤ launchAt s o.ch p.rise)
  | none => true

/-- The windows whose sums a volley would take over their limits, as bits (R86). -/
def overWindows (s : State) (o : Offer) : Nat :=
  match o.pulses.head? with
  | none => 0
  | some p =>
    let w := volleyWeight s o.pulses o.code
    if w = 0 then 0
    else [0, 1, 2].foldl (fun a i => if overLimit s o.ch i (bucketOf s i p.rise) w then a + 2 ^ i else a) 0

/-- The first arm that awaits an eligible volley takes effect (R93). -/
def armBy (o : Offer) (s : State) : State :=
  let e := emGet s o.ch
  if e.out = 1 ∧ e.armPend ∧ e.settled ∧ leadOk s o then emUpd o.ch (fun x => { x with out := 2, armPend := false, leave := none }) s
  else s

/-- A volley refused whole with its counter (R76). -/
def refuseVolley (o : Offer) (count : EmCh → EmCh) (s : State) : State := markRefused o.seq (emUpd o.ch count s)

/-- A volley refused under R74: the report names its shot and the first of its edges that failed. -/
def refuseEdge (o : Offer) (edge : Option Int) (count : EmCh → EmCh) (s : State) : State :=
  out (.refusedVolley o.ch o.seq edge) (refuseVolley o count s)

/-- A volley accepted: queued, and its weight booked (R75, R85). The weight stays in the sums where the volley is later
discarded or refused: the spec takes it back nowhere (DESIGN CHOICE, log entry 120). -/
def acceptVolley (o : Offer) (s : State) : State :=
  let s1 := emUpd o.ch (fun e => { e with vols := pruneVols s e.vols ++ [{ seq := o.seq, pulses := o.pulses }] }) s
  match o.pulses.head? with
  | some p => bookWeight o.ch (volleyWeight s o.pulses o.code) p.rise s1
  | none => s1

/-- The device is in the safe state, or a decision that enters it waits to be dealt with (R77). -/
def safeDecided (s : State) : Bool := s.safe.safe || s.safe.todo.any (isSafeCause s)

/-- A volley is judged. A waiting arm of a trip-latched channel waits on: Table 6 of ch. 3 names the first volley offered, and
R94 has the trip override the output state (R93; DESIGN CHOICE, log entry 172). -/
def judgeVolley (o : Offer) (s : State) : State :=
  if safeDecided s then refuseVolley o (fun e => { e with outOff := satAdd 32 e.outOff 1 }) s
  else if (emGet s o.ch).latched then refuseVolley o (fun e => { e with tripSkip := satAdd 32 e.tripSkip 1 }) s
  else
    let s1 := armBy o s
    let e := emGet s1 o.ch
    if e.out ≠ 2 ∨ e.leave.isSome then refuseVolley o (fun x => { x with outOff := satAdd 32 x.outOff 1 }) s1
    else if collides s1 o then refuseEdge o (collideEdge s1 o) (fun x => { x with collision := satAdd 32 x.collision 1 }) s1
    else if !leadOk s1 o then refuseEdge o (o.pulses.head?.map (fun p => p.rise)) (fun x => { x with late := satAdd 32 x.late 1 }) s1
    else if overWindows s1 o ≠ 0 then
      decideCause 4 o.ch (overWindows s1 o) (refuseVolley o (fun x => { x with energyRefused := satAdd 32 x.energyRefused 1 }) s1)
    else acceptVolley o s1

/-- The end of the 1 ns cycle that a device time lies in. -/
def nsEnd (t : Int) : Int := (t / 8192 + 1) * 8192

/-- The device time at which a volley reaches the scheduler: its arrival, or now where that has passed but for the cycle at
whose end another volley has just been judged. -/
def offerTime (o : Offer) (s : State) : Int := if nsEnd o.arrive = s.now then o.arrive else max o.arrive s.now

/-- The next volley for a channel reaches the scheduler, unless its queue of 2,048 edges has no room (R72). It is judged at the
end of its 1 ns cycle, with all that has fallen due by then, since a safe-state decision of that cycle refuses it (R77; log
entry 173). -/
def volleyOffer (ch : Nat) (s : State) : State :=
  match s.pb.offers.find? (fun o => o.ch == ch) with
  | none => s
  | some o =>
    let t := offerTime o s
    if queueFull o s then s
    else judgeVolley { o with arrive := t } (pbUpd (fun p => { p with offers := p.offers.erase o }) (dueNow (reach (nsEnd t) s)))

/-! ### Launches (R75, R90) -/

/-- Volleys of a channel with edges to come, each with the launch time and the programmed time of its next edge. -/
def nextEdges (s : State) (ch : Nat) : List (Int × Int × Vol) :=
  (emGet s ch).vols.filterMap (fun v =>
    if v.dead then none
    else ((edgesOf s v.pulses)[v.launched]?).map (fun u => (launchAt s ch u, u, v)))

/-- The earliest of them. -/
def earliest : List (Int × Int × Vol) → Option (Int × Int × Vol)
  | [] => none
  | x :: t => match earliest t with
    | some y => if y.1 < x.1 then some y else some x
    | none => some x

/-- The launch time of the next edge of a channel is reached: the edge leaves, or a tripped channel discards its
volley. -/
def edgeLaunch (ch : Nat) (s : State) : State :=
  match earliest (nextEdges s ch) with
  | none => s
  | some (t, u, v) =>
    let s1 := reach t s
    if (emGet s1 ch).latched then
      markRefused v.seq (emUpd ch (fun e => { e with tripSkip := satAdd 32 e.tripSkip 1, vols := e.vols.erase v }) s1)
    else
      let p := launchPoint s1 ch u
      let rise := v.launched % 2 == 0
      let s2 := emUpd ch (fun e => { e with
        vols := e.vols.map (fun x => if x = v then { x with launched := x.launched + 1 } else x)
        lbWait := e.lbWait ++ [(rise, u)] }) s1
      leaveArmed ch (out (.edge ch rise u p.1 p.2) s2)

/-! ### Loopback (R96 to R98) -/

/-- 400 ps and 50 ps in fine units, rounded down. -/
abbrev lbWindow : Nat := 3276
abbrev lbMatch : Nat := 409

/-- The comparison of an edge: `seen` is the cycle and code of an edge of that polarity at the sense point (R95), or none
within the window of a launched edge. A falling edge that a trip or the safe state forced counts as nothing. A second
edge beside a launched edge that has been compared is EXTRA (R96; DESIGN CHOICE, log entry 156). -/
def lbCheck (ch : Nat) (rise : Bool) (seen : Option (Int × Fin 64)) (s : State) : State :=
  let e := emGet s ch
  match seen with
  | some x =>
    let t := refTime s ch rise x.1 x.2.val
    match e.lbWait.find? (fun w => w.1 == rise && closer (lbWindow + 1) w.2 t) with
    | some w =>
      let err := t - w.2
      let s1 := emUpd ch (fun x => { x with lbWait := x.lbWait.erase w }) s
      if err.natAbs ≤ lbMatch then emUpd ch (fun x => { x with lbErr := (err :: x.lbErr).take 4096 }) s1
      else lbFault ch 1 err s1
    | none =>
      if !rise && decide (0 < e.cuts) then emUpd ch (fun y => { y with cuts := y.cuts - 1 }) s else lbFault ch 3 0 s
  | none =>
    match e.lbWait.find? (fun w => w.1 == rise) with
    | some w => lbFault ch 2 0 (emUpd ch (fun x => { x with lbWait := x.lbWait.erase w }) s)
    | none => s

/-! ### Trip balls (R88 to R91) -/

/-- A TRIP_N ball falls for a time in ps: from 500 ps on it trips, shorter it may (R89); it stays low until it rises
again where it lasts. -/
def tripFall (pin low : Nat) (s : State) : State :=
  if 500 ≤ low then tripSource (32 + pin) { s with tripN := s.tripN ||| 2 ^ pin }
  else
    let (b, s1) := drawBool s
    if b then tripSource (32 + pin) s1 else s1

/-- Named channels whose mapped sources are deasserted are cleared (R91); TRIP_FIRST stands until the next trip (log
entry 88). -/
def clearTrip (mask : Nat) (s : State) : State :=
  (maskBits 64 mask).foldl (fun a ch =>
    if tripActive a ch = 0 then emUpd ch (fun e => { e with latched := false }) a else a) s

/-- Channels of a mask that are latched. -/
def latchedMask (mask : Nat) (s : State) : Nat :=
  (maskBits 64 mask).foldl (fun a ch => if (emGet s ch).latched then a + 2 ^ ch else a) 0

end Sys2Proof.Machine
end

