-- ==== Sys2Proof/Machine/Emitter.lean ====
section
/-! DEFINITION. The meanings of the emitters' events and of the EM actions (ch. 03). -/

namespace Sys2Proof.Machine

/-- VOLLEY_OFFER (R72 to R77, R86). -/
def execVolleyOffer (dt : Nat) (ch : Fin 64) (s : State) : Host.Outcome State Fault Refusal := doneOn dt (volleyOffer ch.val) s

/-- ACCOUNTANT_BUCKET (R85): what lies more than 16 buckets back leaves the sum. -/
def execAccountantBucket (dt : Nat) (ch : Fin 64) (window : Fin 3) (s : State) : Host.Outcome State Fault Refusal :=
  doneOn dt (slideBuckets ch.val window.val) s

/-- EDGE_LAUNCH (R69, R75, R90). -/
def execEdgeLaunch (dt : Nat) (ch : Fin 64) (s : State) : Host.Outcome State Fault Refusal := doneOn dt (edgeLaunch ch.val) s

/-- LOOPBACK_CHECK (R96, R97). -/
def execLoopbackCheck (dt : Nat) (ch : Fin 64) (rise : Bool) (seen : Option (Int × Fin 64)) (s : State) : Host.Outcome State Fault Refusal :=
  doneOn dt (lbCheck ch.val rise seen) s

/-- DRIVER_BIAS_SETTLED (R93). -/
def execDriverBiasSettled (dt : Nat) (ch : Fin 64) (s : State) : Host.Outcome State Fault Refusal :=
  doneOn dt (emUpd ch.val (fun e => { e with settled := e.settled || decide (e.out = 1) })) s

/-- TRIP_N_ASSERT (R89): low in ps. The ball's level is the world's, in reset and shutdown too. -/
def execTripNAssert (dt : Nat) (pin : Fin 4) (low : Nat) (s : State) : Host.Outcome State Fault Refusal :=
  done dt (fun s =>
    if s.pwr.inReset || s.pwr.shut then (if 500 ≤ low then { s with tripN := s.tripN ||| 2 ^ pin.val } else s)
    else tripFall pin.val low s) s

/-- TRIP_N_DEASSERT (R377). -/
def execTripNDeassert (dt : Nat) (pin : Fin 4) (s : State) : Host.Outcome State Fault Refusal :=
  done dt (fun s => tripGone { s with tripN := s.tripN - (s.tripN &&& 2 ^ pin.val) }) s

/-- EM.CLEAR_TRIP (R91). -/
def execEmClearTrip (dt : Nat) (mbx : Fin 32) (s : State) : Host.Outcome State Fault Refusal :=
  doneOn dt (runAct mbx.val 0x0240 (rowNone 2 false (fun c => c.w 1 != 0)) devFree
    (fun c s =>
      let m := (c.w 1).toNat
      let s1 := clearTrip m s
      ([BitVec.ofNat 64 (latchedMask m s1)], s1))) s

/-- EM.GET_STATUS (R100): Table 10. R99 says that it reads Table 8 back too; R324 and Table 5 of ch. 12 give the readback
of Table 8 to EM.GET_CHANNEL and to EM.GET_STATUS the words of Table 10 alone, which the model follows (DESIGN CHOICE, log
entry 121). -/
def execEmGetStatus (dt : Nat) (mbx : Fin 32) (s : State) : Host.Outcome State Fault Refusal :=
  doneOn dt (runStat mbx.val 0x0260 (rowStat [(64, 6)] true) (fun c s => (upTo c.first c.last).flatMap (emStatus s))
    (fun c s => (upTo c.first c.last).foldl (fun a ch => emUpd ch emClear a) s)) s

end Sys2Proof.Machine
end

