-- ==== Sys2Proof/Machine/Output.lean ====
section
/-! DEFINITION. The meanings of the events and commands of ch. 13: result queues, alerts, the switch. -/

namespace Sys2Proof.Machine

/-- CONS_READ (R361): CONS of a host ring is read, and the records that waited for the read are written or dropped. -/
def execConsRead (dt queue cons : Nat) (s : State) : Host.Outcome State Fault Refusal :=
  doneOn dt (fun s =>
    if queue < queueCount s ∧ (cfgF s .queue queue 0 63 63 = 1 ∨ (qRun s queue).wait ≠ [])
        ∧ cfgF s .queue queue 0 60 59 = 0 then
      ringDecide queue (qUpd queue (fun r => { r with cons := cons % 2 ^ cfgF s .queue queue 0 43 39 }) s)
    else s) s

/-- QUEUE_IRQ_COAL (R360): a waiting interrupt is sent once IRQ_COAL_US has passed. -/
def execQueueIrqCoal (dt queue : Nat) (s : State) : Host.Outcome State Fault Refusal :=
  doneOn dt (fun s =>
    let r := qRun s queue
    if r.irqWait then
      queueIrq queue (reachUp ((match r.irqAt with
        | some t => t
        | none => 0) + cfgF s .queue queue 0 38 32 * fineUs) s)
    else s) s

/-- DATAGRAM_FLUSH (R366): FLUSH_US after its first record a datagram leaves. -/
def execDatagramFlush (dt queue : Nat) (s : State) : Host.Outcome State Fault Refusal :=
  doneOn dt (fun s =>
    let d := (qRun s queue).dgram
    if d.frags.isEmpty then s
    else flushQueue queue (reachUp (d.firstAt + cfgF s .route (cfgF s .queue queue 1 7 0) 2 47 40 * fineUs) s)) s

/-- C0_STORE_DRAIN (R362): held alerts are delivered in order while their destination accepts. -/
def execC0StoreDrain (dt : Nat) (dest : Fin 3) (s : State) : Host.Outcome State Fault Refusal :=
  doneOn dt (drainC0 dest.val 256) s

/-- A datagram that the device accepts acts as its bytes spell it: on the control port (R301), else on the stream port
(R130), as UDP_CTRL_DATAGRAM and STREAM_DATAGRAM do with its parts (log entry 141). -/
def datagramAct (p : Nat) (f : EthFrame) (s : State) : State :=
  let d := udpPayload f
  let w := d.words.getD 0 0
  if f.udp.map (fun u => u.2) == some (cfgF s .ctrlPort 0 0 15 0) then udpCommand (udpSender p f) d s
  else streamData (fld w 63 32) (fld w 5 0)
    (if d.tail.isEmpty && d.words.length % 4 == 1 then chunks 4 48 (d.words.drop 1) else []) s

/-- ETH_FRAME_RX (R364, R366). -/
def execEthFrameRx (dt : Nat) (port : Fin 2) (frame : EthFrame) (s : State) : Host.Outcome State Fault Refusal :=
  doneOn dt (fun s => if wfFrame frame then
      let r := frameRx port.val frame s
      if r.1 then datagramAct port.val frame r.2 else r.2
    else s) s

/-- GPTP_MESSAGE_RX (R364, R367). -/
def execGptpMessageRx (dt : Nat) (port : Fin 2) (msg : GptpMsg) (s : State) : Host.Outcome State Fault Refusal :=
  doneOn dt (gptpRx port.val msg) s

/-- GPTP_MESSAGE_TX (R364). -/
def execGptpMessageTx (dt : Nat) (port : Fin 2) (pdelay : Bool) (s : State) : Host.Outcome State Fault Refusal :=
  doneOn dt (gptpTx port.val pdelay) s

/-- GATE_INTERVAL_END (R364). -/
def execGateIntervalEnd (dt : Nat) (port : Fin 2) (s : State) : Host.Outcome State Fault Refusal :=
  doneOn dt (gateNext port.val) s

/-- GATE_LIST_APPLY (R364). -/
def execGateListApply (dt : Nat) (port : Fin 2) (s : State) : Host.Outcome State Fault Refusal :=
  doneOn dt (gateApply port.val) s

/-- CB_RECOVERY_RESET (R364). -/
def execCbRecoveryReset (dt : Nat) (stream : Fin 64) (s : State) : Host.Outcome State Fault Refusal :=
  doneOn dt (cbReset stream.val) s

/-- PORT_LINK_CHANGE (R368). -/
def execPortLinkChange (dt : Nat) (port : Fin 2) (linkUp : Bool) (s : State) : Host.Outcome State Fault Refusal :=
  doneOn dt (linkChange port.val linkUp) s

/-- FRAME_TRANSMITTED (R370). -/
def execFrameTransmitted (dt : Nat) (port : Fin 2) (s : State) : Host.Outcome State Fault Refusal :=
  doneOn dt (frameSent port.val) s

/-- TELEMETRY_PERIOD (R371): TELEM_PERIOD_MS after the period began the next begins; its record is due, and one not
started in the period before is skipped and counted. -/
def execTelemetryPeriod (dt : Nat) (s : State) : Host.Outcome State Fault Refusal :=
  doneOn dt (fun s =>
    let ms := cfgF s .port 2 1 30 15
    if ms = 0 ∨ s.ctl.fwFault ∨ !s.ctl.mbxReady then s
    else
      let s1 := reachUp (s.outq.telemAt + ms * fineMs) s
      { s1 with outq := { s1.outq with
        telemAt := s1.up, telemDue := true
        telemSkipped := if s1.outq.telemDue then satAdd 16 s1.outq.telemSkipped 1 else s1.outq.telemSkipped } }) s

/-- Queues of a range that have a running part. -/
def runQueues (c : Cmd) (s : State) : List Nat :=
  (s.outq.q.map (fun (p : Nat × QRun) => p.1)).filter (fun q => decide (c.first ≤ q) && decide (q ≤ c.last))

/-- Some queue of a range is enabled. -/
def anyEnabled (c : Cmd) (s : State) : Bool :=
  s.cfg.any (fun e => kindIx .queue == e.1 / 2 ^ 20 && fld (e.2.getD 0 0) 63 63 == 1
    && decide (c.first ≤ e.1 % 2 ^ 20) && decide (e.1 % 2 ^ 20 ≤ c.last))

/-- OUT.RESET_QUEUE (R353). -/
def execOutResetQueue (dt : Nat) (mbx : Fin 32) (s : State) : Host.Outcome State Fault Refusal :=
  doneOn dt (runAct mbx.val 0x0A40
    (fun _ c => { len := lenIs c 1, range := selPlain c false [0] && selRange c 1048576 1048576 })
    (fun s c => if queueCount s ≤ c.last then stNoRes else if anyEnabled c s then stIncons else stOk)
    (fun c s => ([], (runQueues c s).foldl (fun a q => qUpd q (fun r => { r with prod := 0, rseq := 0, drops := 0, wait := [] }) a) s))) s

/-- OUT.GET_STATUS (R375). -/
def execOutGetStatus (dt : Nat) (mbx : Fin 32) (s : State) : Host.Outcome State Fault Refusal :=
  doneOn dt (runStat mbx.val 0x0A60 (fun s => rowStat [(queueCount s, 15), (3, 3), (0, 0)] true s)
    (fun c s => if c.opt = 0 then (upTo c.first c.last).flatMap (outQStatus s)
      else if c.opt = 1 then (upTo c.first c.last).flatMap (outPortStatus s) else outClsStatus s)
    (fun c s => if c.opt = 0 then (upTo c.first c.last).foldl (fun a q => outQClear q a) s
      else if c.opt = 1 then (upTo c.first c.last).foldl (fun a p => outPortClear p a) s else outClsClear s)) s

end Sys2Proof.Machine
end

