-- ==== Sys2Proof/Machine/Playbook.lean ====
section
/-! DEFINITION. The meanings of the Playbook's events and of the PB actions (ch. 04), with SHOT_ORIGIN. -/

namespace Sys2Proof.Machine

/-- DESC_FETCH (R110, R131, R132). -/
def execDescFetch (dt : Nat) (s : State) : Host.Outcome State Fault Refusal := doneOn dt descFetch s

/-- SHOT_EXPAND (R114, R115, R169). -/
def execShotExpand (dt : Nat) (s : State) : Host.Outcome State Fault Refusal := doneOn dt shotExpand s

/-- SEGMENT_DECISION_POINT (R112). -/
def execSegmentDecisionPoint (dt : Nat) (s : State) : Host.Outcome State Fault Refusal := doneOn dt decisionPoint s

/-- PB_HALT (R117). -/
def execPbHalt (dt : Nat) (s : State) : Host.Outcome State Fault Refusal := doneOn dt haltEvent s

/-- SHOT_CLOCK_EVENT (R119). -/
def execShotClockEvent (dt : Nat) (s : State) : Host.Outcome State Fault Refusal := doneOn dt clockEvent s

/-- MP0_EDGE (R123): a rising edge of MP0 and the level of MP1. -/
def execMp0Edge (dt : Nat) (mp1 : Bool) (s : State) : Host.Outcome State Fault Refusal := doneOn dt (mpEdge mp1) s

/-- MIRROR_EDGE_TIMEOUT (R124). -/
def execMirrorEdgeTimeout (dt : Nat) (s : State) : Host.Outcome State Fault Refusal := doneOn dt mirrorTimeout s

/-- STEER_UPDATE_EDGE (R125). -/
def execSteerUpdateEdge (dt : Nat) (link : Fin 4) (s : State) : Host.Outcome State Fault Refusal := doneOn dt (steerEdge link.val) s

/-- SHOT_ORIGIN (R168, R132). -/
def execShotOrigin (dt : Nat) (tile : Fin 64) (s : State) : Host.Outcome State Fault Refusal := doneOn dt (shotOrigin tile.val) s

/-- STREAM_DMA_FETCH (R129). -/
def execStreamDmaFetch (dt : Nat) (entries : List (Vector Word 4)) (s : State) : Host.Outcome State Fault Refusal :=
  doneOn dt (dmaFetch (entries.map Vector.toList)) s

/-- STREAM_DATAGRAM (R130), as the switch delivers its frame (R366). -/
def execStreamDatagram (dt : Nat) (rx : FrameIn) (head : StreamHead) (entries : List Obj) (s : State) :
    Host.Outcome State Fault Refusal :=
  doneOn dt (fun s => if wfFrame rx.frame then
      datagramRx rx.port.val rx.frame (cfgF s .stream 0 0 15 0)
        (streamData head.seq head.count (if wfEntries entries then entries else [])) s
    else s) s

/-- PB.ARM_JUMP (R109, R307, R336). -/
def execPbArmJump (dt : Nat) (mbx : Fin 32) (s : State) : Host.Outcome State Fault Refusal :=
  doneOn dt (runStage mbx.val 0x0340
    (fun c => { len := lenIs c 1, range := selPlain c false [0, 1] && selOne c 256, stage := true })
    (fun c => [.armJump c.first (c.opt == 1)]) (fun c s => ([], applyOp (.armJump c.first (c.opt == 1)) s))) s

/-- PB.JUMP (R113, R336): WAS_LATCHED and REPLACED_SLOT. -/
def execPbJump (dt : Nat) (mbx : Fin 32) (s : State) : Host.Outcome State Fault Refusal :=
  doneOn dt (runAct mbx.val 0x0341
    (fun s c => { len := lenIs c 1, range := selPlain c false [0] && selOne c 256 && cfgF s .jump c.first 0 13 12 != 0 }) devFree
    (fun c s => ([pack [(55, 0), (1, b2n s.pb.latch.isSome), (8, s.pb.latch.getD 0)]], latchJump c.first s))) s

/-- PB.START (R116), its refusals in the order of check 5 of R295. -/
def execPbStart (dt : Nat) (mbx : Fin 32) (s : State) : Host.Outcome State Fault Refusal :=
  doneOn dt (runAct mbx.val 0x0342 (rowOne 1 4096 anyCmd)
    (fun s _ => if s.safe.safe then stSafe else if s.tb.st != .locked then stNotLocked else if !isIdle s then stNotIdle
                else if s.pb.underrun then stUnderrun else stOk)
    (fun c s => ([], pbStart c.first s))) s

/-- PB.STOP (R117, R336). -/
def execPbStop (dt : Nat) (mbx : Fin 32) (s : State) : Host.Outcome State Fault Refusal :=
  doneOn dt (runAct mbx.val 0x0343 (fun _ c => { len := lenIs c 1, range := selPlain c false [0, 1, 2] && selNone c }) devFree
    (fun c s => ([], if isIdle s || s.pb.st == .stopping then s
                     else if c.opt = 0 then pbStopping s else pbUpd (fun p => { p with stop := some c.opt }) s))) s

/-- PB.STREAM_CLOSE (R336). -/
def execPbStreamClose (dt : Nat) (mbx : Fin 32) (s : State) : Host.Outcome State Fault Refusal := doneOn dt (runClose mbx.val) s

/-- PB.CLEAR_UNDERRUN (R135). -/
def execPbClearUnderrun (dt : Nat) (mbx : Fin 32) (s : State) : Host.Outcome State Fault Refusal :=
  doneOn dt (runAct mbx.val 0x0345 (rowNone 1 false anyCmd) devFree (fun _ s => ([], pbUpd (fun p => { p with underrun := false }) s))) s

/-- PB.GET_STATUS (R136). -/
def execPbGetStatus (dt : Nat) (mbx : Fin 32) (s : State) : Host.Outcome State Fault Refusal :=
  doneOn dt (runStat mbx.val 0x0360 (rowNone 1 true anyCmd) (fun _ s => pbStatus s) (fun _ s => pbClear s)) s

end Sys2Proof.Machine
end

