-- ==== Sys2Proof/Machine/Pins.lean ====
section
/-! DEFINITION. The output balls (Table 6 of ch. 16): what each shows in reset and after it, and under boundary scan. -/

namespace Sys2Proof.Machine

/-- The lines of a steering link (R125). -/
inductive StlLine where
  | clk | dat | upd
deriving DecidableEq, Repr

/-- The output balls of Table 6 of ch. 16. -/
inductive OutBall where
  | emg (ch : Nat)
  | nrefOut
  | huddleOut
  | nloop
  | stl (line : StlLine) (link : Nat)
  | safeN
  | spiMiso
  | spiIrqN
  | qspiClk
  | qspiCsN
  | qspiIo (n : Nat)
  | jtagTdo
deriving DecidableEq, Repr

/-- The LVCMOS balls that the device reads, the test port's own apart (Table 6 of ch. 16). -/
inductive InBall where
  | tripN (n : Nat)
  | trigIn (n : Nat)
  | resetN
  | spiSclk
  | spiMosi
  | spiCsN
  | testEn
deriving DecidableEq, Repr

/-- What a ball shows; `driven` is what its unit puts out. -/
inductive Level where
  | highZ
  | low
  | high
  | released
  | receiving
  | driven
deriving DecidableEq, Repr

/-! ### Boundary scan (R446; log entry 127) -/

/-- The LVCMOS balls, which the chain covers: those that the device drives, and those that it reads. -/
def scanOuts : List OutBall :=
  ([.clk, .dat, .upd].flatMap (fun l => (List.range 4).map (fun n => OutBall.stl l n)))
    ++ [.safeN, .spiMiso, .qspiClk, .qspiCsN] ++ (List.range 4).map (fun n => OutBall.qspiIo n)

def scanIns : List InBall :=
  (List.range 4).map (fun n => InBall.tripN n) ++ [.trigIn 0, .trigIn 1, .resetN, .spiSclk, .spiMosi, .spiCsN, .testEn]

/-- The instruction in the register takes effect: BYPASS and IDCODE always, any other only while RESET_N is low. -/
def tapActs (s : State) : Bool :=
  match s.tap.ir with
  | .bypass => true
  | .idcode => true
  | .other _ => s.pwr.rstLow

/-- The cells drive the LVCMOS balls: by an instruction that does so and takes effect. -/
def scanOn (s : State) : Bool :=
  match s.tap.ir with
  | .bypass => false
  | .idcode => false
  | .other code => tapActs s && Config.scanDrives code

/-- The level that its cell gives a ball, where the cells drive. SAFE_N stays as R406 has it (DESIGN CHOICE, log entry
127). -/
def scanLevel (s : State) (b : OutBall) : Option Level :=
  if scanOn s && b != .safeN then
    (scanOuts.idxOf? b).map (fun k => if s.tap.cells.getD (Config.scanCell k) false then Level.high else Level.low)
  else none

/-! ### Levels -/

/-- The level that its unit gives an output ball (R125, R406, R436, R437; IEEE 1149.1 for JTAG_TDO): an inactive link
drives its outputs low. -/
def unitLevel (s : State) : OutBall → Level
  | .emg ch => if s.pwr.inReset || (emGet s ch).out == 0 then .highZ else if gateHigh (emGet s ch) then .high else .low
  | .nrefOut => if s.pwr.inReset then .highZ else .driven
  | .huddleOut => if s.pwr.inReset then .highZ else .driven
  | .nloop => if s.pwr.inReset then .receiving else .driven
  | .stl _ link => if s.pwr.inReset || cfgF s .stl link 0 15 15 == 0 then .low else .driven
  | .safeN => if !s.pwr.ioTol then .highZ else if s.safe.safeNLow then .low else .high
  | .spiMiso => if s.pwr.inReset then .highZ else .driven
  | .spiIrqN => if s.pwr.inReset then .released else if spiIrqLow s then .low else .released
  | .qspiClk => .driven
  | .qspiCsN => if s.pwr.inReset then .high else .driven
  | .qspiIo _ => .driven
  | .jtagTdo => if s.tap.st = .shiftDr ∨ s.tap.st = .shiftIr then .driven else .highZ

/-- The level of an output ball: its cell's while the cells drive, else its unit's. -/
def ballLevel (s : State) (b : OutBall) : Level := (scanLevel s b).getD (unitLevel s b)

/-- The level of an LVCMOS input ball, where the state tells it: TRIP_N held low, RESET_N, and TEST_EN, which is tied low. -/
def inLevel (s : State) : InBall → Option Bool
  | .tripN n => if s.tripN.testBit n then some false else none
  | .resetN => some (!s.pwr.rstLow)
  | .testEn => some false
  | .trigIn _ => none | .spiSclk => none | .spiMosi => none | .spiCsN => none

/-- What a cell captures where the state tells it: the level of its ball. -/
def cellLevel (s : State) (i : Nat) : Option Bool :=
  match scanOuts.zipIdx.find? (fun b => Config.scanCell b.2 == i) with
  | some b => (match unitLevel s b.1 with
      | .low => some false
      | .high => some true
      | .highZ => none | .released => none | .receiving => none | .driven => none)
  | none => (scanIns.zipIdx.find? (fun b => Config.scanCell (scanOuts.length + b.2) == i)).bind (fun b => inLevel s b.1)

end Sys2Proof.Machine
end

