-- ==== Sys2Proof/Machine/TestPort.lean ====
section
/-! DEFINITION. The test port (R446; log entry 127): its controller, its instruction register and its data registers. -/

namespace Sys2Proof.Machine

/-- The IDCODE of A1 silicon. -/
abbrev tapIdcode : Nat := 0x1106456B

/-- The controller's state after a rising edge of JTAG_TCK (IEEE 1149.1). -/
def tapNext (tms : Bool) : TapSt → TapSt
  | .testLogicReset => if tms then .testLogicReset else .runTest
  | .runTest => if tms then .selectDr else .runTest
  | .selectDr => if tms then .selectIr else .captureDr
  | .captureDr => if tms then .exit1Dr else .shiftDr
  | .shiftDr => if tms then .exit1Dr else .shiftDr
  | .exit1Dr => if tms then .updateDr else .pauseDr
  | .pauseDr => if tms then .exit2Dr else .pauseDr
  | .exit2Dr => if tms then .updateDr else .shiftDr
  | .updateDr => if tms then .selectDr else .runTest
  | .selectIr => if tms then .testLogicReset else .captureIr
  | .captureIr => if tms then .exit1Ir else .shiftIr
  | .shiftIr => if tms then .exit1Ir else .shiftIr
  | .exit1Ir => if tms then .updateIr else .pauseIr
  | .pauseIr => if tms then .exit2Ir else .pauseIr
  | .exit2Ir => if tms then .updateIr else .shiftIr
  | .updateIr => if tms then .selectDr else .runTest

/-- The port is reset: at power-up and by TRST_N (R436). -/
def tapReset (s : State) : State := { s with tap := {} }

/-- Bits as a number, the first the least significant. -/
def bitsNum : List Bool → Nat
  | [] => 0
  | b :: r => b2n b + 2 * bitsNum r

/-- The instruction that a code stands for: all ones BYPASS. -/
def tapDecode (bits : List Bool) : TapInstr :=
  if bits.all id then .bypass else if bitsNum bits = Config.idcodeCode then .idcode else .other (bitsNum bits)

/-- An instruction enters the register. -/
def tapSelect (i : TapInstr) (s : State) : State := { s with tap := { s.tap with ir := i } }

/-- The instruction register is loaded (Capture-IR): 01 in its two least significant bits. -/
def tapCaptureIr (s : State) : State :=
  { s with tap := { s.tap with irShift := [true, false] ++ (List.range (Config.irLength - 2)).map Config.irCapture } }

/-- One bit of a shift register: the bit that leaves, and the register with the new bit behind the rest. -/
def shiftBit (tdi : Bool) : List Bool → Bool × List Bool
  | [] => (tdi, [])
  | b :: r => (b, r ++ [tdi])

/-- What the cells of the LVCMOS balls capture: the levels that the state tells, free bits for the others. -/
def scanCapture (s : State) : List Bool × State :=
  ((List.range Config.scanLength).map (fun i => (cellLevel s i).getD (Config.freeBool (s.free + i))),
   { s with free := s.free + Config.scanLength })

/-- The selected data register is loaded (Capture-DR): a zero for BYPASS, the IDCODE, least significant bit first, or, of
another instruction that acts, the boundary-scan cells. -/
def tapCapture (s : State) : State :=
  match s.tap.ir with
  | .bypass => { s with tap := { s.tap with dr := [false] } }
  | .idcode => { s with tap := { s.tap with dr := (List.range 32).map tapIdcode.testBit } }
  | .other _ =>
    if tapActs s then { (scanCapture s).2 with tap := { s.tap with dr := (scanCapture s).1 } } else s

/-- One bit is shifted (Shift-DR): the bit on JTAG_TDO, and the register with JTAG_TDI behind the rest. -/
def tapShift (tdi : Bool) (s : State) : Bool × State :=
  ((shiftBit tdi s.tap.dr).1, { s with tap := { s.tap with dr := (shiftBit tdi s.tap.dr).2 } })

/-- The data register takes effect (Update-DR): the cells take what was shifted, by an instruction other than BYPASS and
IDCODE that acts. -/
def tapUpdate (s : State) : State :=
  match s.tap.ir with
  | .bypass => s
  | .idcode => s
  | .other _ => if tapActs s then { s with tap := { s.tap with cells := s.tap.dr } } else s

/-- A cycle of JTAG_TCK: the bit on JTAG_TDO while a register shifts, what the controller's state does, and its next
state. -/
def tapClock (tms tdi : Bool) (s : State) : Option Bool × State :=
  let r := match s.tap.st with
    | .captureDr => (none, tapCapture s)
    | .shiftDr => (some (tapShift tdi s).1, (tapShift tdi s).2)
    | .updateDr => (none, tapUpdate s)
    | .captureIr => (none, tapCaptureIr s)
    | .shiftIr => (some (shiftBit tdi s.tap.irShift).1,
                   { s with tap := { s.tap with irShift := (shiftBit tdi s.tap.irShift).2 } })
    | .updateIr => (none, tapSelect (tapDecode s.tap.irShift) s)
    | .testLogicReset => (none, tapReset s)
    | .runTest => (none, s) | .selectDr => (none, s) | .exit1Dr => (none, s) | .pauseDr => (none, s) | .exit2Dr => (none, s)
    | .selectIr => (none, s) | .exit1Ir => (none, s) | .pauseIr => (none, s) | .exit2Ir => (none, s)
  (r.1, { r.2 with tap := { r.2.tap with st := tapNext tms s.tap.st } })

end Sys2Proof.Machine
end

