-- ==== Sys2Proof/Machine/Power.lean ====
section
/-! DEFINITION. The meanings of the power, reset, boot, temperature and MRAM events (ch. 15), and of the SYS and PWR
commands that act on them. -/

namespace Sys2Proof.Machine

/-! ### Power and reset -/

/-- VDDIO_33 is lost: SHUTDOWN_CAUSE goes, and the hard latch, for which that is the power cycle (R408, R421; log entry
130), with the trip's hold. -/
def ioLost (s : State) : State :=
  pwrUpd (fun p => { p with io33 := false, ioTol := false, sdCause := 0, sdTemp := 0, hardLatch := false, tripHold := false }) s

/-- The device starts once nothing holds it in reset: RESET_N, the power-on detector and the hard trip (R408, R421).
`temp`: the junction temperature. -/
def startFree (temp : Int) (s : State) : State :=
  if s.pwr.inReset && s.pwr.io33 && s.pwr.coreOk && !s.pwr.rstLow && !s.pwr.tripHold then releaseReset temp s else s

/-- POWER_UP (R406, R408): VDDIO_33 is within tolerance, SAFE_N is driven low; with RESET_N high the device starts. -/
def execPowerUp (dt : Nat) (s : State) : Host.Outcome State Fault Refusal :=
  done dt (fun s => if s.pwr.io33 then pwrUpd (fun p => { p with ioTol := true }) s else
    startFree 0 (safeUpd (fun u => { u with safeNLow := true }) (pwrUpd (fun p => { p with io33 := true, ioTol := true }) s))) s

/-- POWER_LOSS (R407, R408): everything but the MRAM and the factory partition is lost; a page write in progress is torn. -/
def execPowerLoss (dt : Nat) (s : State) : Host.Outcome State Fault Refusal :=
  done dt (fun s => tapReset (ioLost (resetDevice s))) s

/-- RESET_ASSERT (R408): low for at least 1 µs (`low` in ns). -/
def execResetAssert (dt : Nat) (low : Nat) (s : State) : Host.Outcome State Fault Refusal :=
  done dt (fun s => if 1000 ≤ low then pwrUpd (fun p => { p with rstLow := true }) (resetDevice s) else s) s

/-- What the power-on detector sees of VDD_CORE, and of a VDDIO_33 that is not low, whose tolerance begins at 3.135 V (ch. 16;
log entry 130). -/
def railsSeen (coreMv io33Mv : Nat) (s : State) : State :=
  pwrUpd (fun p => { p with coreOk := decide (680 ≤ coreMv), io33 := true, ioTol := p.ioTol || decide (3135 ≤ io33Mv) }) s

/-- POWER_ON_DETECT (R408): the levels of VDD_CORE, low below 0.68 V, and of VDDIO_33, low below 2.9 V. The device resets
while one is low; both good, it starts unless RESET_N or the hard trip holds it. -/
def execPowerOnDetect (dt : Nat) (coreMv : CoreSense) (io33Mv : Nat) (s : State) : Host.Outcome State Fault Refusal :=
  done dt (fun s =>
    let s1 := railsSeen coreMv.mv io33Mv s
    if io33Mv < 2900 then tapReset (ioLost (resetDevice s1))
    else if coreMv.mv < 680 then resetDevice s1
    else startFree coreMv.temp.toInt s1) s

/-- RESET_RELEASE (R41, R384, R422): RESET_N rises; the device starts unless the power-on detector holds it (R408). -/
def execResetRelease (dt : Nat) (temp : BitVec 16) (s : State) : Host.Outcome State Fault Refusal :=
  done dt (fun s =>
    startFree temp.toInt (pwrUpd (fun p => { p with rstLow := false, tripHold := false }) s)) s

/-- SYS.RESET (R330): the effect of RESET_N, without a response. -/
def execSysReset (dt : Nat) (mbx : Fin 32) (s : State) : Host.Outcome State Fault Refusal :=
  doneOn dt (take mbx.val 0x0040 (fun c n s =>
    let h := headStatus s c (rowNone 2 false (fun c => (c.w 1).toNat == 0x5A) s c)
    if h ≠ stOk then deny c h n s
    else if !isIdle s then deny c stNotIdle n s
    else if bgBusy s 0 then deny c stNoRes n s
    else releaseReset s.pwr.tempNow (resetDevice s))) s

/-! ### Boot -/

/-- BOOT_IMAGE_VERIFIED (R409): the firmware starts, the other slot is tried, or the boot stops. -/
def execBootImageVerified (dt : Nat) (responds ok : Bool) (s : State) : Host.Outcome State Fault Refusal :=
  doneOn dt (fun s =>
    if [2, 3, 4, 0xE1].contains s.ctl.bootStage then
      let stage := fun (n : Nat) (x : State) => { x with ctl := { x.ctl with bootStage := n } }
      if !responds then stage 0xE3 s
      else if ok then safeUpd (fun u => { u with wdAt := some s.up }) (stage 5 s)
      else if s.pwr.triedOther then stage 0xE2 s
      else stage 0xE1 (pwrUpd (fun p => { p with triedOther := true, slot := 1 - p.slot }) s)
    else s) s

/-- FACTORY_CHECK_DONE (R244): every table's CRC matches and FACTORY_OK is set, or cause FACTORY_BAD names the first that
fails. -/
def execFactoryCheckDone (dt : Nat) (misread : List Misread) (s : State) : Host.Outcome State Fault Refusal :=
  doneOn dt (fun s =>
    if s.ctl.bootStage = 5 ∧ !s.ctl.fwFault then
      let bad := factBad s.fact misread
      let s1 := calUpd (fun c => { c with factoryOk := bad.isNone }) { s with ctl := { s.ctl with bootStage := 6 } }
      match bad with
      | some t => decideCause 24 t 0 s1
      | none => s1
    else s) s

/-- LPDDR5_TRAINED (R410): the end of BOOT_STAGE 0x06, with LPDDR5 or without (log entry 131). -/
def execLpddr5Trained (dt : Nat) (ok : Bool) (mib : Nat) (s : State) : Host.Outcome State Fault Refusal :=
  doneOn dt (fun s =>
    if s.ctl.bootStage = 6 ∧ !s.ctl.fwFault then
      { s with ctl := { s.ctl with bootStage := 7, lpFitted := ok, lpMib := if ok then mib % 65536 else 0 } }
    else s) s

/-- BOOT_COMPLETE (R410, R412): the layer, the journal position and the image are loaded; the boot ends with the
self-test. -/
def execBootComplete (dt : Nat) (s : State) : Host.Outcome State Fault Refusal :=
  doneOn dt (fun s => if s.ctl.bootStage = 7 ∧ !s.ctl.fwFault then bootDone s else s) s

/-! ### Temperature, shutdown, droop -/

/-- TEMP_SAMPLE (R415); in shutdown the sensor alone keeps running (R419). -/
def execTempSample (dt : Nat) (temp : Option (BitVec 16)) (s : State) : Host.Outcome State Fault Refusal :=
  done dt (fun s => if s.pwr.inReset then s else if s.pwr.shut then (match temp with
    | some t => sampleTaken t.toInt s
    | none => s) else sampleTemp (temp.map BitVec.toInt) s) s

/-- SHUTDOWN_ENTER (R418): after the page write in progress, and once the alert has left or 12 µs have passed since the
decision. -/
def execShutdownEnter (dt : Nat) (s : State) : Host.Outcome State Fault Refusal :=
  doneOn dt (fun s =>
    match s.pwr.shutAt with
    | some t => if s.pwr.nvmNow.isNone then shutDown (if alertLeft s then s else reachUp (t + 12 * fineUs) s) else s
    | none => s) s

/-- THERMAL_HARD_TRIP (R421): gates low, SAFE_N low, the device held in reset, the hard latch set. -/
def execThermalHardTrip (dt : Nat) (s : State) : Host.Outcome State Fault Refusal :=
  done dt (fun s => pwrUpd (fun p => { p with hardLatch := true, tripHold := true }) (resetDevice s)) s

/-- DROOP_ASSERT (R413). -/
def execDroopAssert (dt : Nat) (sensor : Fin 2) (s : State) : Host.Outcome State Fault Refusal :=
  doneOn dt (fun s =>
    let was := if sensor.val = 0 then s.pwr.droop1 else s.pwr.droop2
    if was then s
    else
      let fresh := !s.pwr.droop1 && !s.pwr.droop2
      sysAdjust (pwrUpd (fun p => { p with
        droop1 := p.droop1 || sensor.val == 0, droop2 := p.droop2 || sensor.val == 1
        droopEvents := satAdd 32 p.droopEvents 1
        droopAt := if fresh then s.up else p.droopAt
        droopDeep := max (if fresh then 0 else p.droopDeep) (sensor.val + 1) }) s)) s

/-- DROOP_DEASSERT (R413, R427): the release starts; the end of an episode is logged. -/
def execDroopDeassert (dt : Nat) (sensor : Fin 2) (s : State) : Host.Outcome State Fault Refusal :=
  doneOn dt (fun s =>
    let was := if sensor.val = 0 then s.pwr.droop1 else s.pwr.droop2
    if !was then s
    else
      let s1 := sysAdjust (pwrUpd (fun p => { p with droop1 := p.droop1 && sensor.val != 0
                                                     droop2 := p.droop2 && sensor.val != 1 }) s)
      if s1.pwr.droop1 || s1.pwr.droop2 then s1
      else logEvent 4 (logDetail s1.pwr.droopDeep (wholeUs (s1.up - s1.pwr.droopAt))) s1) s

/-- THROTTLE_STEP_UP (R413): one step once its demand has been gone for 10 µs. -/
def execThrottleStepUp (dt : Nat) (s : State) : Host.Outcome State Fault Refusal :=
  doneOn dt (fun s =>
    let step := fun (since : Option Nat) (d : Nat) => match since with
      | some t => setDiv d (reachUp (t + 10 * fineUs) s)
      | none => s
    if s.pwr.div = 2 then step s.pwr.relAt 1 else if s.pwr.div = 1 then step s.pwr.relAt1 0 else s) s

/-! ### MRAM -/

/-- MRAM_PAGE_WRITE_DONE (R424, R426). -/
def execMramPageWriteDone (dt : Nat) (ok : Bool) (s : State) : Host.Outcome State Fault Refusal := doneOn dt (pageWritten ok) s

/-- LOG_FLUSH (R427): 1 s after the first unwritten record. -/
def execLogFlush (dt : Nat) (s : State) : Host.Outcome State Fault Refusal :=
  doneOn dt (fun s =>
    match s.pwr.logBuf[logQueued s]? with
    | some r => logFlushAll (reachUp (r.up + 1000 * fineMs) s)
    | none => s) s

/-- SYS.SELECT_BOOT (R330). -/
def execSysSelectBoot (dt : Nat) (mbx : Fin 32) (s : State) : Host.Outcome State Fault Refusal :=
  doneOn dt (runBg mbx.val 0x0041 (rowNone 2 false (fun c => onlyBits (c.w 1) [(0, 0)])) devFree
    (fun c s => nvmPut (.bootSlot (fld (c.w 1) 0 0)) s)) s

/-- The slot named by a PWR image command is valid. -/
def slotValid : State → Cmd → Nat := fun s c =>
  if slotMarked s.pwr.mram c.first || c.first == 0xFFFFF then stOk else stNoRes

/-- Bytes of the configuration image in force. -/
def imageBytes (s : State) : Nat := 8 * (imageOf s.cfg).flatten.length

/-- PWR.SAVE_IMAGE (R347, R425, R426). -/
def execPwrSaveImage (dt : Nat) (mbx : Fin 32) (s : State) : Host.Outcome State Fault Refusal :=
  doneOn dt (runBg mbx.val 0x0C40 (rowOne 1 4 anyCmd) (fun s _ => if imageBytes s ≤ 504 * 1024 then stOk else stNoRes)
    (fun c s =>
      let pages := 1 + (imageBytes s + 4095) / 4096
      nvmPut (.imageValid c.first) (nvmPut (.imagePage c.first { recs := imageTab s.cfg } pages) (nvmPut (.imageInvalidate c.first) s)))) s

/-- PWR.SELECT_IMAGE (R347): an image slot, or none. -/
def execPwrSelectImage (dt : Nat) (mbx : Fin 32) (s : State) : Host.Outcome State Fault Refusal :=
  doneOn dt (runBg mbx.val 0x0C41
    (fun _ c => { len := lenIs c 1, range := selPlain c false [0] && c.first == c.last && (decide (c.first < 4) || c.first == 0xFFFFF) })
    slotValid (fun c s => nvmPut (.imageSelect (if c.first < 4 then some c.first else none)) s)) s

/-- PWR.ERASE_IMAGE (R347, R425). -/
def execPwrEraseImage (dt : Nat) (mbx : Fin 32) (s : State) : Host.Outcome State Fault Refusal :=
  doneOn dt (runBg mbx.val 0x0C42 (rowOne 1 4 anyCmd) slotValid (fun c s => nvmPut (.imageErase c.first) s)) s

/-- PWR.READ_LOG (R427): the log, what is written and then what is buffered, oldest first, as TELEMETRY records of TKIND 2. -/
def execPwrReadLog (dt : Nat) (mbx : Fin 32) (s : State) : Host.Outcome State Fault Refusal :=
  doneOn dt (runAct mbx.val 0x0C43 (rowQueue 1 anyCmd) devQueue (fun c s =>
    ([], (s.pwr.mram.log ++ s.pwr.logBuf).foldl (fun a r => telemRecord c.first 2 0 (logWords r) a) s))) s

/-- PWR.GET_STATUS (R429). -/
def execPwrGetStatus (dt : Nat) (mbx : Fin 32) (s : State) : Host.Outcome State Fault Refusal :=
  doneOn dt (runStat mbx.val 0x0C60 (rowNone 1 true anyCmd) (fun _ s => pwrStatus s) (fun _ s => pwrClear s)) s

end Sys2Proof.Machine
end

