-- ==== Sys2Proof/Machine/SafeOps.lean ====
section
/-! DEFINITION. Memory errors (R389 to R392) and the plausibility check (R393). -/

namespace Sys2Proof.Machine

/-- A granule of a channel's bank is rewritten with zero (R192, R389). In the recorder region it is the record that the
write pointer has put there (R177). -/
def eccBank (ch g : Nat) (s : State) : State :=
  let x := chanGet s ch
  let q := ch / 256
  if g < 2048 then
    if (decide (1024 ≤ g)) = x.accB then
      (if x.pix.opened then chanUpd ch (fun y => { y with pix := loseBins g y.pix }) s else s)
    else
      let hit := fun (c : Closed) => if c.ch = ch then { c with pix := loseBins g c.pix } else c
      let mark := fun (d : Done) => if d.px.ch = ch then { d with px := { d.px with pix := { d.px.pix with ecc := true } } } else d
      engUpd q (fun e => { e with closed := e.closed.map hit, pass := e.pass.map mark }) s
  else if g < 6144 then
    let r := (tileGet s (ch / 16)).rcd
    let ring := if r.cascade then 0 else ch % 16
    -- record i of the ring lies there; the newest record has the index before the write pointer
    let i := if r.cascade then 16 * (g - 2048) + ch % 16 else g - 2048
    let n := (tabGet 0 r.wr ring + 2 * ringLen r - 1 - i) % ringLen r
    recUpd (ch / 16) (fun y => { y with rings := tabSet [] y.rings ring ((tabGet [] y.rings ring).mapIdx (fun k w => if k = n then 0 else w)) }) s
  else if g < 7168 then s
  else
    let put := fun (t : Tab (Option Nat)) (o : Nat) => tabDel t (o * 256 + ch % 256)
    let slots := (List.range 4).map (fun i => 4 * (g - 7168) + i)
    { s with pers := tabUpd {} s.pers q (fun p => { p with tags := slots.foldl put p.tags }) }

/-- Half a row of a persistence slot reads zero (R210): its entries as they stand in memory. -/
def zeroHalf (h : Nat) (row : List Nat) : List Nat :=
  let full := (List.range 8).map (fun i => if i / 4 = h then 0 else row.getD i 0xFFFF)
  full.filter (fun e => decide (e ≠ 0xFFFF))

/-- A granule of a persistence slot is rewritten with zero. -/
def eccRow (q slot row h : Nat) (s : State) : State :=
  let f := fun (rows : List (List Nat)) =>
    (List.range 8).map (fun i => if i = row then zeroHalf h (rows.getD i []) else rows.getD i [])
  { s with pers := tabUpd {} s.pers q (fun p => { p with rows := tabUpd [] p.rows slot f }) }

/-- Word n of a queue context is rewritten with zero (Table 1 of ch. 13). -/
def eccQueue (q n : Nat) (s : State) : State :=
  if n = 3 then qUpd q (fun r => { r with prod := 0, rseq := 0 }) s
  else
    let o := (cfgObj s .queue q).set n 0
    let s1 := { s with cfg := cfgPutIn s.fact.mac s.cfg .queue q o }
    if n = 0 then qUpd q (fun r => { r with drops := 0 }) s1 else s1

/-- Word n of descriptor slot i, resident or of the refill ring, is rewritten with zero (R102, R128). -/
def eccDesc (i n : Nat) (s : State) : State :=
  { s with cfg := cfgPutIn s.fact.mac s.cfg .desc i ((cfgObj s .desc i).set n 0) }

/-- A granule of LPDDR5 (R209, R350): a queue context, or a persistence slot of ordinal 64 and above. -/
def eccLpddr (g : Nat) (s : State) : State :=
  let a := 8 * g
  let base := cfgF s .pers 0 1 63 0
  if a < 32 * 2 ^ 20 then eccQueue (a / 32) (g % 4) s
  else if cfgF s .pers 0 0 62 62 = 1 ∧ base ≤ a ∧ a < base + 504 * 2 ^ 20 then
    let r := (a - base) % (126 * 2 ^ 20)
    eccRow ((a - base) / (126 * 2 ^ 20)) (r / 128 + 64 * 256) (r % 128 / 16) (r % 16 / 8) s
  else s

/-- A granule of a memory code of R377 is rewritten with zero. -/
def eccZero (mem g : Nat) (s : State) : State :=
  if mem < 0x400 then eccBank mem g s
  else if mem < 0x404 then eccRow (mem - 0x400) (8 * g / 128) (8 * g % 128 / 16) (8 * g % 16 / 8) s
  else if mem = 0x410 then (if g / 4 < 65536 then eccDesc (g / 4) (g % 4) s else s)
  else if mem = 0x440 then (if g / 4 < (if s.ctl.lpFitted then 1024 else 4096) then eccQueue (g / 4) (g % 4) s else s)
  else if mem = 0x450 then eccLpddr g s
  else s

/-- A read or scrub of a granule: kind 0 good, 1 corrected, 2 uncorrectable, which the Umpire decides and rewrites. -/
def eccRead (mem g kind : Nat) (s : State) : State :=
  if kind = 0 then s
  else if kind = 1 then eccCorrected mem s
  else if mem = 0x420 then decideCause 8 mem g s
  else eccZero mem g (decideCause 8 mem g s)

/-- The mean of the samples of the last second (R393), to the nearest 1/16 °C. -/
def sampleMean (s : State) : Int :=
  match s.pwr.samples with
  | [] => s.pwr.tempNow
  | l => rndDiv (l.foldl (· + ·) 0) l.length

/-- The comparison with the inferred temperature is suspended (R393). -/
def plausSuspended (s : State) : Bool :=
  !tpllLocked s || (match s.tb.lockAt with
    | some t => decide (s.up < t + 1000 * fineMs)
    | none => true)

/-- The inferred temperatures of the checks among the last 1,000 samples of a run of identical ones, the present check's
with them (R393). -/
def infRun (inferred : Int) (u : Safe) : List (Nat × Int) :=
  (u.sameCnt, inferred) :: u.sameInf.filter (fun x => decide (u.sameCnt ≤ x.1 + 1000))

/-- The inferred temperature has changed by more than 5 °C over them. -/
def infMoved (l : List (Nat × Int)) : Bool :=
  l.any (fun x => l.any (fun y => decide (5 * 16 < x.2 - y.2)))

/-- The check of R393 with a temperature inferred from the loop word. A check without the comparison starts the second of
plausible ones anew (log entry 128). -/
def plausCheck (inferred : Int) (s : State) : State :=
  let s1 := safeUpd (fun u => { u with tempInferred := inferred, tempSensor := sampleMean s, sameInf := infRun inferred u }) s
  let u := s1.safe
  let apart := decide (12 * 16 < (u.tempSensor - inferred).natAbs)
  let stuck := decide (1000 ≤ u.sameCnt) && infMoved u.sameInf
  let bad := (!plausSuspended s1 && (apart || stuck)) || decide (4 ≤ u.missing) || s1.pwr.samples.any sampleWild
  if bad then implausible s1
  else if plausSuspended s1 then safeUpd (fun u => { u with plausCnt := 0 }) s1
  else
    let s2 := safeUpd (fun u => { u with plausCnt := u.plausCnt + 1 }) s1
    if 10 ≤ s2.safe.plausCnt then causeGone 21 s2 else s2

end Sys2Proof.Machine
end

