-- ==== Sys2Proof/Machine/Safe.lean ====
section
/-! DEFINITION. The meanings of the Umpire's events and of the SAFE commands (ch. 14). -/

namespace Sys2Proof.Machine

/-- SELFTEST_DONE (R385): passed, or the failing path and step. -/
def execSelftestDone (dt : Nat) (fail : Option (Nat × Nat)) (s : State) : Host.Outcome State Fault Refusal :=
  doneOn dt (fun s =>
    if s.safe.selftest then
      let s1 := safeUpd (fun u => { u with selftest := false }) s
      match fail with
      | some f => bootReady (decideCause 2 f.1 f.2 s1)
      | none => bootReady s1
    else s) s

/-- LOCKSTEP_MISMATCH (R386). -/
def execLockstepMismatch (dt : Nat) (group : Fin 8) (s : State) : Host.Outcome State Fault Refusal :=
  doneOn dt (fun s => if s.ctl.fwFault then s else decideCause 6 0 group.val s) s

/-- WATCHDOG_SERVICE (R387): earlier than 32 periods after the last is cause WATCHDOG. -/
def execWatchdogService (dt : Nat) (s : State) : Host.Outcome State Fault Refusal :=
  doneOn dt (fun s =>
    if s.ctl.fwFault then s
    else
      match s.safe.wdAt with
      | some t =>
        let s1 := safeUpd (fun u => { u with wdAt := some s.up }) s
        if s.up < t + 32 * s.tb.aonCal then decideCause 7 0 1 s1 else s1
      | none => s) s

/-- WATCHDOG_TIMEOUT (R387): no service by 320 periods. -/
def execWatchdogTimeout (dt : Nat) (s : State) : Host.Outcome State Fault Refusal :=
  doneOn dt (fun s =>
    match s.safe.wdAt with
    | some t => decideCause 7 0 0 (safeUpd (fun u => { u with wdAt := none }) (reachUp (t + 320 * s.tb.aonCal) s))
    | none => s) s

/-- ECC_RATE_WINDOW (R389): the judgement of the corrected errors, at most 1 s after a window that held more than
CE_LIMIT. -/
def execEccRateWindow (dt : Nat) (s : State) : Host.Outcome State Fault Refusal :=
  doneOn dt (fun s =>
    if s.safe.ceOver = 0 then s else decideCause 9 s.safe.ceMem s.safe.ceOver (safeUpd (fun u => { u with ceOver := 0 }) s)) s

/-- SCRUB of a tile bank (R390, R391): kind 0 good, 1 corrected, 2 uncorrectable. -/
def execScrub (dt : Nat) (ch : Fin 1024) (granule : Fin 8192) (kind : Fin 3) (s : State) : Host.Outcome State Fault Refusal :=
  doneOn dt (eccRead ch.val granule.val kind.val) s

/-- MEMORY_SCRUB (R392) of a memory of R377. -/
def execMemoryScrub (dt : Nat) (mem granule : Nat) (kind : Fin 3) (s : State) : Host.Outcome State Fault Refusal :=
  doneOn dt (fun s => if 0x400 ≤ mem then eccRead mem granule kind.val s else s) s

/-- TEMP_PLAUSIBILITY_CHECK (R393). -/
def execTempPlausibilityCheck (dt : Nat) (inferred : Int) (s : State) : Host.Outcome State Fault Refusal :=
  doneOn dt (plausCheck inferred) s

/-- TPLL_FREQ_HOLD_END (R377): lock held for 10 ms. -/
def execTpllFreqHoldEnd (dt : Nat) (s : State) : Host.Outcome State Fault Refusal :=
  doneOn dt (fun s =>
    match s.tb.lockAt with
    | some t =>
      if s.tb.freqHold ∧ tpllLocked s then
        let s1 := reachUp (t + 10 * fineMs) s
        causeGone 13 { s1 with tb := { s1.tb with freqHold := false } }
      else s
    | none => s) s

/-- HOST_SILENT (R395), timed in AON periods (R376). -/
def execHostSilent (dt : Nat) (s : State) : Host.Outcome State Fault Refusal :=
  doneOn dt (fun s =>
    let ms := cfgF s .safe 0 0 31 16
    if ms = 0 ∨ s.safe.active.testBit 17 then s
    else
      let from_ := max (s.safe.confirmAt.getD 0) s.safe.liveAt
      let s1 := reachUp (from_ + aonSpan s (ms * fineMs)) s
      decideCause 17 0 (msSinceConfirm s1) s1) s

/-- HEARTBEAT (R397): every HEARTBEAT_MS of calibrated AON time. -/
def execHeartbeat (dt : Nat) (s : State) : Host.Outcome State Fault Refusal :=
  doneOn dt (fun s =>
    let ms := cfgF s .safe 0 0 47 32
    if ms = 0 then s
    else
      let s1 := reachUp (s.safe.heartAt + aonSpan s (ms * fineMs)) s
      decideCause 30 0 s1.safe.active (safeUpd (fun u => { u with heartAt := s1.up }) s1)) s

/-- The sequence number of the command just taken (R296). -/
def lastSeq (s : State) : Nat := (s.ctl.seq + (2 ^ 32 - 1)) % 2 ^ 32

/-- SAFE.CLEAR is applied at the end of its 1 ns cycle, with all that has fallen due by then, since a cause of that cycle wins
(R382; log entry 174). -/
def clearWait (m : Nat) (s : State) : State :=
  if nextMbx s = some m ∧ (cmdOf s m).opcode = 0x0B40 ∧ s.safe.safe then
    dueNow (reachUp (s.up + 8192 - (s.now % 8192).toNat) s)
  else s

/-- The clear takes effect (R382). -/
def clearSafe (s : State) : State :=
  let s1 := { s with safe := { s.safe with safe := false, safeNLow := false }, tb := { s.tb with freqFault := false } }
  journalDev 5 (sendCode 2 s1.safe.firstCause 0 0 s1.now s1.up s1)

/-- SAFE.CLEAR (R347, R382): a cause of the same 1 ns cycle wins; outside the safe state it has no effect. -/
def execSafeClear (dt : Nat) (mbx : Fin 32) (s : State) : Host.Outcome State Fault Refusal :=
  doneOn dt (fun s0 => runAct mbx.val 0x0B40 (rowNone 1 false anyCmd)
    (fun s _ => if s.safe.safe && (!clearReady s || decidedNow s) then stSafe else stOk)
    (fun _ s => ([], if s.safe.safe then clearSafe s else s)) (clearWait mbx.val s0)) s

/-- SAFE.ENTER (R347): cause COMMAND. -/
def execSafeEnter (dt : Nat) (mbx : Fin 32) (s : State) : Host.Outcome State Fault Refusal :=
  doneOn dt (runAct mbx.val 0x0B41 (rowNone 1 false anyCmd) devFree
    (fun c s => ([], decideCause 1 (mbxIface c.mbx) (lastSeq s) s))) s

/-- SAFE.CONFIRM_CFG (R347, R394): the published pair, or INCONSISTENT. -/
def execSafeConfirmCfg (dt : Nat) (mbx : Fin 32) (s : State) : Host.Outcome State Fault Refusal :=
  doneOn dt (runAct mbx.val 0x0B42 (rowNone 2 false anyCmd)
    (fun s c => if fld (c.w 1) 63 32 = s.ctl.pubEpoch ∧ fld (c.w 1) 31 0 = s.ctl.pubDigest then stOk else stIncons)
    (fun _ s => ([], causeGone 17 (causeGone 16 (safeUpd (fun u => { u with
      confirmPending := false, confirmedEpoch := s.ctl.pubEpoch, confirmAt := some s.up }) s))))) s

/-- SAFE.GET_STATUS (R402). -/
def execSafeGetStatus (dt : Nat) (mbx : Fin 32) (s : State) : Host.Outcome State Fault Refusal :=
  doneOn dt (runStat mbx.val 0x0B60 (rowNone 1 true anyCmd) (fun _ s => safeStatus s) (fun _ s => safeClearCnt s)) s

end Sys2Proof.Machine
end

