-- ==== Sys2Proof/Machine/Settings.lean ====
section
/-! DEFINITION. The meanings of the configuration commands and their readbacks: what each writes is in CfgStore.lean
(fields, ranges, classes), Consist.lean (consistency) and ApplyOps.lean (what changes when the set takes effect). -/

namespace Sys2Proof.Machine

/-- TB.SET_TPLL (R37). -/
def execTbSetTpll (dt : Nat) (mbx : Fin 32) (s : State) : Host.Outcome State Fault Refusal :=
  doneOn dt (runCfg mbx.val 0x0101) s

/-- TB.GET_TPLL (R333). -/
def execTbGetTpll (dt : Nat) (mbx : Fin 32) (s : State) : Host.Outcome State Fault Refusal :=
  doneOn dt (runGet mbx.val 0x0181) s

/-- TB.SET_MODE (R62). -/
def execTbSetMode (dt : Nat) (mbx : Fin 32) (s : State) : Host.Outcome State Fault Refusal :=
  doneOn dt (runCfg mbx.val 0x0102) s

/-- TB.GET_MODE (R324). -/
def execTbGetMode (dt : Nat) (mbx : Fin 32) (s : State) : Host.Outcome State Fault Refusal :=
  doneOn dt (runGet mbx.val 0x0182) s

/-- TB.SET_EPOCH (R46). -/
def execTbSetEpoch (dt : Nat) (mbx : Fin 32) (s : State) : Host.Outcome State Fault Refusal :=
  doneOn dt (runCfg mbx.val 0x0103) s

/-- TB.GET_EPOCH (R324). -/
def execTbGetEpoch (dt : Nat) (mbx : Fin 32) (s : State) : Host.Outcome State Fault Refusal :=
  doneOn dt (runGet mbx.val 0x0183) s

/-- EM.SET_CHANNEL (R99). -/
def execEmSetChannel (dt : Nat) (mbx : Fin 32) (s : State) : Host.Outcome State Fault Refusal :=
  doneOn dt (runCfg mbx.val 0x0201) s

/-- EM.GET_CHANNEL (R324). -/
def execEmGetChannel (dt : Nat) (mbx : Fin 32) (s : State) : Host.Outcome State Fault Refusal :=
  doneOn dt (runGet mbx.val 0x0281) s

/-- EM.SET_LIMITS (R99). -/
def execEmSetLimits (dt : Nat) (mbx : Fin 32) (s : State) : Host.Outcome State Fault Refusal :=
  doneOn dt (runCfg mbx.val 0x0202) s

/-- EM.GET_LIMITS (R324). -/
def execEmGetLimits (dt : Nat) (mbx : Fin 32) (s : State) : Host.Outcome State Fault Refusal :=
  doneOn dt (runGet mbx.val 0x0282) s

/-- EM.SET_VOLLEY (R79). -/
def execEmSetVolley (dt : Nat) (mbx : Fin 32) (s : State) : Host.Outcome State Fault Refusal :=
  doneOn dt (runCfg mbx.val 0x0203) s

/-- EM.GET_VOLLEY (R324). -/
def execEmGetVolley (dt : Nat) (mbx : Fin 32) (s : State) : Host.Outcome State Fault Refusal :=
  doneOn dt (runGet mbx.val 0x0283) s

/-- EM.SET_STRETCH (R82). -/
def execEmSetStretch (dt : Nat) (mbx : Fin 32) (s : State) : Host.Outcome State Fault Refusal :=
  doneOn dt (runCfg mbx.val 0x0204) s

/-- EM.GET_STRETCH (R324). -/
def execEmGetStretch (dt : Nat) (mbx : Fin 32) (s : State) : Host.Outcome State Fault Refusal :=
  doneOn dt (runGet mbx.val 0x0284) s

/-- PB.LOAD_DESC (R102). -/
def execPbLoadDesc (dt : Nat) (mbx : Fin 32) (s : State) : Host.Outcome State Fault Refusal :=
  doneOn dt (runCfg mbx.val 0x0301) s

/-- PB.GET_DESC (R324). -/
def execPbGetDesc (dt : Nat) (mbx : Fin 32) (s : State) : Host.Outcome State Fault Refusal :=
  doneOn dt (runGet mbx.val 0x0381) s

/-- PB.SET_SEGMENT (R108). -/
def execPbSetSegment (dt : Nat) (mbx : Fin 32) (s : State) : Host.Outcome State Fault Refusal :=
  doneOn dt (runCfg mbx.val 0x0302) s

/-- PB.GET_SEGMENT (R324). -/
def execPbGetSegment (dt : Nat) (mbx : Fin 32) (s : State) : Host.Outcome State Fault Refusal :=
  doneOn dt (runGet mbx.val 0x0382) s

/-- PB.SET_JUMP (R336). -/
def execPbSetJump (dt : Nat) (mbx : Fin 32) (s : State) : Host.Outcome State Fault Refusal :=
  doneOn dt (runCfg mbx.val 0x0303) s

/-- PB.GET_JUMP (R324). -/
def execPbGetJump (dt : Nat) (mbx : Fin 32) (s : State) : Host.Outcome State Fault Refusal :=
  doneOn dt (runGet mbx.val 0x0383) s

/-- PB.SET_CONFIG (R122). -/
def execPbSetConfig (dt : Nat) (mbx : Fin 32) (s : State) : Host.Outcome State Fault Refusal :=
  doneOn dt (runCfg mbx.val 0x0304) s

/-- PB.GET_CONFIG (R324). -/
def execPbGetConfig (dt : Nat) (mbx : Fin 32) (s : State) : Host.Outcome State Fault Refusal :=
  doneOn dt (runGet mbx.val 0x0384) s

/-- PB.SET_STL (R125). -/
def execPbSetStl (dt : Nat) (mbx : Fin 32) (s : State) : Host.Outcome State Fault Refusal :=
  doneOn dt (runCfg mbx.val 0x0305) s

/-- PB.GET_STL (R324). -/
def execPbGetStl (dt : Nat) (mbx : Fin 32) (s : State) : Host.Outcome State Fault Refusal :=
  doneOn dt (runGet mbx.val 0x0385) s

/-- PB.STREAM_OPEN (R128). -/
def execPbStreamOpen (dt : Nat) (mbx : Fin 32) (s : State) : Host.Outcome State Fault Refusal :=
  doneOn dt (runCfg mbx.val 0x0306) s

/-- PB.GET_STREAM (R324). -/
def execPbGetStream (dt : Nat) (mbx : Fin 32) (s : State) : Host.Outcome State Fault Refusal :=
  doneOn dt (runGet mbx.val 0x0386) s

/-- CMP.SET_RX (R159). -/
def execCmpSetRx (dt : Nat) (mbx : Fin 32) (s : State) : Host.Outcome State Fault Refusal :=
  doneOn dt (runCfg mbx.val 0x0401) s

/-- CMP.GET_RX (R324). -/
def execCmpGetRx (dt : Nat) (mbx : Fin 32) (s : State) : Host.Outcome State Fault Refusal :=
  doneOn dt (runGet mbx.val 0x0481) s

/-- CMP.SET_RX_TILE (R160). -/
def execCmpSetRxTile (dt : Nat) (mbx : Fin 32) (s : State) : Host.Outcome State Fault Refusal :=
  doneOn dt (runCfg mbx.val 0x0402) s

/-- CMP.GET_RX_TILE (R324). -/
def execCmpGetRxTile (dt : Nat) (mbx : Fin 32) (s : State) : Host.Outcome State Fault Refusal :=
  doneOn dt (runGet mbx.val 0x0482) s

/-- CMP.SET_MC (R161). -/
def execCmpSetMc (dt : Nat) (mbx : Fin 32) (s : State) : Host.Outcome State Fault Refusal :=
  doneOn dt (runCfg mbx.val 0x0403) s

/-- CMP.GET_MC (R324). -/
def execCmpGetMc (dt : Nat) (mbx : Fin 32) (s : State) : Host.Outcome State Fault Refusal :=
  doneOn dt (runGet mbx.val 0x0483) s

/-- CMP.SET_MP (R158). -/
def execCmpSetMp (dt : Nat) (mbx : Fin 32) (s : State) : Host.Outcome State Fault Refusal :=
  doneOn dt (runCfg mbx.val 0x0404) s

/-- CMP.GET_MP (R324). -/
def execCmpGetMp (dt : Nat) (mbx : Fin 32) (s : State) : Host.Outcome State Fault Refusal :=
  doneOn dt (runGet mbx.val 0x0484) s

/-- CMP.SET_MARGIN (R162). -/
def execCmpSetMargin (dt : Nat) (mbx : Fin 32) (s : State) : Host.Outcome State Fault Refusal :=
  doneOn dt (runCfg mbx.val 0x0405) s

/-- CMP.GET_MARGIN (R324). -/
def execCmpGetMargin (dt : Nat) (mbx : Fin 32) (s : State) : Host.Outcome State Fault Refusal :=
  doneOn dt (runGet mbx.val 0x0485) s

/-- WIN.SET_PROFILE (R175). -/
def execWinSetProfile (dt : Nat) (mbx : Fin 32) (s : State) : Host.Outcome State Fault Refusal :=
  doneOn dt (runCfg mbx.val 0x0501) s

/-- WIN.GET_PROFILE (R324). -/
def execWinGetProfile (dt : Nat) (mbx : Fin 32) (s : State) : Host.Outcome State Fault Refusal :=
  doneOn dt (runGet mbx.val 0x0581) s

/-- WIN.SET_TILE (R176). -/
def execWinSetTile (dt : Nat) (mbx : Fin 32) (s : State) : Host.Outcome State Fault Refusal :=
  doneOn dt (runCfg mbx.val 0x0502) s

/-- WIN.GET_TILE (R324). -/
def execWinGetTile (dt : Nat) (mbx : Fin 32) (s : State) : Host.Outcome State Fault Refusal :=
  doneOn dt (runGet mbx.val 0x0582) s

/-- WIN.SET_REC (R190). -/
def execWinSetRec (dt : Nat) (mbx : Fin 32) (s : State) : Host.Outcome State Fault Refusal :=
  doneOn dt (runCfg mbx.val 0x0503) s

/-- WIN.GET_REC (R324). -/
def execWinGetRec (dt : Nat) (mbx : Fin 32) (s : State) : Host.Outcome State Fault Refusal :=
  doneOn dt (runGet mbx.val 0x0583) s

/-- HIST.SET_TILE (R214). -/
def execHistSetTile (dt : Nat) (mbx : Fin 32) (s : State) : Host.Outcome State Fault Refusal :=
  doneOn dt (runCfg mbx.val 0x0601) s

/-- HIST.GET_TILE (R324). -/
def execHistGetTile (dt : Nat) (mbx : Fin 32) (s : State) : Host.Outcome State Fault Refusal :=
  doneOn dt (runGet mbx.val 0x0681) s

/-- HIST.SET_PERS (R215). -/
def execHistSetPers (dt : Nat) (mbx : Fin 32) (s : State) : Host.Outcome State Fault Refusal :=
  doneOn dt (runCfg mbx.val 0x0602) s

/-- HIST.GET_PERS (R324). -/
def execHistGetPers (dt : Nat) (mbx : Fin 32) (s : State) : Host.Outcome State Fault Refusal :=
  doneOn dt (runGet mbx.val 0x0682) s

/-- ECHO.SET_CFG (R238). -/
def execEchoSetCfg (dt : Nat) (mbx : Fin 32) (s : State) : Host.Outcome State Fault Refusal :=
  doneOn dt (runCfg mbx.val 0x0701) s

/-- ECHO.GET_CFG (R324). -/
def execEchoGetCfg (dt : Nat) (mbx : Fin 32) (s : State) : Host.Outcome State Fault Refusal :=
  doneOn dt (runGet mbx.val 0x0781) s

/-- ECHO.SET_COEF (R228). -/
def execEchoSetCoef (dt : Nat) (mbx : Fin 32) (s : State) : Host.Outcome State Fault Refusal :=
  doneOn dt (runCfg mbx.val 0x0702) s

/-- ECHO.GET_COEF (R341). -/
def execEchoGetCoef (dt : Nat) (mbx : Fin 32) (s : State) : Host.Outcome State Fault Refusal :=
  doneOn dt (runGet mbx.val 0x0782) s

/-- CAL.SET_USER (R250). -/
def execCalSetUser (dt : Nat) (mbx : Fin 32) (s : State) : Host.Outcome State Fault Refusal :=
  doneOn dt (runCfg mbx.val 0x0801) s

/-- CAL.GET_USER (R343). -/
def execCalGetUser (dt : Nat) (mbx : Fin 32) (s : State) : Host.Outcome State Fault Refusal :=
  doneOn dt (runGet mbx.val 0x0881) s

/-- TEAM.SET_CFG (R269). -/
def execTeamSetCfg (dt : Nat) (mbx : Fin 32) (s : State) : Host.Outcome State Fault Refusal :=
  doneOn dt (runCfg mbx.val 0x0901) s

/-- TEAM.GET_CFG (R324). -/
def execTeamGetCfg (dt : Nat) (mbx : Fin 32) (s : State) : Host.Outcome State Fault Refusal :=
  doneOn dt (runGet mbx.val 0x0981) s

/-- OUT.SET_QUEUE (R351). -/
def execOutSetQueue (dt : Nat) (mbx : Fin 32) (s : State) : Host.Outcome State Fault Refusal :=
  doneOn dt (runCfg mbx.val 0x0A01) s

/-- OUT.GET_QUEUE (R324). -/
def execOutGetQueue (dt : Nat) (mbx : Fin 32) (s : State) : Host.Outcome State Fault Refusal :=
  doneOn dt (runGet mbx.val 0x0A81) s

/-- OUT.SET_ROUTE (R365). -/
def execOutSetRoute (dt : Nat) (mbx : Fin 32) (s : State) : Host.Outcome State Fault Refusal :=
  doneOn dt (runCfg mbx.val 0x0A02) s

/-- OUT.GET_ROUTE (R324). -/
def execOutGetRoute (dt : Nat) (mbx : Fin 32) (s : State) : Host.Outcome State Fault Refusal :=
  doneOn dt (runGet mbx.val 0x0A82) s

/-- OUT.SET_PORT (R365). -/
def execOutSetPort (dt : Nat) (mbx : Fin 32) (s : State) : Host.Outcome State Fault Refusal :=
  doneOn dt (runCfg mbx.val 0x0A03) s

/-- OUT.GET_PORT (R324). -/
def execOutGetPort (dt : Nat) (mbx : Fin 32) (s : State) : Host.Outcome State Fault Refusal :=
  doneOn dt (runGet mbx.val 0x0A83) s

/-- OUT.SET_GATE (R372). -/
def execOutSetGate (dt : Nat) (mbx : Fin 32) (s : State) : Host.Outcome State Fault Refusal :=
  doneOn dt (runCfg mbx.val 0x0A04) s

/-- OUT.GET_GATE (R374). -/
def execOutGetGate (dt : Nat) (mbx : Fin 32) (s : State) : Host.Outcome State Fault Refusal :=
  doneOn dt (runGet mbx.val 0x0A84) s

/-- OUT.SET_FILTER (R365). -/
def execOutSetFilter (dt : Nat) (mbx : Fin 32) (s : State) : Host.Outcome State Fault Refusal :=
  doneOn dt (runCfg mbx.val 0x0A05) s

/-- OUT.GET_FILTER (R324). -/
def execOutGetFilter (dt : Nat) (mbx : Fin 32) (s : State) : Host.Outcome State Fault Refusal :=
  doneOn dt (runGet mbx.val 0x0A85) s

/-- OUT.SET_STREAM (R374). -/
def execOutSetStream (dt : Nat) (mbx : Fin 32) (s : State) : Host.Outcome State Fault Refusal :=
  doneOn dt (runCfg mbx.val 0x0A06) s

/-- OUT.GET_STREAM (R324). -/
def execOutGetStream (dt : Nat) (mbx : Fin 32) (s : State) : Host.Outcome State Fault Refusal :=
  doneOn dt (runGet mbx.val 0x0A86) s

/-- OUT.SET_TIME (R365). -/
def execOutSetTime (dt : Nat) (mbx : Fin 32) (s : State) : Host.Outcome State Fault Refusal :=
  doneOn dt (runCfg mbx.val 0x0A07) s

/-- OUT.GET_TIME (R324). -/
def execOutGetTime (dt : Nat) (mbx : Fin 32) (s : State) : Host.Outcome State Fault Refusal :=
  doneOn dt (runGet mbx.val 0x0A87) s

/-- SAFE.SET_CFG (R401). -/
def execSafeSetCfg (dt : Nat) (mbx : Fin 32) (s : State) : Host.Outcome State Fault Refusal :=
  doneOn dt (runCfg mbx.val 0x0B01) s

/-- SAFE.GET_CFG (R324). -/
def execSafeGetCfg (dt : Nat) (mbx : Fin 32) (s : State) : Host.Outcome State Fault Refusal :=
  doneOn dt (runGet mbx.val 0x0B81) s

/-- PWR.SET_CFG (R428). -/
def execPwrSetCfg (dt : Nat) (mbx : Fin 32) (s : State) : Host.Outcome State Fault Refusal :=
  doneOn dt (runCfg mbx.val 0x0C01) s

/-- PWR.GET_CFG (R324). -/
def execPwrGetCfg (dt : Nat) (mbx : Fin 32) (s : State) : Host.Outcome State Fault Refusal :=
  doneOn dt (runGet mbx.val 0x0C81) s

end Sys2Proof.Machine
end

