-- ==== Sys2Proof/Machine/Teams.lean ====
section
/-! DEFINITION. The meanings of the team's events and of the TEAM commands (ch. 10). -/

namespace Sys2Proof.Machine

/-- NOLGIL_FORM (R270), relayed as received, with the identity that it carries (R273, Table 3 of ch. 10). -/
def execNolgilForm (dt : Nat) (fromUp : Bool) (devNum : Nat) (form : FormId) (s : State) : Host.Outcome State Fault Refusal :=
  doneOn dt (nolgilIn fromUp 0 [devNum, form.sizeM1, form.ident] (formMsg fromUp devNum form.sizeM1)) s

/-- NOLGIL_EPOCH (R279). -/
def execNolgilEpoch (dt value : Nat) (s : State) : Host.Outcome State Fault Refusal :=
  doneOn dt (nolgilIn true 3 [value] (fun s => if isFollower s then stageEpoch value s else s)) s

/-- NOLGIL_STEP_NOTICE (R282). -/
def execNolgilStepNotice (dt : Nat) (delta : Int) (s : State) : Host.Outcome State Fault Refusal :=
  doneOn dt (nolgilIn true 4 [delta] (fun s => if isFollower s then teamUpd (fun t => { t with stepDelta := some delta }) s else s)) s

/-- NOLGIL_CAL_APPLY (R261): the apply time in team time and the offsets of members 1, 2, …, of which a follower takes its
own. -/
def execNolgilCalApply (dt : Nat) (teamTime : Int) (ofs : List Int) (s : State) : Host.Outcome State Fault Refusal :=
  doneOn dt (nolgilIn true 5 (teamTime :: ofs) (fun s =>
    match isFollower s, ofs[devNum s - 1]? with
    | true, some o => teamUpd (fun t => { t with calApply := some (o, teamTime + teamOfs s) }) s
    | _, _ => s)) s

/-- NOLGIL_STATE (R284). -/
def execNolgilState (dt : Nat) (dev : Fin 16) (locked coast : Bool) (work : MemberWork) (safe : Bool) (cause : Nat) (s : State) :
    Host.Outcome State Fault Refusal :=
  doneOn dt (fun s => if dev.val = devNum s then s
    else nolgilIn (sideOf s dev.val) 6 [dev.val, b2n locked, b2n coast, b2n work.idle, b2n safe, b2n work.cal, cause]
      (stateMsg dev.val locked coast work.idle safe work.cal cause) s) s

/-- HOP_DOWN (R274). -/
def execHopDown (dt : Nat) (up : Bool) (s : State) : Host.Outcome State Fault Refusal := doneOn dt (hopLost up) s

/-- HOP_UP (R274). -/
def execHopUp (dt : Nat) (up : Bool) (s : State) : Host.Outcome State Fault Refusal := doneOn dt (hopBack up) s

/-- SKEW_WATCH_EXCHANGE (R278): the watch of a hop stands with its downstream device. -/
def execSkewWatchExchange (dt : Nat) (up : Bool) (est : Stamps) (s : State) : Host.Outcome State Fault Refusal :=
  doneOn dt (fun s => if teamEn s && s.team.formed && up then watchHop est s else s) s

/-- TEAM.HUDDLE (R270, R279). -/
def execTeamHuddle (dt : Nat) (mbx : Fin 32) (s : State) : Host.Outcome State Fault Refusal :=
  doneOn dt (runAct mbx.val 0x0940
    (rowNone 3 false (fun c => onlyBits (c.w 1) [(35, 0)] && onlyBits (c.w 2) [(35, 0)]))
    (fun s _ => if !isMaster s then stIncons
      else if !isIdle s || !teamIdle s then stNotIdle
      else if !s.team.formed then stIncons else stOk)
    (fun c s =>
      let e : Nat := fld (c.w 1) 35 0 + fld (c.w 2) 35 0 * 2 ^ 36
      ([], out (.nolgil 3 [(e : Int)]) (teamUpd (fun t => { t with huddleAt := some (s.up + 10 * fineUs) }) (stageEpoch e s))))) s

/-- TEAM.GET_STATUS (R286). -/
def execTeamGetStatus (dt : Nat) (mbx : Fin 32) (s : State) : Host.Outcome State Fault Refusal :=
  doneOn dt (runStat mbx.val 0x0960 (rowNone 1 true anyCmd) (fun _ s => teamStatus s) (fun _ s => teamClear s)) s

end Sys2Proof.Machine
end

