-- ==== Sys2Proof/Machine/Timebase.lean ====
section
/-! DEFINITION. The meanings of the timebase's events and of the TB commands (ch. 02). -/

namespace Sys2Proof.Machine

/-- LOCK_WINDOW_END (R39, R40, R58, R453): pll 0 the TPLL, 1 the SPLL, 2 the NPLL. -/
def execLockWindowEnd (dt : Nat) (pll : Fin 3) (count : Nat) (phase : Int) (loop : Nat) (s : State) :
    Host.Outcome State Fault Refusal :=
  doneOn dt (fun s => if pll.val = 0 then tpllWindow count phase loop s else sdWindow pll.val count s) s

/-- BAND_SEARCH_DONE (R42). -/
def execBandSearchDone (dt : Nat) (band : Fin 64) (loop : Nat) (s : State) : Host.Outcome State Fault Refusal :=
  doneOn dt (searchDone band.val loop) s

/-- REF_PRESENT (R41, R53, R58). -/
def execRefPresent (dt : Nat) (s : State) : Host.Outcome State Fault Refusal := doneOn dt refHere s

/-- REF_LOSS (R55). -/
def execRefLoss (dt : Nat) (gap : RefGap) (s : State) : Host.Outcome State Fault Refusal :=
  doneOn dt (refGone gap.ago gap.mean) s

/-- TPLL_REACQ_TIMEOUT (R37, R333). -/
def execTpllReacqTimeout (dt : Nat) (s : State) : Host.Outcome State Fault Refusal := doneOn dt reacqLate s

/-- FREQ_CHECK_WINDOW (R53): ticks counted over W reference cycles while the reference is present. -/
def execFreqCheckWindow (dt count : Nat) (s : State) : Host.Outcome State Fault Refusal :=
  doneOn dt (fun s => if s.tb.refPresent then freqJudge count (freqExp (refHz s)) s else s) s

/-- AON_PERIOD (R54, R388): its length in fine units. -/
def execAonPeriod (dt period : Nat) (s : State) : Host.Outcome State Fault Refusal := doneOn dt (aonPeriod period) s

/-- AON_FREQ_CHECK (R54): ticks counted over 4 calibrated AON periods, to the nearest tick, while the reference is absent. -/
def execAonFreqCheck (dt count : Nat) (s : State) : Host.Outcome State Fault Refusal :=
  doneOn dt (fun s => if s.tb.refPresent then s else freqJudge count ((4 * s.tb.aonCal + 2048) / 4096) s) s

/-- AON_EDGE_TIMEOUT (R388; log entry 23). -/
def execAonEdgeTimeout (dt : Nat) (s : State) : Host.Outcome State Fault Refusal :=
  doneOn dt (fun s => decideCause 11 0 100000000 (tbUpd (fun t => { t with aonGood := 0 }) s)) s

/-- HOLDOVER_EXPIRE (R55): HOLDOVER_US in force after the timer's start. -/
def execHoldoverExpire (dt : Nat) (s : State) : Host.Outcome State Fault Refusal :=
  doneOn dt (fun s => match s.tb.holdAt with
    | some t => if s.safe.active.testBit 15 then s else decideCause 15 0 0 (reachUp (t + holdoverUs s * fineUs) s)
    | none => s) s

/-- PHASE_JUMP (R454, R282, R283): delta in fine units. -/
def execPhaseJump (dt : Nat) (delta : Int) (s : State) : Host.Outcome State Fault Refusal := doneOn dt (phaseJump delta) s

/-- SS_TRANSFER (R50): 16 µs after the last, 40 or 80 whole ticks. -/
def execSsTransfer (dt : Nat) (s : State) : Host.Outcome State Fault Refusal :=
  doneOn dt (fun s =>
    let m := cfgF s .mode 0 0 8 6
    if s.tb.epochSet ∧ (m = 1 ∨ m = 2) then
      let s1 := reach (s.tb.ssAt + (16 * fineUs : Nat)) s
      tbUpd (fun t => { t with ssAt := t.ssAt + (16 * fineUs : Nat), ssTicks := t.ssTicks + 40 * m }) s1
    else s) s

/-- SD_REFCLK_LOSS (R63). -/
def execSdRefclkLoss (dt : Nat) (s : State) : Host.Outcome State Fault Refusal := doneOn dt sdLoss s

/-- SD_REFCLK_RETURN (R453): the loops count their windows again. -/
def execSdRefclkReturn (dt : Nat) (s : State) : Host.Outcome State Fault Refusal :=
  doneOn dt (tbUpd (fun t => { t with sdPresent := true })) s

/-- HUDDLE_IN (R45, R279, R281). -/
def execHuddleIn (dt : Nat) (s : State) : Host.Outcome State Fault Refusal := doneOn dt huddleEdge s

/-- HUDDLE_OUT_DRIVE (R279). -/
def execHuddleOutDrive (dt : Nat) (s : State) : Host.Outcome State Fault Refusal := doneOn dt huddleDrive s

/-- QUIET_INTERVAL_START (R47): `frame` tells that it lies between the windows of two frames. -/
def execQuietIntervalStart (dt : Nat) (frame : Bool) (s : State) : Host.Outcome State Fault Refusal :=
  doneOn dt (quietStart frame) s

/-- NOT_IDLE for a class I action. -/
def devIdle : State → Cmd → Nat := fun s _ => if isIdle s then stOk else stNotIdle

/-- TB.BAND_SEARCH (R42, R333). -/
def execTbBandSearch (dt : Nat) (mbx : Fin 32) (s : State) : Host.Outcome State Fault Refusal :=
  doneOn dt (runBg mbx.val 0x0140 (rowNone 1 false anyCmd) devIdle
    (fun _ s => tbUpd (fun t => { t with reacqAt := some s.up }) (bandSearch s))) s

/-- TB.BAND_STORE (R42). -/
def execTbBandStore (dt : Nat) (mbx : Fin 32) (s : State) : Host.Outcome State Fault Refusal :=
  doneOn dt (runAct mbx.val 0x0141 (rowOne 1 8 anyCmd)
    (fun s _ => if s.tb.st != .locked then stNotLocked else if !isIdle s then stNotIdle else stOk)
    (fun c s => ([], bandStore c.first s))) s

/-- TB.BAND_HOP (R42, R333). -/
def execTbBandHop (dt : Nat) (mbx : Fin 32) (s : State) : Host.Outcome State Fault Refusal :=
  doneOn dt (runBg mbx.val 0x0142 (rowOne 1 8 anyCmd)
    (fun s c => if !isIdle s then stNotIdle else if s.tb.slots.any (fun x => x.1 == c.first) then stOk else stNoRes)
    (fun c s => bandHop c.first s)) s

/-- TB.REALIGN (R60, R282, R333). -/
def execTbRealign (dt : Nat) (mbx : Fin 32) (s : State) : Host.Outcome State Fault Refusal :=
  doneOn dt (runAct mbx.val 0x0143 (rowNone 1 false anyCmd)
    (fun s _ => if s.tb.st != .locked then stNotLocked else if followMode s || isFollower s then stIncons else stOk)
    (fun _ s =>
      if s.tb.phaseOfs = 0 then ([], s)
      else
        let s1 := if isMaster s then out (.nolgil 4 [s.tb.phaseOfs]) s else s
        let s2 := tbUpd (fun t => { t with realign := true }) s1
        ([], if stepsNow s2 then realignStep s2 else s2))) s

/-- TB.GET_STATUS (R63). -/
def execTbGetStatus (dt : Nat) (mbx : Fin 32) (s : State) : Host.Outcome State Fault Refusal :=
  doneOn dt (runStat mbx.val 0x0160 (rowNone 1 false anyCmd)
    (fun _ s => tbStatus s ++ [cfgW s .tpll 0 0, tpllWord1 s]) (fun _ s => s)) s

end Sys2Proof.Machine
end

