-- ==== Sys2Proof/Machine/Windows.lean ====
section
/-! DEFINITION. The meanings of the window and recorder events and of the WIN actions (ch. 06). SHOT_ORIGIN stands with
the Playbook. -/

namespace Sys2Proof.Machine

/-- POST_WINDOW_END (R168, R202). -/
def execPostWindowEnd (dt : Nat) (tile : Fin 64) (s : State) : Host.Outcome State Fault Refusal := doneOn dt (postEnd tile.val) s

/-- REARM (R168). -/
def execRearm (dt : Nat) (tile : Fin 64) (s : State) : Host.Outcome State Fault Refusal := doneOn dt (tileRearm tile.val) s

/-- REC_EPOCH_MARKER (R180). -/
def execRecEpochMarker (dt : Nat) (tile : Fin 64) (s : State) : Host.Outcome State Fault Refusal := doneOn dt (recEpoch tile.val) s

/-- REC_HOLD_END (R182). -/
def execRecHoldEnd (dt : Nat) (tile : Fin 64) (s : State) : Host.Outcome State Fault Refusal := doneOn dt (recHoldOver tile.val) s

/-- TRIG_IN_EDGE (R183). -/
def execTrigInEdge (dt : Nat) (pin : Fin 2) (s : State) : Host.Outcome State Fault Refusal := doneOn dt (trigIn pin.val) s

/-- REC_POST_TIMEOUT (R185). -/
def execRecPostTimeout (dt : Nat) (tile : Fin 64) (s : State) : Host.Outcome State Fault Refusal := doneOn dt (recTimeout tile.val) s

/-- REC_READOUT_DONE (R182, R188). -/
def execRecReadoutDone (dt : Nat) (tile : Fin 64) (s : State) : Host.Outcome State Fault Refusal := doneOn dt (recReadDone tile.val) s

/-- REC_TEAM_ARM_TIME (R187). -/
def execRecTeamArmTime (dt : Nat) (s : State) : Host.Outcome State Fault Refusal := doneOn dt recTeamArm s

/-- REC_TEAM_TRIGGER_TIME (R187). -/
def execRecTeamTriggerTime (dt : Nat) (s : State) : Host.Outcome State Fault Refusal := doneOn dt recTeamFire s

/-- NOLGIL_ARM (R187): the common arming time, in team time (R271). -/
def execNolgilArm (dt : Nat) (teamTime : Int) (s : State) : Host.Outcome State Fault Refusal :=
  doneOn dt (nolgilIn true 1 [teamTime] (fun s => { s with team := { s.team with armAt := s.team.armAt ++ [teamTime + teamOfs s] } })) s

/-- NOLGIL_TRIGGER (R187). -/
def execNolgilTrigger (dt : Nat) (dev : Fin 16) (teamTime : Int) (s : State) : Host.Outcome State Fault Refusal :=
  doneOn dt (fun s => if dev.val = devNum s then s
    else nolgilIn (sideOf s dev.val) 2 [dev.val, teamTime]
      (fun s => { s with team := { s.team with trigs := s.team.trigs ++ [(dev.val, teamTime)] } }) s) s

/-- WIN.ARM_REC (R182, R187). -/
def execWinArmRec (dt : Nat) (mbx : Fin 32) (s : State) : Host.Outcome State Fault Refusal :=
  doneOn dt (runAct mbx.val 0x0540
    (fun _ c => { len := lenIs c 2, range := selPlain c false [0, 1] && selNone c && c.w 1 != 0 }) armDev
    (fun c s => ([], armEff c s))) s

/-- WIN.DISARM_REC (R182). -/
def execWinDisarmRec (dt : Nat) (mbx : Fin 32) (s : State) : Host.Outcome State Fault Refusal :=
  doneOn dt (runAct mbx.val 0x0541 (rowNone 2 false (fun c => c.w 1 != 0)) devFree
    (fun c s => ([], (maskTiles c).foldl (fun a ti => recDisarm ti a) s))) s

/-- WIN.TRIG_REC (R183, R339). -/
def execWinTrigRec (dt : Nat) (mbx : Fin 32) (s : State) : Host.Outcome State Fault Refusal :=
  doneOn dt (runAct mbx.val 0x0542 (rowNone 2 false (fun c => c.w 1 != 0)) devFree
    (fun c s => ([], (maskTiles c).foldl (fun a ti => recTrigger ti 6 0 a.now a) s))) s

/-- WIN.READ_REC (R188, R339). -/
def execWinReadRec (dt : Nat) (mbx : Fin 32) (s : State) : Host.Outcome State Fault Refusal :=
  doneOn dt (runAct mbx.val 0x0543 (rowQueue 2 (fun c => c.w 1 != 0)) readDev
    (fun c s => ([], (maskTiles c).foldl (fun a ti => readTile c.first ti a) s))) s

/-- WIN.GET_STATUS (R191). -/
def execWinGetStatus (dt : Nat) (mbx : Fin 32) (s : State) : Host.Outcome State Fault Refusal :=
  doneOn dt (runStat mbx.val 0x0560 (rowStat [(1024, 15), (64, 5)] true)
    (fun c s => (upTo c.first c.last).flatMap (fun i => if c.opt = 1 then winTileStatus s i else winChStatus s i))
    (fun c s => winClear (c.opt == 1) c.first c.last s)) s

end Sys2Proof.Machine
end

