-- ==== Sys2Proof/Machine/Dispatch.lean ====
section
/-! DEFINITION. The meaning of every command: one arm per constructor. -/

namespace Sys2Proof.Machine

/-- The effect of a command on everything but the queue of waiting commands. -/
def exec (i : Instr) (s : State) : Host.Outcome State Fault Refusal :=
  match i with
  | .resetAssert dt low => Sys2Proof.Machine.execResetAssert dt low s
  | .powerOnDetect dt coreMv io33Mv => Sys2Proof.Machine.execPowerOnDetect dt coreMv io33Mv s
  | .powerLoss dt => Sys2Proof.Machine.execPowerLoss dt s
  | .resetRelease dt temp => Sys2Proof.Machine.execResetRelease dt temp s
  | .bootImageVerified dt responds ok => Sys2Proof.Machine.execBootImageVerified dt responds ok s
  | .factoryCheckDone dt misread => Sys2Proof.Machine.execFactoryCheckDone dt misread s
  | .lpddr5Trained dt ok mib => Sys2Proof.Machine.execLpddr5Trained dt ok mib s
  | .bootComplete dt => Sys2Proof.Machine.execBootComplete dt s
  | .lockWindowEnd dt pll count phase loop => Sys2Proof.Machine.execLockWindowEnd dt pll count phase loop s
  | .bandSearchDone dt band loop => Sys2Proof.Machine.execBandSearchDone dt band loop s
  | .refPresent dt => Sys2Proof.Machine.execRefPresent dt s
  | .refLoss dt gap => Sys2Proof.Machine.execRefLoss dt gap s
  | .tpllReacqTimeout dt => Sys2Proof.Machine.execTpllReacqTimeout dt s
  | .freqCheckWindow dt count => Sys2Proof.Machine.execFreqCheckWindow dt count s
  | .aonPeriod dt period => Sys2Proof.Machine.execAonPeriod dt period s
  | .aonFreqCheck dt count => Sys2Proof.Machine.execAonFreqCheck dt count s
  | .aonEdgeTimeout dt => Sys2Proof.Machine.execAonEdgeTimeout dt s
  | .holdoverExpire dt => Sys2Proof.Machine.execHoldoverExpire dt s
  | .phaseJump dt delta => Sys2Proof.Machine.execPhaseJump dt delta s
  | .ssTransfer dt => Sys2Proof.Machine.execSsTransfer dt s
  | .sdRefclkLoss dt => Sys2Proof.Machine.execSdRefclkLoss dt s
  | .huddleIn dt => Sys2Proof.Machine.execHuddleIn dt s
  | .huddleOutDrive dt => Sys2Proof.Machine.execHuddleOutDrive dt s
  | .quietIntervalStart dt frame => Sys2Proof.Machine.execQuietIntervalStart dt frame s
  | .calStandbyLoaded dt => Sys2Proof.Machine.execCalStandbyLoaded dt s
  | .calStaleTimeout dt => Sys2Proof.Machine.execCalStaleTimeout dt s
  | .rxSettleDone dt ch above => Sys2Proof.Machine.execRxSettleDone dt ch above s
  | .descFetch dt => Sys2Proof.Machine.execDescFetch dt s
  | .shotExpand dt => Sys2Proof.Machine.execShotExpand dt s
  | .segmentDecisionPoint dt => Sys2Proof.Machine.execSegmentDecisionPoint dt s
  | .pbHalt dt => Sys2Proof.Machine.execPbHalt dt s
  | .shotClockEvent dt => Sys2Proof.Machine.execShotClockEvent dt s
  | .mp0Edge dt mp1 => Sys2Proof.Machine.execMp0Edge dt mp1 s
  | .mirrorEdgeTimeout dt => Sys2Proof.Machine.execMirrorEdgeTimeout dt s
  | .steerUpdateEdge dt link => Sys2Proof.Machine.execSteerUpdateEdge dt link s
  | .shotOrigin dt tile => Sys2Proof.Machine.execShotOrigin dt tile s
  | .postWindowEnd dt tile => Sys2Proof.Machine.execPostWindowEnd dt tile s
  | .rearm dt tile => Sys2Proof.Machine.execRearm dt tile s
  | .streamDmaFetch dt entries => Sys2Proof.Machine.execStreamDmaFetch dt entries s
  | .streamDatagram dt rx head entries => Sys2Proof.Machine.execStreamDatagram dt rx head entries s
  | .volleyOffer dt ch => Sys2Proof.Machine.execVolleyOffer dt ch s
  | .accountantBucket dt ch window => Sys2Proof.Machine.execAccountantBucket dt ch window s
  | .edgeLaunch dt ch => Sys2Proof.Machine.execEdgeLaunch dt ch s
  | .loopbackCheck dt ch rise seen => Sys2Proof.Machine.execLoopbackCheck dt ch rise seen s
  | .driverBiasSettled dt ch => Sys2Proof.Machine.execDriverBiasSettled dt ch s
  | .tripNAssert dt pin low => Sys2Proof.Machine.execTripNAssert dt pin low s
  | .mcOutputChange dt m hi lo => Sys2Proof.Machine.execMcOutputChange dt m hi lo s
  | .mcBlankEnd dt m => Sys2Proof.Machine.execMcBlankEnd dt m s
  | .mcHoldEnd dt m => Sys2Proof.Machine.execMcHoldEnd dt m s
  | .mcResolveSample dt m hi lo => Sys2Proof.Machine.execMcResolveSample dt m hi lo s
  | .monitorUnresolved dt m => Sys2Proof.Machine.execMonitorUnresolved dt m s
  | .rxEvent dt ch cycle code high ecc => Sys2Proof.Machine.execRxEvent dt ch cycle code high ecc s
  | .pileLostEvent dt ch => Sys2Proof.Machine.execPileLostEvent dt ch s
  | .recEpochMarker dt tile => Sys2Proof.Machine.execRecEpochMarker dt tile s
  | .recHoldEnd dt tile => Sys2Proof.Machine.execRecHoldEnd dt tile s
  | .trigInEdge dt pin => Sys2Proof.Machine.execTrigInEdge dt pin s
  | .recPostTimeout dt tile => Sys2Proof.Machine.execRecPostTimeout dt tile s
  | .recReadoutDone dt tile => Sys2Proof.Machine.execRecReadoutDone dt tile s
  | .recTeamArmTime dt => Sys2Proof.Machine.execRecTeamArmTime dt s
  | .recTeamTriggerTime dt => Sys2Proof.Machine.execRecTeamTriggerTime dt s
  | .enginePassStart dt q ecc => Sys2Proof.Machine.execEnginePassStart dt q ecc s
  | .enginePassDone dt q => Sys2Proof.Machine.execEnginePassDone dt q s
  | .enginePublish dt q => Sys2Proof.Machine.execEnginePublish dt q s
  | .haltDeferredClose dt ch => Sys2Proof.Machine.execHaltDeferredClose dt ch s
  | .persTagSweep dt q slot => Sys2Proof.Machine.execPersTagSweep dt q slot s
  | .persTagClearDone dt q => Sys2Proof.Machine.execPersTagClearDone dt q s
  | .calTileLeaveService dt tile => Sys2Proof.Machine.execCalTileLeaveService dt tile s
  | .calLinPassEnd dt positions => Sys2Proof.Machine.execCalLinPassEnd dt positions s
  | .calLinTimeout dt tile => Sys2Proof.Machine.execCalLinTimeout dt tile s
  | .calZeroBlockEnd dt => Sys2Proof.Machine.execCalZeroBlockEnd dt s
  | .calZeroTimeout dt => Sys2Proof.Machine.execCalZeroTimeout dt s
  | .calTeamMeasureDone dt meas => Sys2Proof.Machine.execCalTeamMeasureDone dt meas s
  | .calTeamApplyTime dt => Sys2Proof.Machine.execCalTeamApplyTime dt s
  | .calTeamTimeout dt => Sys2Proof.Machine.execCalTeamTimeout dt s
  | .autoCalStart dt => Sys2Proof.Machine.execAutoCalStart dt s
  | .nolgilForm dt fromUp devNum sizeM1 => Sys2Proof.Machine.execNolgilForm dt fromUp devNum sizeM1 s
  | .nolgilArm dt teamTime => Sys2Proof.Machine.execNolgilArm dt teamTime s
  | .nolgilTrigger dt dev teamTime => Sys2Proof.Machine.execNolgilTrigger dt dev teamTime s
  | .nolgilEpoch dt value => Sys2Proof.Machine.execNolgilEpoch dt value s
  | .nolgilStepNotice dt delta => Sys2Proof.Machine.execNolgilStepNotice dt delta s
  | .nolgilCalApply dt teamTime ofs => Sys2Proof.Machine.execNolgilCalApply dt teamTime ofs s
  | .nolgilState dt dev locked coast work safe cause => Sys2Proof.Machine.execNolgilState dt dev locked coast work safe cause s
  | .hopDown dt up => Sys2Proof.Machine.execHopDown dt up s
  | .hopUp dt up => Sys2Proof.Machine.execHopUp dt up s
  | .skewWatchExchange dt up est => Sys2Proof.Machine.execSkewWatchExchange dt up est s
  | .hostDoorbell dt iface mask => Sys2Proof.Machine.execHostDoorbell dt iface mask s
  | .hostRelease dt iface mask => Sys2Proof.Machine.execHostRelease dt iface mask s
  | .mbxSlotWrite dt iface offset data => Sys2Proof.Machine.execMbxSlotWrite dt iface offset data s
  | .irqPendingClear dt iface mask => Sys2Proof.Machine.execIrqPendingClear dt iface mask s
  | .spiAlertAck dt => Sys2Proof.Machine.execSpiAlertAck dt s
  | .spiAlertRead dt => Sys2Proof.Machine.execSpiAlertRead dt s
  | .pbStreamDoorbell dt value => Sys2Proof.Machine.execPbStreamDoorbell dt value s
  | .registerWrite dt iface offset data => Sys2Proof.Machine.execRegisterWrite dt iface offset data s
  | .spiWrite dt addr data => Sys2Proof.Machine.execSpiWrite dt addr data s
  | .spiRead dt addr n => Sys2Proof.Machine.execSpiRead dt addr n s
  | .spiWriteC dt addr count data crc ended => Sys2Proof.Machine.execSpiWriteC dt addr count data crc ended s
  | .spiReadC dt addr count => Sys2Proof.Machine.execSpiReadC dt addr count s
  | .udpCtrlDatagram dt rx srcIp srcUdp words => Sys2Proof.Machine.execUdpCtrlDatagram dt rx srcIp srcUdp words s
  | .txnTimeout dt id => Sys2Proof.Machine.execTxnTimeout dt id s
  | .cfgPublish dt => Sys2Proof.Machine.execCfgPublish dt s
  | .journalMirrorWrite dt => Sys2Proof.Machine.execJournalMirrorWrite dt s
  | .mramPageWriteDone dt ok => Sys2Proof.Machine.execMramPageWriteDone dt ok s
  | .logFlush dt => Sys2Proof.Machine.execLogFlush dt s
  | .consRead dt queue cons => Sys2Proof.Machine.execConsRead dt queue cons s
  | .queueIrqCoal dt queue => Sys2Proof.Machine.execQueueIrqCoal dt queue s
  | .datagramFlush dt queue => Sys2Proof.Machine.execDatagramFlush dt queue s
  | .c0StoreDrain dt dest => Sys2Proof.Machine.execC0StoreDrain dt dest s
  | .ethFrameRx dt port frame => Sys2Proof.Machine.execEthFrameRx dt port frame s
  | .gptpMessageRx dt port msg => Sys2Proof.Machine.execGptpMessageRx dt port msg s
  | .gptpMessageTx dt port pdelay => Sys2Proof.Machine.execGptpMessageTx dt port pdelay s
  | .gateIntervalEnd dt port => Sys2Proof.Machine.execGateIntervalEnd dt port s
  | .gateListApply dt port => Sys2Proof.Machine.execGateListApply dt port s
  | .cbRecoveryReset dt stream => Sys2Proof.Machine.execCbRecoveryReset dt stream s
  | .portLinkChange dt port linkUp => Sys2Proof.Machine.execPortLinkChange dt port linkUp s
  | .telemetryPeriod dt => Sys2Proof.Machine.execTelemetryPeriod dt s
  | .selftestDone dt fail => Sys2Proof.Machine.execSelftestDone dt fail s
  | .lockstepMismatch dt group => Sys2Proof.Machine.execLockstepMismatch dt group s
  | .watchdogService dt => Sys2Proof.Machine.execWatchdogService dt s
  | .watchdogTimeout dt => Sys2Proof.Machine.execWatchdogTimeout dt s
  | .eccRateWindow dt => Sys2Proof.Machine.execEccRateWindow dt s
  | .scrub dt ch granule kind => Sys2Proof.Machine.execScrub dt ch granule kind s
  | .memoryScrub dt mem granule kind => Sys2Proof.Machine.execMemoryScrub dt mem granule kind s
  | .tempPlausibilityCheck dt inferred => Sys2Proof.Machine.execTempPlausibilityCheck dt inferred s
  | .tpllFreqHoldEnd dt => Sys2Proof.Machine.execTpllFreqHoldEnd dt s
  | .hostSilent dt => Sys2Proof.Machine.execHostSilent dt s
  | .heartbeat dt => Sys2Proof.Machine.execHeartbeat dt s
  | .tempSample dt temp => Sys2Proof.Machine.execTempSample dt temp s
  | .shutdownEnter dt => Sys2Proof.Machine.execShutdownEnter dt s
  | .thermalHardTrip dt => Sys2Proof.Machine.execThermalHardTrip dt s
  | .droopAssert dt sensor => Sys2Proof.Machine.execDroopAssert dt sensor s
  | .droopDeassert dt sensor => Sys2Proof.Machine.execDroopDeassert dt sensor s
  | .throttleStepUp dt => Sys2Proof.Machine.execThrottleStepUp dt s
  | .sysSetCtrlPort dt mbx => Sys2Proof.Machine.execSysSetCtrlPort dt mbx s
  | .sysReset dt mbx => Sys2Proof.Machine.execSysReset dt mbx s
  | .sysSelectBoot dt mbx => Sys2Proof.Machine.execSysSelectBoot dt mbx s
  | .sysReadJournal dt mbx => Sys2Proof.Machine.execSysReadJournal dt mbx s
  | .sysReadConfig dt mbx => Sys2Proof.Machine.execSysReadConfig dt mbx s
  | .sysGetStatus dt mbx => Sys2Proof.Machine.execSysGetStatus dt mbx s
  | .tbSetTpll dt mbx => Sys2Proof.Machine.execTbSetTpll dt mbx s
  | .tbSetMode dt mbx => Sys2Proof.Machine.execTbSetMode dt mbx s
  | .tbSetEpoch dt mbx => Sys2Proof.Machine.execTbSetEpoch dt mbx s
  | .tbBandSearch dt mbx => Sys2Proof.Machine.execTbBandSearch dt mbx s
  | .tbBandStore dt mbx => Sys2Proof.Machine.execTbBandStore dt mbx s
  | .tbBandHop dt mbx => Sys2Proof.Machine.execTbBandHop dt mbx s
  | .tbRealign dt mbx => Sys2Proof.Machine.execTbRealign dt mbx s
  | .tbGetStatus dt mbx => Sys2Proof.Machine.execTbGetStatus dt mbx s
  | .emSetChannel dt mbx => Sys2Proof.Machine.execEmSetChannel dt mbx s
  | .emSetLimits dt mbx => Sys2Proof.Machine.execEmSetLimits dt mbx s
  | .emSetVolley dt mbx => Sys2Proof.Machine.execEmSetVolley dt mbx s
  | .emSetStretch dt mbx => Sys2Proof.Machine.execEmSetStretch dt mbx s
  | .emClearTrip dt mbx => Sys2Proof.Machine.execEmClearTrip dt mbx s
  | .emGetStatus dt mbx => Sys2Proof.Machine.execEmGetStatus dt mbx s
  | .pbLoadDesc dt mbx => Sys2Proof.Machine.execPbLoadDesc dt mbx s
  | .pbSetSegment dt mbx => Sys2Proof.Machine.execPbSetSegment dt mbx s
  | .pbSetJump dt mbx => Sys2Proof.Machine.execPbSetJump dt mbx s
  | .pbSetConfig dt mbx => Sys2Proof.Machine.execPbSetConfig dt mbx s
  | .pbSetStl dt mbx => Sys2Proof.Machine.execPbSetStl dt mbx s
  | .pbStreamOpen dt mbx => Sys2Proof.Machine.execPbStreamOpen dt mbx s
  | .pbArmJump dt mbx => Sys2Proof.Machine.execPbArmJump dt mbx s
  | .pbJump dt mbx => Sys2Proof.Machine.execPbJump dt mbx s
  | .pbStart dt mbx => Sys2Proof.Machine.execPbStart dt mbx s
  | .pbStop dt mbx => Sys2Proof.Machine.execPbStop dt mbx s
  | .pbStreamClose dt mbx => Sys2Proof.Machine.execPbStreamClose dt mbx s
  | .pbClearUnderrun dt mbx => Sys2Proof.Machine.execPbClearUnderrun dt mbx s
  | .pbGetStatus dt mbx => Sys2Proof.Machine.execPbGetStatus dt mbx s
  | .cmpSetRx dt mbx => Sys2Proof.Machine.execCmpSetRx dt mbx s
  | .cmpSetRxTile dt mbx => Sys2Proof.Machine.execCmpSetRxTile dt mbx s
  | .cmpSetMc dt mbx => Sys2Proof.Machine.execCmpSetMc dt mbx s
  | .cmpSetMp dt mbx => Sys2Proof.Machine.execCmpSetMp dt mbx s
  | .cmpSetMargin dt mbx => Sys2Proof.Machine.execCmpSetMargin dt mbx s
  | .cmpGetStatus dt mbx => Sys2Proof.Machine.execCmpGetStatus dt mbx s
  | .winSetProfile dt mbx => Sys2Proof.Machine.execWinSetProfile dt mbx s
  | .winSetTile dt mbx => Sys2Proof.Machine.execWinSetTile dt mbx s
  | .winSetRec dt mbx => Sys2Proof.Machine.execWinSetRec dt mbx s
  | .winArmRec dt mbx => Sys2Proof.Machine.execWinArmRec dt mbx s
  | .winDisarmRec dt mbx => Sys2Proof.Machine.execWinDisarmRec dt mbx s
  | .winTrigRec dt mbx => Sys2Proof.Machine.execWinTrigRec dt mbx s
  | .winReadRec dt mbx => Sys2Proof.Machine.execWinReadRec dt mbx s
  | .winGetStatus dt mbx => Sys2Proof.Machine.execWinGetStatus dt mbx s
  | .histSetTile dt mbx => Sys2Proof.Machine.execHistSetTile dt mbx s
  | .histSetPers dt mbx => Sys2Proof.Machine.execHistSetPers dt mbx s
  | .histGetStatus dt mbx => Sys2Proof.Machine.execHistGetStatus dt mbx s
  | .echoSetCfg dt mbx => Sys2Proof.Machine.execEchoSetCfg dt mbx s
  | .echoSetCoef dt mbx => Sys2Proof.Machine.execEchoSetCoef dt mbx s
  | .echoSwapBank dt mbx => Sys2Proof.Machine.execEchoSwapBank dt mbx s
  | .echoFreezeBg dt mbx => Sys2Proof.Machine.execEchoFreezeBg dt mbx s
  | .echoGetStatus dt mbx => Sys2Proof.Machine.execEchoGetStatus dt mbx s
  | .calSetUser dt mbx => Sys2Proof.Machine.execCalSetUser dt mbx s
  | .calLin dt mbx => Sys2Proof.Machine.execCalLin dt mbx s
  | .calZero dt mbx => Sys2Proof.Machine.execCalZero dt mbx s
  | .calTeam dt mbx => Sys2Proof.Machine.execCalTeam dt mbx s
  | .calSaveUser dt mbx => Sys2Proof.Machine.execCalSaveUser dt mbx s
  | .calRestore dt mbx => Sys2Proof.Machine.execCalRestore dt mbx s
  | .calGetStatus dt mbx => Sys2Proof.Machine.execCalGetStatus dt mbx s
  | .teamSetCfg dt mbx => Sys2Proof.Machine.execTeamSetCfg dt mbx s
  | .teamHuddle dt mbx => Sys2Proof.Machine.execTeamHuddle dt mbx s
  | .teamGetStatus dt mbx => Sys2Proof.Machine.execTeamGetStatus dt mbx s
  | .outSetQueue dt mbx => Sys2Proof.Machine.execOutSetQueue dt mbx s
  | .outSetRoute dt mbx => Sys2Proof.Machine.execOutSetRoute dt mbx s
  | .outSetPort dt mbx => Sys2Proof.Machine.execOutSetPort dt mbx s
  | .outSetGate dt mbx => Sys2Proof.Machine.execOutSetGate dt mbx s
  | .outSetFilter dt mbx => Sys2Proof.Machine.execOutSetFilter dt mbx s
  | .outSetStream dt mbx => Sys2Proof.Machine.execOutSetStream dt mbx s
  | .outSetTime dt mbx => Sys2Proof.Machine.execOutSetTime dt mbx s
  | .outResetQueue dt mbx => Sys2Proof.Machine.execOutResetQueue dt mbx s
  | .outGetStatus dt mbx => Sys2Proof.Machine.execOutGetStatus dt mbx s
  | .safeSetCfg dt mbx => Sys2Proof.Machine.execSafeSetCfg dt mbx s
  | .safeClear dt mbx => Sys2Proof.Machine.execSafeClear dt mbx s
  | .safeEnter dt mbx => Sys2Proof.Machine.execSafeEnter dt mbx s
  | .safeConfirmCfg dt mbx => Sys2Proof.Machine.execSafeConfirmCfg dt mbx s
  | .safeGetStatus dt mbx => Sys2Proof.Machine.execSafeGetStatus dt mbx s
  | .pwrSetCfg dt mbx => Sys2Proof.Machine.execPwrSetCfg dt mbx s
  | .pwrSaveImage dt mbx => Sys2Proof.Machine.execPwrSaveImage dt mbx s
  | .pwrSelectImage dt mbx => Sys2Proof.Machine.execPwrSelectImage dt mbx s
  | .pwrEraseImage dt mbx => Sys2Proof.Machine.execPwrEraseImage dt mbx s
  | .pwrReadLog dt mbx => Sys2Proof.Machine.execPwrReadLog dt mbx s
  | .pwrGetStatus dt mbx => Sys2Proof.Machine.execPwrGetStatus dt mbx s
  | .txnOpen dt mbx => Sys2Proof.Machine.execTxnOpen dt mbx s
  | .txnCommit dt mbx => Sys2Proof.Machine.execTxnCommit dt mbx s
  | .txnAbort dt mbx => Sys2Proof.Machine.execTxnAbort dt mbx s
  | .txnGetStatus dt mbx => Sys2Proof.Machine.execTxnGetStatus dt mbx s
  | .powerUp dt => Sys2Proof.Machine.execPowerUp dt s
  | .tripNDeassert dt pin => Sys2Proof.Machine.execTripNDeassert dt pin s
  | .rxOutputDeassert dt ch => Sys2Proof.Machine.execRxOutputDeassert dt ch s
  | .mcFilterSample dt m => Sys2Proof.Machine.execMcFilterSample dt m s
  | .sdRefclkReturn dt => Sys2Proof.Machine.execSdRefclkReturn dt s
  | .calZeroShot dt dither => Sys2Proof.Machine.execCalZeroShot dt dither s
  | .frameTransmitted dt port => Sys2Proof.Machine.execFrameTransmitted dt port s
  | .sysGetCtrlPort dt mbx => Sys2Proof.Machine.execSysGetCtrlPort dt mbx s
  | .sysGetInfo dt mbx => Sys2Proof.Machine.execSysGetInfo dt mbx s
  | .tbGetTpll dt mbx => Sys2Proof.Machine.execTbGetTpll dt mbx s
  | .tbGetMode dt mbx => Sys2Proof.Machine.execTbGetMode dt mbx s
  | .tbGetEpoch dt mbx => Sys2Proof.Machine.execTbGetEpoch dt mbx s
  | .emGetChannel dt mbx => Sys2Proof.Machine.execEmGetChannel dt mbx s
  | .emGetLimits dt mbx => Sys2Proof.Machine.execEmGetLimits dt mbx s
  | .emGetVolley dt mbx => Sys2Proof.Machine.execEmGetVolley dt mbx s
  | .emGetStretch dt mbx => Sys2Proof.Machine.execEmGetStretch dt mbx s
  | .pbGetDesc dt mbx => Sys2Proof.Machine.execPbGetDesc dt mbx s
  | .pbGetSegment dt mbx => Sys2Proof.Machine.execPbGetSegment dt mbx s
  | .pbGetJump dt mbx => Sys2Proof.Machine.execPbGetJump dt mbx s
  | .pbGetConfig dt mbx => Sys2Proof.Machine.execPbGetConfig dt mbx s
  | .pbGetStl dt mbx => Sys2Proof.Machine.execPbGetStl dt mbx s
  | .pbGetStream dt mbx => Sys2Proof.Machine.execPbGetStream dt mbx s
  | .cmpGetRx dt mbx => Sys2Proof.Machine.execCmpGetRx dt mbx s
  | .cmpGetRxTile dt mbx => Sys2Proof.Machine.execCmpGetRxTile dt mbx s
  | .cmpGetMc dt mbx => Sys2Proof.Machine.execCmpGetMc dt mbx s
  | .cmpGetMp dt mbx => Sys2Proof.Machine.execCmpGetMp dt mbx s
  | .cmpGetMargin dt mbx => Sys2Proof.Machine.execCmpGetMargin dt mbx s
  | .winGetProfile dt mbx => Sys2Proof.Machine.execWinGetProfile dt mbx s
  | .winGetTile dt mbx => Sys2Proof.Machine.execWinGetTile dt mbx s
  | .winGetRec dt mbx => Sys2Proof.Machine.execWinGetRec dt mbx s
  | .histGetTile dt mbx => Sys2Proof.Machine.execHistGetTile dt mbx s
  | .histGetPers dt mbx => Sys2Proof.Machine.execHistGetPers dt mbx s
  | .echoGetCfg dt mbx => Sys2Proof.Machine.execEchoGetCfg dt mbx s
  | .echoGetCoef dt mbx => Sys2Proof.Machine.execEchoGetCoef dt mbx s
  | .calGetUser dt mbx => Sys2Proof.Machine.execCalGetUser dt mbx s
  | .calGetResult dt mbx => Sys2Proof.Machine.execCalGetResult dt mbx s
  | .calGetSkew dt mbx => Sys2Proof.Machine.execCalGetSkew dt mbx s
  | .teamGetCfg dt mbx => Sys2Proof.Machine.execTeamGetCfg dt mbx s
  | .outGetQueue dt mbx => Sys2Proof.Machine.execOutGetQueue dt mbx s
  | .outGetRoute dt mbx => Sys2Proof.Machine.execOutGetRoute dt mbx s
  | .outGetPort dt mbx => Sys2Proof.Machine.execOutGetPort dt mbx s
  | .outGetGate dt mbx => Sys2Proof.Machine.execOutGetGate dt mbx s
  | .outGetFilter dt mbx => Sys2Proof.Machine.execOutGetFilter dt mbx s
  | .outGetStream dt mbx => Sys2Proof.Machine.execOutGetStream dt mbx s
  | .outGetTime dt mbx => Sys2Proof.Machine.execOutGetTime dt mbx s
  | .safeGetCfg dt mbx => Sys2Proof.Machine.execSafeGetCfg dt mbx s
  | .pwrGetCfg dt mbx => Sys2Proof.Machine.execPwrGetCfg dt mbx s

end Sys2Proof.Machine
end

