-- ==== Sys2Proof/Safety.lean ====
section
/-! DEFINITION. The words that the statements use: when the block acts, which host command stands where, and what a safe
state of the block is. -/

namespace Sys2Proof

/-! ### Which host command stands where (ch. 12) -/

/-- The opcode and mailbox of a configuration command (R303). -/
def Instr.setOp : Instr → Option (Nat × Nat × Nat)
  | .sysSetCtrlPort dt m => some (dt, m, 0x0001)
  | .tbSetTpll dt m => some (dt, m, 0x0101) | .tbSetMode dt m => some (dt, m, 0x0102) | .tbSetEpoch dt m => some (dt, m, 0x0103)
  | .emSetChannel dt m => some (dt, m, 0x0201) | .emSetLimits dt m => some (dt, m, 0x0202)
  | .emSetVolley dt m => some (dt, m, 0x0203) | .emSetStretch dt m => some (dt, m, 0x0204)
  | .pbLoadDesc dt m => some (dt, m, 0x0301) | .pbSetSegment dt m => some (dt, m, 0x0302)
  | .pbSetJump dt m => some (dt, m, 0x0303) | .pbSetConfig dt m => some (dt, m, 0x0304)
  | .pbSetStl dt m => some (dt, m, 0x0305) | .pbStreamOpen dt m => some (dt, m, 0x0306)
  | .cmpSetRx dt m => some (dt, m, 0x0401) | .cmpSetRxTile dt m => some (dt, m, 0x0402)
  | .cmpSetMc dt m => some (dt, m, 0x0403) | .cmpSetMp dt m => some (dt, m, 0x0404)
  | .cmpSetMargin dt m => some (dt, m, 0x0405)
  | .winSetProfile dt m => some (dt, m, 0x0501) | .winSetTile dt m => some (dt, m, 0x0502)
  | .winSetRec dt m => some (dt, m, 0x0503)
  | .histSetTile dt m => some (dt, m, 0x0601) | .histSetPers dt m => some (dt, m, 0x0602)
  | .echoSetCfg dt m => some (dt, m, 0x0701) | .echoSetCoef dt m => some (dt, m, 0x0702)
  | .calSetUser dt m => some (dt, m, 0x0801)
  | .teamSetCfg dt m => some (dt, m, 0x0901)
  | .outSetQueue dt m => some (dt, m, 0x0A01) | .outSetRoute dt m => some (dt, m, 0x0A02)
  | .outSetPort dt m => some (dt, m, 0x0A03) | .outSetGate dt m => some (dt, m, 0x0A04)
  | .outSetFilter dt m => some (dt, m, 0x0A05) | .outSetStream dt m => some (dt, m, 0x0A06)
  | .outSetTime dt m => some (dt, m, 0x0A07)
  | .safeSetCfg dt m => some (dt, m, 0x0B01)
  | .pwrSetCfg dt m => some (dt, m, 0x0C01)
  | _ => none

/-- The opcode and mailbox of a readback (R324). -/
def Instr.getOp : Instr → Option (Nat × Nat × Nat)
  | .sysGetCtrlPort dt m => some (dt, m, 0x0081)
  | .tbGetTpll dt m => some (dt, m, 0x0181) | .tbGetMode dt m => some (dt, m, 0x0182) | .tbGetEpoch dt m => some (dt, m, 0x0183)
  | .emGetChannel dt m => some (dt, m, 0x0281) | .emGetLimits dt m => some (dt, m, 0x0282)
  | .emGetVolley dt m => some (dt, m, 0x0283) | .emGetStretch dt m => some (dt, m, 0x0284)
  | .pbGetDesc dt m => some (dt, m, 0x0381) | .pbGetSegment dt m => some (dt, m, 0x0382)
  | .pbGetJump dt m => some (dt, m, 0x0383) | .pbGetConfig dt m => some (dt, m, 0x0384)
  | .pbGetStl dt m => some (dt, m, 0x0385) | .pbGetStream dt m => some (dt, m, 0x0386)
  | .cmpGetRx dt m => some (dt, m, 0x0481) | .cmpGetRxTile dt m => some (dt, m, 0x0482)
  | .cmpGetMc dt m => some (dt, m, 0x0483) | .cmpGetMp dt m => some (dt, m, 0x0484)
  | .cmpGetMargin dt m => some (dt, m, 0x0485)
  | .winGetProfile dt m => some (dt, m, 0x0581) | .winGetTile dt m => some (dt, m, 0x0582)
  | .winGetRec dt m => some (dt, m, 0x0583)
  | .histGetTile dt m => some (dt, m, 0x0681) | .histGetPers dt m => some (dt, m, 0x0682)
  | .echoGetCfg dt m => some (dt, m, 0x0781) | .echoGetCoef dt m => some (dt, m, 0x0782)
  | .calGetUser dt m => some (dt, m, 0x0881)
  | .teamGetCfg dt m => some (dt, m, 0x0981)
  | .outGetQueue dt m => some (dt, m, 0x0A81) | .outGetRoute dt m => some (dt, m, 0x0A82)
  | .outGetPort dt m => some (dt, m, 0x0A83) | .outGetGate dt m => some (dt, m, 0x0A84)
  | .outGetFilter dt m => some (dt, m, 0x0A85) | .outGetStream dt m => some (dt, m, 0x0A86)
  | .outGetTime dt m => some (dt, m, 0x0A87)
  | .safeGetCfg dt m => some (dt, m, 0x0B81)
  | .pwrGetCfg dt m => some (dt, m, 0x0C81)
  | _ => none

/-- The opcode and mailbox of a status command (R327). -/
def Instr.statOp : Instr → Option (Nat × Nat × Nat)
  | .sysGetInfo dt m => some (dt, m, 0x0060) | .sysGetStatus dt m => some (dt, m, 0x0061)
  | .tbGetStatus dt m => some (dt, m, 0x0160) | .emGetStatus dt m => some (dt, m, 0x0260)
  | .pbGetStatus dt m => some (dt, m, 0x0360) | .cmpGetStatus dt m => some (dt, m, 0x0460)
  | .winGetStatus dt m => some (dt, m, 0x0560) | .histGetStatus dt m => some (dt, m, 0x0660)
  | .echoGetStatus dt m => some (dt, m, 0x0760) | .calGetStatus dt m => some (dt, m, 0x0860)
  | .calGetResult dt m => some (dt, m, 0x0861) | .calGetSkew dt m => some (dt, m, 0x0862)
  | .teamGetStatus dt m => some (dt, m, 0x0960) | .outGetStatus dt m => some (dt, m, 0x0A60)
  | .safeGetStatus dt m => some (dt, m, 0x0B60) | .pwrGetStatus dt m => some (dt, m, 0x0C60)
  | .txnGetStatus dt m => some (dt, m, 0x0D60)
  | _ => none

/-- The opcode and mailbox of an action (Tables 3 to 15 of ch. 12). -/
def Instr.actOp : Instr → Option (Nat × Nat × Nat)
  | .sysReset dt m => some (dt, m, 0x0040) | .sysSelectBoot dt m => some (dt, m, 0x0041)
  | .sysReadJournal dt m => some (dt, m, 0x0042) | .sysReadConfig dt m => some (dt, m, 0x0043)
  | .tbBandSearch dt m => some (dt, m, 0x0140) | .tbBandStore dt m => some (dt, m, 0x0141)
  | .tbBandHop dt m => some (dt, m, 0x0142) | .tbRealign dt m => some (dt, m, 0x0143)
  | .emClearTrip dt m => some (dt, m, 0x0240)
  | .pbArmJump dt m => some (dt, m, 0x0340) | .pbJump dt m => some (dt, m, 0x0341) | .pbStart dt m => some (dt, m, 0x0342)
  | .pbStop dt m => some (dt, m, 0x0343) | .pbStreamClose dt m => some (dt, m, 0x0344)
  | .pbClearUnderrun dt m => some (dt, m, 0x0345)
  | .winArmRec dt m => some (dt, m, 0x0540) | .winDisarmRec dt m => some (dt, m, 0x0541)
  | .winTrigRec dt m => some (dt, m, 0x0542) | .winReadRec dt m => some (dt, m, 0x0543)
  | .echoSwapBank dt m => some (dt, m, 0x0740) | .echoFreezeBg dt m => some (dt, m, 0x0741)
  | .calLin dt m => some (dt, m, 0x0840) | .calZero dt m => some (dt, m, 0x0841) | .calTeam dt m => some (dt, m, 0x0842)
  | .calSaveUser dt m => some (dt, m, 0x0843) | .calRestore dt m => some (dt, m, 0x0844)
  | .teamHuddle dt m => some (dt, m, 0x0940) | .outResetQueue dt m => some (dt, m, 0x0A40)
  | .safeClear dt m => some (dt, m, 0x0B40) | .safeEnter dt m => some (dt, m, 0x0B41)
  | .safeConfirmCfg dt m => some (dt, m, 0x0B42)
  | .pwrSaveImage dt m => some (dt, m, 0x0C40) | .pwrSelectImage dt m => some (dt, m, 0x0C41)
  | .pwrEraseImage dt m => some (dt, m, 0x0C42) | .pwrReadLog dt m => some (dt, m, 0x0C43)
  | .txnOpen dt m => some (dt, m, 0x0D40) | .txnCommit dt m => some (dt, m, 0x0D41) | .txnAbort dt m => some (dt, m, 0x0D42)
  | _ => none

/-- Time before it, mailbox and opcode of a host command. -/
def Instr.hostOp (i : Instr) : Option (Nat × Nat × Nat) :=
  i.setOp.orElse (fun _ => i.getOp.orElse (fun _ => i.statOp.orElse (fun _ => i.actOp)))

end Sys2Proof

namespace Sys2Proof.Machine

/-- The block is out of reset and not shut down: commands act (R408, R419). -/
def State.on (s : State) : Bool := !s.pwr.inReset && !s.pwr.shut

/-- `b` is the block at the moment a command given `dt` after the last acts on it: time has passed, and what fell due by
then has happened. -/
def At (dt : Nat) (s b : State) : Prop := s.on = true ∧ begin_ dt s = b

/-- `At`, whether or not the block is on. -/
def AtAny (dt : Nat) (s b : State) : Prop := begin_ dt s = b

/-! ### Host commands -/

/-- What the firmware sees of a mailbox's command once it has taken it (R294, R296). -/
def taken (m : Nat) (b : State) : State := txnTouch (cmdOf b m).txn (mbxIface m) (takeSeq m b).2

/-- The command of mailbox m is next, has the opcode, and passes the checks of its row. -/
def passes (m op : Nat) (row : State → Cmd → Row) (b : State) : Bool :=
  nextMbx b == some m && (cmdOf b m).opcode == op && headStatus (taken m b) (cmdOf b m) (row (taken m b) (cmdOf b m)) == stOk

/-- The answer OK with its words (R291, R292). -/
def answered (m : Nat) (b : State) (ws : List Word) (x : State) : State := respond m stOk false false b.ctl.seq ws x

/-- The answer OK with its words, after the journal entry of an action (R303, R312). -/
def acked (m : Nat) (b : State) (ws : List Word) (x : State) : State :=
  answered m b ws (journalCmd 0 (if isIdle (taken m b) then 4 else 0) ((cmdOf b m).toRec b.ctl.seq) x)

/-- A background command has started (R298): it stands as its group's, its answer to come. -/
def started (m : Nat) (b : State) : State :=
  let t := taken m b
  { t with ctl := { t.ctl with
      bg := t.ctl.bg ++ [{ group := groupOf (cmdOf b m).opcode, cmd := (cmdOf b m).toRec b.ctl.seq }] } }

/-! ### The safe state -/

/-- What every state of the block keeps: SAFE_N is low exactly in the safe state, reset holds the safe state, the block is
out of reset only while VDDIO_33 is good, and a stopped controller serves no mailbox. -/
def SafeInv (s : State) : Prop :=
  s.safe.safe = s.safe.safeNLow ∧ (s.pwr.inReset = true → s.safe.safe = true) ∧ (s.pwr.io33 = false → s.pwr.inReset = true)
    ∧ (s.ctl.fwFault = true → s.ctl.mbxReady = false)

end Sys2Proof.Machine
end

