-- ==== Sys2Proof/Certificates/Slice0/Obligations.lean ====
section
/-! DEFINITION. The statements for the provers. `b` is always the block at the moment the command acts (`At`), and
`settle s x` the end of a step that began at s and whose command left x: its causes dealt with, its notices sent. A
statement that says `exec c s = .next (settle s x)` says the whole next state: what x does not change, c does not. An event
whose condition does not hold changes nothing (the model's choice: log entry 2). -/

open Sys2Proof Sys2Proof.Machine

/-! ### The step -/

/-- O1. A step runs the command at the front of the queue on the block with the queue's rest (in place of fetch and
decode). On an empty queue the block idles (the model's choice: log entry 1). -/
def Obligations.StepRunsFront : Prop :=
  (∀ (c : Instr) (rest : List Instr) (s : State),
     s.pending = c :: rest → step s = exec c { s with pending := rest }) ∧
  (∀ s : State, s.pending = [] → step s = .next s)

/-- O2. Whatever the command, a step that answers a next state has taken one command from the queue and left the
factory partition as it was. -/
def Obligations.StepKeepsQueueAndFactory : Prop :=
  ∀ (c : Instr) (rest : List Instr) (s t : State), s.pending = c :: rest → step s = .next t →
    t.pending = rest ∧ t.fact = s.fact

/-- O3. Every step keeps the safe-state invariant: SAFE_N is low exactly in the safe state, reset holds the safe
state, the block leaves reset only with VDDIO_33 good, and a stopped controller serves no mailbox. -/
def Obligations.StepKeepsSafeInv : Prop :=
  ∀ s t : State, SafeInv s → step s = .next t → SafeInv t

/-- O4. The reset state meets the safe-state invariant. -/
def Obligations.ResetMeetsSafeInv : Prop :=
  SafeInv State.reset

/-- O5. Every command answers a next state, whatever its operands and the state: nothing faults and nothing is refused. The
model's choice for operands that no bus and no wire carries (log entry 149) and for events whose condition does not hold
(log entry 2): the spec says of neither that it stops nothing. -/
def Obligations.EveryCommandCompletes : Prop :=
  ∀ (i : Instr) (s : State), ∃ t, exec i s = .next t

/-- O6. What an operand does that no bus and no wire carries (the model's choice: log entry 149). A register access off the
page, out of line or of 64 bits where there are none, and a frame of no legal length or with a field wider than its bits,
have no effect; a slot access that is none acts as the register access at its address; stream entries of which one is no
four words stand in a datagram without entries, which is malformed; and bytes of a control datagram that fill words behind
its words count as words. -/
def Obligations.IllFormedCommandsDoNothing : Prop :=
  (∀ (dt : Nat) (iface : Fin 2) (off : Nat) (v : BitVec 32) (high : Option (BitVec 32)) (s b : State), AtAny dt s b →
     ((wfOffset off = false ∨ wfWide iface off high = false) →
       exec (.registerWrite dt iface off ⟨v, high⟩) s = .next (settle s b)) ∧
     ((wfSlot off = false ∨ wfWide iface off high = false) →
       exec (.mbxSlotWrite dt iface off ⟨v, high⟩) s = exec (.registerWrite dt iface off ⟨v, high⟩) s)) ∧
  (∀ (dt : Nat) (p : Fin 2) (f : EthFrame) (s b : State), AtAny dt s b → wfFrame f = false →
     exec (.ethFrameRx dt p f) s = .next (settle s b) ∧
     (∀ ip udp d, exec (.udpCtrlDatagram dt ⟨p, f⟩ ip udp d) s = .next (settle s b)) ∧
     ∀ head es, exec (.streamDatagram dt ⟨p, f⟩ head es) s = .next (settle s b)) ∧
  (∀ (dt : Nat) (rx : FrameIn) (head : StreamHead) (es : List Obj) (s : State), wfEntries es = false →
     exec (.streamDatagram dt rx head es) s = exec (.streamDatagram dt rx head []) s) ∧
  (∀ (dt : Nat) (rx : FrameIn) (ip : BitVec 32) (udp : BitVec 16) (d : UdpData) (s : State),
     exec (.udpCtrlDatagram dt rx ip udp d) s = exec (.udpCtrlDatagram dt rx ip udp (udpNorm d)) s ∧ wfUdp (udpNorm d) = true)

/-- O7. Held in reset or shut down, the block takes no host command: time passes and nothing else happens (R408,
R419). -/
def Obligations.NoHostCommandWhileOff : Prop :=
  ∀ (i : Instr) (dt m op : Nat) (s : State), i.hostOp = some (dt, m, op) → s.on = false →
    exec i s = .next (settle s (elapse dt s))

/-- O8. The end of a step in which nothing was decided and no coast began leaves every part of the block but the
control unit, the output queues, the switch, the Umpire and the MRAM page writes, and keeps the safe state, SAFE_N and
the mailboxes' service as they were; the page writes too, where no mirror write waits and at most 1,024 entries do (R318).
-/
def Obligations.SettleQuietFrame : Prop :=
  ∀ s x : State, x.safe.todo = [] → (x.tb.coast = true → s.tb.coast = true) →
    let t := settle s x
    t.pending = x.pending ∧ t.now = x.now ∧ t.up = x.up ∧ t.cfg = x.cfg ∧ t.tb = x.tb ∧ t.team = x.team ∧ t.tap = x.tap ∧
    { t.pwr with nvmQ := x.pwr.nvmQ, nvmNow := x.pwr.nvmNow, nvmRetry := x.pwr.nvmRetry } = x.pwr ∧
    (x.ctl.mirrorWait = false → unmirrored x ≤ 1024 → t.pwr = x.pwr) ∧
    t.em = x.em ∧ t.pb = x.pb ∧ t.rx = x.rx ∧ t.mon = x.mon ∧ t.smpUp = x.smpUp ∧ t.cmpDeferred = x.cmpDeferred ∧
    t.bndQ = x.bndQ ∧ t.rxTile = x.rxTile ∧ t.tripN = x.tripN ∧ t.chan = x.chan ∧ t.tile = x.tile ∧ t.eng = x.eng ∧
    t.track = x.track ∧ t.pers = x.pers ∧ t.cal = x.cal ∧ t.fact = x.fact ∧
    t.safe.safe = x.safe.safe ∧ t.safe.safeNLow = x.safe.safeNLow ∧ t.safe.todo = [] ∧
    t.ctl.fwFault = x.ctl.fwFault ∧ t.ctl.mbxReady = x.ctl.mbxReady

/-- O9. Outside the safe state, a step that decided one cause whose reaction is Safe and fixed, the monitors brought up
to its end having decided none, ends in the safe state: SAFE, SAFE_N low, FIRST_CAUSE the cause's code, the entry
counted, its decision time that of the cause; and no channel has an edge to come, now or after a clear, nor a volley
still to be offered (R77, R379, R380, R383, for such a step alone). -/
def Obligations.FixedCauseEntersSafe : Prop :=
  ∀ (s x : State) (d : Decision), (monCatch x).safe.todo = [d] → fixedSafe.contains d.bit = true → x.safe.safe = false →
    (x.tb.coast = true → s.tb.coast = true) →
    let t := settle s x
    t.safe.safe = true ∧ t.safe.safeNLow = true ∧ t.safe.firstCause = causeCode d.bit ∧
    t.safe.entries = satAdd 8 x.safe.entries 1 ∧ t.safe.entryDt = d.at_ ∧ t.pb.offers = [] ∧
    ∀ ch, nextEdges t ch = []

/-- O10. In the safe state a further cause leaves the count of entries and SAFE_N as they stand, and FIRST_CAUSE too,
but that a Safe cause decided in the 1 ns cycle of the entry takes its place with a lower code (R379; for one decision
the whole rule is said, where the monitors brought up to the end of the step decide none, for any number that
FIRST_CAUSE never rises). Model's choice: log entry 155. -/
def Obligations.SafeStateIsKept : Prop :=
  ∀ s x : State, x.safe.safe = true →
    let t := settle s x
    t.safe.safe = true ∧ t.safe.safeNLow = x.safe.safeNLow ∧ t.safe.firstCause ≤ x.safe.firstCause ∧
    t.safe.entries = x.safe.entries ∧
    (∀ d, (monCatch x).safe.todo = [d] → (x.tb.coast = true → s.tb.coast = true) →
      t.safe.firstCause = if isSafeCause x d = true ∧ cycleAt x d.up = cycleAt x x.safe.entryUp ∧
        causeCode d.bit < x.safe.firstCause then causeCode d.bit else x.safe.firstCause)

/-- O11. Before a command acts, on a block with no monitor, tile or engine off its reset value, no frame boundary to be
passed and no cause waiting, only time passes: running time always, device time once the epoch is set and the block
runs, the time that the monitors have been sampled to while it runs, the throttle clock while the divider is not 1; and
what left the block in the step before is gone. Model's choices: log entries 4 and 5. -/
def Obligations.TimePassesBeforeACommand : Prop :=
  ∀ (dt : Nat) (s : State), s.mon = [] → s.tile = [] → s.eng = [] → s.pb.bnds = [] → s.safe.todo = [] →
    begin_ dt s = { s with
      up := s.up + dt
      now := if s.tb.epochSet ∧ s.on then s.now + dt else s.now
      smpUp := if s.on then s.up + dt else s.smpUp
      pwr := if s.pwr.div = 0 then s.pwr else { s.pwr with throttleFine := s.pwr.throttleFine + dt }
      outq := { s.outq with outs := [] } }

/-! ### Host commands (ch. 11, ch. 12) -/

/-- O12. A host command that is not the next in its mailbox, or whose slot holds another opcode, is not taken: time
passes and nothing else happens (R294). All 129 host commands. -/
def Obligations.HostCommandNotNext : Prop :=
  ∀ (i : Instr) (dt m op : Nat) (s b : State), i.hostOp = some (dt, m, op) → At dt s b →
    (nextMbx b ≠ some m ∨ (cmdOf b m).opcode ≠ op) → exec i s = .next (settle s b)

/-- O13. A command is taken only from a posted mailbox of the queue that is not held back, while the controller serves
the mailboxes (R290, R386) or, once it has stopped, to answer SAFE.GET_STATUS. Within one interface commands are taken in
the order of their doorbells; the first SPI command goes before every command of another interface, but for one rung before
MBX_READY, which keeps its place in the order of the doorbells; with no other SPI command the first of all is taken (R294 and
the text under Table 9 of ch. 11). While the mailboxes are served, some command is taken where one is not held back. Model's
choices: log entries 14 and 145. -/
def Obligations.QueueIsServedInOrder : Prop :=
  (∀ (s : State) (m : Nat), nextMbx s = some m →
     let free := s.ctl.queue.filter (fun k => if s.ctl.fwFault then (cmdOf s k).opcode == 0x0B60 else !heldBack s k)
     let spi := free.find? (fun k => mbxIface k == 1)
     m ∈ free ∧ s.on = true ∧ (s.ctl.fwFault = true ∨ s.ctl.mbxReady = true) ∧
     (∃ l r, free = l ++ m :: r ∧ ∀ k ∈ l, mbxIface k ≠ mbxIface m) ∧
     (∀ k, spi = some k → k ∉ s.ctl.early → m = k) ∧
     (∀ k, spi = some k → k ∈ s.ctl.early → free.head? = some m) ∧
     (spi = none → free.head? = some m)) ∧
  (∀ (s : State) (k : Nat), s.on = true → s.ctl.fwFault = false → s.ctl.mbxReady = true → k ∈ s.ctl.queue →
     heldBack s k = false → (nextMbx s).isSome = true)

/-- O14. Taking a command, whatever becomes of it, removes it from the queue and moves the sequence number on by one
modulo 2³² (the width of SEQ); the commands behind it keep their order. A refused command is numbered as any other, and
the count begins with 1 after reset (R296). -/
def Obligations.TakingNumbersCommands : Prop :=
  ∀ (s : State) (m : Nat),
    (takeSeq m s).1 = s.ctl.seq ∧ (takeSeq m s).2.ctl.seq = (s.ctl.seq + 1) % 2 ^ 32 ∧
    m ∉ (takeSeq m s).2.ctl.queue ∧
    ((takeSeq m s).2.ctl.queue).Sublist s.ctl.queue ∧
    (∀ k ∈ s.ctl.queue, k ≠ m → k ∈ (takeSeq m s).2.ctl.queue) ∧
    (∀ status, (refuse m status s).ctl.seq = (s.ctl.seq + 1) % 2 ^ 32) ∧
    (resetDevice s).ctl.seq = 1 ∧ State.reset.ctl.seq = 1

/-- O15. LENGTH not a multiple of 8, below 8 or above 240 is BAD_LENGTH before every other check, and the refused
command leaves nothing but its response (R295, R322). All host commands but TXN.COMMIT and TXN.ABORT, which also
restart the timeout of the transaction they name. -/
def Obligations.BadLengthIsRefusedFirst : Prop :=
  ∀ (i : Instr) (dt m op : Nat) (s b : State), i.hostOp = some (dt, m, op) → op ≠ 0x0D41 → op ≠ 0x0D42 → At dt s b →
    nextMbx b = some m → (cmdOf b m).opcode = op → lenForm (cmdOf b m) = false →
    exec i s = .next (settle s (respond m stBadLength false false b.ctl.seq [] (taken m b)))

/-- O16. A configuration command that passes its checks while the Playbook is idle: the epoch rises by one, its set
takes effect at once under the new epoch, and it is answered OK (R303, R305). All 37 configuration commands. -/
def Obligations.SettingTakesEffectWhileIdle : Prop :=
  ∀ (i : Instr) (dt m op : Nat) (k : CfgKind) (s b : State), i.setOp = some (dt, m, op) → At dt s b →
    nextMbx b = some m → (cmdOf b m).opcode = op →
    let c := cmdOf b m
    let t := taken m b
    let e := (t.ctl.epoch + 1) % 2 ^ 32
    writerKind op c.opt = some k → headStatus t c (writeRow k c) = stOk → c.txn = 0 → isIdle t = true →
    tapsBusy t (cfgAt t 1) (writeOps k c) = false → (queueMissing t k c || persMissing t k c) = false →
    setStatus t 4 (writeOps k c) = stOk →
    exec i s = .next (settle s (respond m stOk false false b.ctl.seq []
      (applySet 4 { seq := b.ctl.seq, epoch := e, boundary := 4, members := [{ cmd := c.toRec b.ctl.seq, ops := writeOps k c }] }
        { t with ctl := { t.ctl with epoch := e } })))

/-- O17. While the Playbook runs, a set that may change then is accepted with a rising epoch and waits for its
boundary, the object words as they were, or takes effect at once where its rule sets the moment by the command: energy
limits (R85), an output state (R93), a descriptor (R102), a segment entry (R108), a monitor or the monitor margins (R156);
a set that holds a class I field is refused NOT_IDLE, and one beyond 16 waiting is refused NO_RESOURCE, with a response
only (R303, R304, R325). ECHO.SET_COEF waits for nothing: it takes effect at once, or is refused by its rules (R228, R239,
R341). All configuration commands. Model's choices: log entry 133. -/
def Obligations.SettingWaitsWhileRunning : Prop :=
  ∀ (i : Instr) (dt m op : Nat) (k : CfgKind) (s b : State), i.setOp = some (dt, m, op) → At dt s b →
    nextMbx b = some m → (cmdOf b m).opcode = op →
    let c := cmdOf b m
    let t := taken m b
    let ops := writeOps k c
    writerKind op c.opt = some k → headStatus t c (writeRow k c) = stOk → c.txn = 0 → isIdle t = false →
    tapsBusy t (cfgAt t 1) ops = false → (queueMissing t k c || persMissing t k c) = false →
    (k = .coef →
      (setStatus t 0 ops = stOk → exec i s = .next (settle s (respond m stOk false false b.ctl.seq []
        (applySet 0 { seq := b.ctl.seq, epoch := (t.ctl.epoch + 1) % 2 ^ 32, boundary := 0
                      members := [{ cmd := c.toRec b.ctl.seq, ops := ops }] }
          { t with ctl := { t.ctl with epoch := (t.ctl.epoch + 1) % 2 ^ 32 } })))) ∧
      ∀ st, setStatus t 0 ops = st → st ≠ stOk →
        exec i s = .next (settle s (respond m st false false b.ctl.seq [] t))) ∧
    (k ≠ .coef →
    (setBoundary t 1 ops = none →
      exec i s = .next (settle s (respond m stNotIdle false false b.ctl.seq [] t))) ∧
    (∀ bd, setBoundary t 1 ops = some bd → soonSet t bd ops = true → setStatus t bd ops = stOk →
      exec i s = .next (settle s (respond m stOk false false b.ctl.seq []
        (applySet bd { seq := b.ctl.seq, epoch := (t.ctl.epoch + 1) % 2 ^ 32, boundary := bd
                       members := [{ cmd := c.toRec b.ctl.seq, ops := ops }] }
          { t with ctl := { t.ctl with epoch := (t.ctl.epoch + 1) % 2 ^ 32 } })))) ∧
    (∀ bd, setBoundary t 1 ops = some bd → soonSet t bd ops = false → 16 ≤ t.ctl.waiting.length →
      exec i s = .next (settle s (respond m stNoRes false false b.ctl.seq [] t))) ∧
    (∀ bd, setBoundary t 1 ops = some bd → soonSet t bd ops = false → t.ctl.waiting.length < 16 → setStatus t bd ops = stOk →
      exec i s = .next (settle s (respond m stOk false false b.ctl.seq []
        { t with ctl := { t.ctl with
            epoch := (t.ctl.epoch + 1) % 2 ^ 32
            waiting := t.ctl.waiting ++ [{ seq := b.ctl.seq, epoch := (t.ctl.epoch + 1) % 2 ^ 32, boundary := bd
                                           members := [{ cmd := c.toRec b.ctl.seq, ops := ops }] }] } }))))

/-- O18. A configuration command that names an open transaction of its interface is staged in it, answered with STAGED
set, and changes nothing else; the shadow of 512 KiB full, it is refused NO_RESOURCE (R307). Model's choices: log
entry 45. -/
def Obligations.SettingIsStagedInATransaction : Prop :=
  ∀ (i : Instr) (dt m op : Nat) (k : CfgKind) (x : Txn) (s b : State), i.setOp = some (dt, m, op) → At dt s b →
    nextMbx b = some m → (cmdOf b m).opcode = op →
    let c := cmdOf b m
    let t := taken m b
    writerKind op c.opt = some k → headStatus t c (writeRow k c) = stOk → c.txn ≠ 0 → queueMissing t k c = false →
    txnFind t c.txn (mbxIface m) = some x →
    (shadowUsed t + 16 + c.len ≤ 524288 →
      exec i s = .next (settle s (respond m stOk false true b.ctl.seq []
        (txnPut c.txn { x with staged := x.staged ++ [{ cmd := c.toRec b.ctl.seq, ops := writeOps k c }] } t)))) ∧
    (524288 < shadowUsed t + 16 + c.len →
      exec i s = .next (settle s (respond m stNoRes false false b.ctl.seq [] t)))

/-- O19. A readback answers the words of the objects it names as they are in force, CAL.GET_USER the active words and then
the pending ones of each object, and writes no configuration (R324). All 37 readbacks. Model's choices: log entries 44 (the
request form of OUT.GET_GATE) and 148 (which pending words CAL.GET_USER shows). -/
def Obligations.ReadbackAnswersTheObjects : Prop :=
  ∀ (i : Instr) (dt m op : Nat) (k : CfgKind) (s b : State), i.getOp = some (dt, m, op) → At dt s b →
    nextMbx b = some m → (cmdOf b m).opcode = op →
    let c := cmdOf b m
    let t := taken m b
    let ws := (readObjs k c).flatMap (readObj t (readFirst k c) k)
    writerKind (op - 0x80) c.opt = some k →
    (selPlain c false (kindOpts k) && readSel t k c && (k != .gate || onlyBits (c.w 1) [(60, 53)])) = true →
    headStatus t c { len := readLen k c, range := decide (ws.length ≤ 30) } = stOk →
    exec i s = .next (settle s (respond m stOk false false b.ctl.seq ws t))

/-- O20. A status command without CLEAR answers its words and changes nothing else (R327). SYS.GET_INFO,
SYS.GET_STATUS, TB, EM, PB, CMP, WIN, HIST, ECHO, CAL, TEAM, OUT, SAFE and PWR.GET_STATUS, CAL.GET_RESULT,
CAL.GET_SKEW, TXN.GET_STATUS. CLEAR on a status command clears the counters it reports, after they were read, and is
journaled (R312, R327). Model's choices: log entries 13, 72, 80, 90 and 121. -/
def Obligations.StatusCommands : Prop :=
  (∀ (dt : Nat) (m : Fin 32) (s b : State), At dt s b → (cmdOf b m).clear = false →
     let c := cmdOf b m
     let t := taken m b
     let r := upTo c.first c.last
     let ans := fun ws => settle s (answered m b ws t)
     (passes m 0x0060 (rowNone 1 false anyCmd) b → exec (.sysGetInfo dt m) s = .next (ans (sysInfo t))) ∧
     (passes m 0x0061 (rowNone 1 true anyCmd) b → exec (.sysGetStatus dt m) s = .next (ans (sysStatus t))) ∧
     (passes m 0x0160 (rowNone 1 false anyCmd) b → exec (.tbGetStatus dt m) s =
       .next (ans (tbStatus t ++ [cfgW t .tpll 0 0, tpllWord1 t]))) ∧
     (passes m 0x0260 (rowStat [(64, 6)] true) b → exec (.emGetStatus dt m) s = .next (ans (r.flatMap (emStatus t)))) ∧
     (passes m 0x0360 (rowNone 1 true anyCmd) b → exec (.pbGetStatus dt m) s = .next (ans (pbStatus t))) ∧
     (passes m 0x0460 (rowStat [(1024, 14), (32, 29)] true) b → exec (.cmpGetStatus dt m) s =
       .next (ans (cmpStatus t :: r.flatMap (fun i => if c.opt = 1 then [monStatus t i] else rxStatus t i)))) ∧
     (passes m 0x0560 (rowStat [(1024, 15), (64, 5)] true) b → exec (.winGetStatus dt m) s =
       .next (ans (r.flatMap (fun i => if c.opt = 1 then winTileStatus t i else winChStatus t i)))) ∧
     (passes m 0x0660 (rowStat [(1024, 15), (64, 30), (4, 4)] true) b → exec (.histGetStatus dt m) s =
       .next (ans (r.flatMap (fun i => if c.opt = 0 then histChStatus t i else if c.opt = 1 then [histTileStatus t i]
         else [histQStatus t i])))) ∧
     (passes m 0x0760 (rowStat [(4, 4), (1024, 15)] true) b → exec (.echoGetStatus dt m) s =
       .next (ans (r.flatMap (fun i => if c.opt = 1 then echoChStatus t i else echoQStatus t i)))) ∧
     (passes m 0x0860 (rowNone 1 true anyCmd) b → exec (.calGetStatus dt m) s = .next (ans (calStatus t))) ∧
     (passes m 0x0861 (fun s c => { len := lenIs c 1, range := selPlain c false [0] && selRange c (calIndices s s.cal.resKind) 15 }) b →
       exec (.calGetResult dt m) s = .next (ans (r.flatMap (calResWords t)))) ∧
     (passes m 0x0862 (fun _ c => { len := lenIs c 1, range := selPlain c false [0] && selRange c 64 5 }) b →
       exec (.calGetSkew dt m) s = .next (ans (r.flatMap (skewWords t)))) ∧
     (passes m 0x0960 (rowNone 1 true anyCmd) b → exec (.teamGetStatus dt m) s = .next (ans (teamStatus t))) ∧
     (passes m 0x0A60 (fun s => rowStat [(queueCount s, 15), (3, 3), (0, 0)] true s) b → exec (.outGetStatus dt m) s =
       .next (ans (if c.opt = 0 then r.flatMap (outQStatus t) else if c.opt = 1 then r.flatMap (outPortStatus t)
         else outClsStatus t))) ∧
     (passes m 0x0B60 (rowNone 1 true anyCmd) b → exec (.safeGetStatus dt m) s = .next (ans (safeStatus t))) ∧
     (passes m 0x0C60 (rowNone 1 true anyCmd) b → exec (.pwrGetStatus dt m) s = .next (ans (pwrStatus t))) ∧
     (passes m 0x0D60 (fun _ c => { len := lenIs c 1, txn := true, range := selPlain c false [0] && selOne c 65536 }) b →
       exec (.txnGetStatus dt m) s = .next (ans (txnStatus t c.first)))) ∧
  (∀ (dt : Nat) (m : Fin 32) (s b : State), At dt s b → (cmdOf b m).clear = true →
     let c := cmdOf b m
     let t := taken m b
     let r := upTo c.first c.last
     let ans := fun ws x => settle s (acked m b ws x)
     (passes m 0x0061 (rowNone 1 true anyCmd) b → exec (.sysGetStatus dt m) s =
       .next (ans (sysStatus t) { t with ctl := { t.ctl with jlost := 0 } })) ∧
     (passes m 0x0260 (rowStat [(64, 6)] true) b → exec (.emGetStatus dt m) s =
       .next (ans (r.flatMap (emStatus t)) (r.foldl (fun a ch => emUpd ch (fun e => { e with
         energyRefused := 0, collision := 0, late := 0, tripSkip := 0, outOff := 0, lbFaults := 0 }) a) t))) ∧
     (passes m 0x0B60 (rowNone 1 true anyCmd) b → exec (.safeGetStatus dt m) s =
       .next (ans (safeStatus t) { t with safe := { t.safe with seen := 0, ceTotal := 0, alertsSuppressed := 0 } })) ∧
     (passes m 0x0C60 (rowNone 1 true anyCmd) b → exec (.pwrGetStatus dt m) s =
       .next (ans (pwrStatus t) { t with pwr := { t.pwr with
         tempMax := -32768, tempMin := 32767, bandChanges := 0, droopEvents := 0, throttleFine := 0, nvmFails := 0
         pagesWritten := 0 } })) ∧
     (passes m 0x0860 (rowNone 1 true anyCmd) b → exec (.calGetStatus dt m) s =
       .next (ans (calStatus t) { t with cal := { t.cal with deferred := 0, skipTotal := 0 } })) ∧
     (passes m 0x0360 (rowNone 1 true anyCmd) b → exec (.pbGetStatus dt m) s =
       .next (ans (pbStatus t) { t with pb := { t.pb with
         skipped := 0, underruns := 0, lateSkip := 0, steerLate := 0, jumpReplaced := 0, discard := 0, gaps := 0, forced := 0
         mirrorLosses := 0, jumpsTaken := 0, scSteps := 0, overflow := 0, bad := 0 } })) ∧
     (passes m 0x0960 (rowNone 1 true anyCmd) b → exec (.teamGetStatus dt m) s =
       .next (ans (teamStatus t) { t with team := { t.team with
         skewCount := 0, linkDrops := 0, huddleRunning := 0, unannounced := 0 } })) ∧
     (passes m 0x0460 (rowStat [(1024, 14), (32, 29)] true) b → exec (.cmpGetStatus dt m) s =
       .next (ans (cmpStatus t :: r.flatMap (fun i => if c.opt = 1 then [monStatus t i] else rxStatus t i))
         (r.foldl (fun a i => if c.opt = 1 then monUpd i (fun x => { x with assertCount := 0, unresolvedSeen := false }) a
           else rxUpd i (fun x => { x with blanked := 0, filteredOut := 0, high := 0 }) a) { t with cmpDeferred := 0 }))) ∧
     (passes m 0x0560 (rowStat [(1024, 15), (64, 5)] true) b → exec (.winGetStatus dt m) s =
       .next (ans (r.flatMap (fun i => if c.opt = 1 then winTileStatus t i else winChStatus t i))
         (winClear (c.opt == 1) c.first c.last t))) ∧
     (passes m 0x0660 (rowStat [(1024, 15), (64, 30), (4, 4)] true) b → exec (.histGetStatus dt m) s =
       .next (ans (r.flatMap (fun i => if c.opt = 0 then histChStatus t i else if c.opt = 1 then [histTileStatus t i]
         else [histQStatus t i])) (histClear c.opt c.first c.last t))) ∧
     (passes m 0x0760 (rowStat [(4, 4), (1024, 15)] true) b → c.opt = 0 → exec (.echoGetStatus dt m) s =
       .next (ans (r.flatMap (echoQStatus t)) (r.foldl (fun a q => engUpd q (fun e => { e with
         pixelsDone := 0, replaced := 0, peaksDropped := 0, negDrops := 0, bgResets := 0 }) a) t))) ∧
     (passes m 0x0760 (rowStat [(4, 4), (1024, 15)] true) b → c.opt = 1 → exec (.echoGetStatus dt m) s =
       .next (ans (r.flatMap (echoChStatus t)) t)) ∧
     (passes m 0x0A60 (fun s => rowStat [(queueCount s, 15), (3, 3), (0, 0)] true s) b →
       (c.opt = 0 → exec (.outGetStatus dt m) s = .next (ans (r.flatMap (outQStatus t))
         (r.foldl (fun a q => qUpd q (fun x => { x with drops := 0 }) a) t))) ∧
       (c.opt = 1 → exec (.outGetStatus dt m) s = .next (ans (r.flatMap (outPortStatus t))
         (r.foldl (fun a p => portUpd p (fun x => { x with admitDrops := 0, tx := 0, qciDrops := 0, cbDiscards := 0 }) a) t))) ∧
       (c.opt = 2 → exec (.outGetStatus dt m) s = .next (ans (outClsStatus t)
         { t with outq := { t.outq with cls := [], telemSkipped := 0 } }))))

/-! ### Actions -/

/-- O21. TXN.OPEN takes the next TXN_ID, wraps it after 65,535, opens the transaction for its interface with its
timeout from now on, and answers the ID; with four open it is refused NO_RESOURCE (R306, R308). TXN.ABORT closes the
transaction it names as aborted and discards what was staged (R308). TXN.COMMIT closes it as committed and its members
become one accepted set: at once while idle or at the immediate boundary, waiting for its boundary while running; the
answer gives the boundary, raised or not, and the new epoch. Refused for EPOCH_MISMATCH, OUT_OF_RANGE, NOT_IDLE or
INCONSISTENT it is closed and what it staged is discarded, and refused for NO_RESOURCE it stays open (R309). An open
transaction whose time has run out since the last command it received is closed as timed out and what it staged is
discarded, and TXN.GET_STATUS reports both cases by TXN_STATE (R308). Model's choice: log entry 2 (TXN_TIMEOUT acts at its
due moment, and of a transaction that is not open does nothing). -/
def Obligations.Transactions : Prop :=
  (∀ (dt : Nat) (m : Fin 32) (s b : State), At dt s b →
     let c := cmdOf b m
     let t := taken m b
     passes m 0x0D40 (fun _ c => { len := lenIs c 2, txn := true
                                   range := selPlain c false [0] && selNone c && decide (1 ≤ (c.w 1).toNat)
                                     && decide ((c.w 1).toNat ≤ 60000) }) b →
     (openTxns t < 4 → exec (.txnOpen dt m) s =
       .next (settle s (answered m b [BitVec.ofNat 64 t.ctl.nextTxn]
         { t with ctl := { t.ctl with
             nextTxn := t.ctl.nextTxn % 65535 + 1
             txns := tabPut t.ctl.txns t.ctl.nextTxn
               { st := .open, iface := mbxIface m, timeoutMs := (c.w 1).toNat, lastAt := t.up, staged := [] } } }))) ∧
     (4 ≤ openTxns t → exec (.txnOpen dt m) s = .next (settle s (respond m stNoRes false false b.ctl.seq [] t)))) ∧
  (∀ (dt : Nat) (m : Fin 32) (x : Txn) (s b : State), At dt s b →
     let c := cmdOf b m
     let t := taken m b
     let u := txnTouch c.first (mbxIface m) t
     nextMbx b = some m.val →
     ((cmdOf b m).opcode = 0x0D42 → txnFind t c.first (mbxIface m) = some x →
       headStatus t c { len := lenIs c 1, txn := true, range := selPlain c false [0] && selOne c 65536 } = stOk →
       exec (.txnAbort dt m) s = .next (settle s (answered m b []
         { t with ctl := { t.ctl with txns := tabPut t.ctl.txns c.first { x with st := .aborted, staged := [] } } }))) ∧
     ((cmdOf b m).opcode = 0x0D41 → txnFind u c.first (mbxIface m) = some x → isIdle u = true →
       headStatus u c { len := lenIs c 2, txn := true
                        range := selPlain c false [0] && selOne c 65536 && onlyBits (c.w 1) [(1, 0)] } = stOk →
       commitPlan u (fld (c.w 1) 1 0) x.staged = (stOk, 4) →
       let e := (u.ctl.epoch + 1) % 2 ^ 32
       let v := { u with ctl := { u.ctl with
         txns := tabPut u.ctl.txns c.first { x with st := .committed, staged := [] }, epoch := e } }
       let w := applySet 4 { seq := b.ctl.seq, epoch := e, boundary := 4, isTxn := true, txn := c.first, members := x.staged } v
       exec (.txnCommit dt m) s = .next (settle s (respond m stOk false false b.ctl.seq
         [pack [(3, 4), (29, 0), (32, w.ctl.epoch)]] w)))) ∧
  (∀ (dt : Nat) (m : Fin 32) (x : Txn) (s b : State), At dt s b →
     let c := cmdOf b m
     let u := txnTouch c.first (mbxIface m) (taken m b)
     let ask := fld (c.w 1) 1 0
     let head := headStatus u c { len := lenIs c 2, txn := true
                                  range := selPlain c false [0] && selOne c 65536 && onlyBits (c.w 1) [(1, 0)] }
     let close := fun (st : TxnSt) => { u with ctl := { u.ctl with txns := tabPut u.ctl.txns c.first { x with st := st, staged := [] } } }
     let no := fun (st : Nat) (y : State) => Host.Outcome.next (settle s (respond m st false false b.ctl.seq [] y))
     nextMbx b = some m.val → c.opcode = 0x0D41 → txnFind u c.first (mbxIface m) = some x →
     ((head = stEpoch ∨ head = stRange) → exec (.txnCommit dt m) s = no head (close .refused)) ∧
     (head = stOk →
       (∀ st bd, commitPlan u ask x.staged = (st, bd) → st ≠ stOk → st ≠ stNoRes →
         exec (.txnCommit dt m) s = no st (close .refused)) ∧
       (∀ bd, commitPlan u ask x.staged = (stNoRes, bd) → exec (.txnCommit dt m) s = no stNoRes u) ∧
       (∀ bd, commitPlan u ask x.staged = (stOk, bd) → isIdle u = false → bd ≠ 4 →
         let e := (u.ctl.epoch + 1) % 2 ^ 32
         let w : WaitSet := { seq := b.ctl.seq, epoch := e, boundary := bd, isTxn := true, txn := c.first, members := x.staged }
         let v := { close .committed with ctl := { (close .committed).ctl with epoch := e } }
         let yes := fun (y : State) => Host.Outcome.next (settle s (respond m stOk (decide (ask < bd)) false b.ctl.seq
           [pack [(3, bd), (29, 0), (32, y.ctl.epoch)]] y))
         (bd = 0 → exec (.txnCommit dt m) s = yes (applySet 0 w v)) ∧
         (bd ≠ 0 → exec (.txnCommit dt m) s = yes { v with ctl := { v.ctl with waiting := v.ctl.waiting ++ [w] } })))) ∧
  (∀ (dt id : Nat) (x : Txn) (s b : State), At dt s b →
     b.ctl.txns.find? (fun p => p.1 == id) = some (id, x) →
     (x.st = .open → let r := reachUp (x.lastAt + x.timeoutMs * fineMs) b
       exec (.txnTimeout dt id) s = .next (settle s { r with ctl := { r.ctl with
         txns := tabPut r.ctl.txns id { x with st := .timedOut, staged := [] } } })) ∧
     (x.st ≠ .open → exec (.txnTimeout dt id) s = .next (settle s b)) ∧
     (x.st = .aborted → fld ((txnStatus b id).getD 0 0) 63 61 = 3) ∧
     (x.st = .timedOut → fld ((txnStatus b id).getD 0 0) 63 61 = 4))

/-- O22. SAFE.CLEAR in the safe state is applied at the end of its 1 ns cycle, with all that has fallen due by then. It
leaves the safe state when CLEAR_READY is set: SAFE and SAFE_N together, FREQ_FAULT with them, the cleared alert and a
journal entry of KIND 5; while a cause stands, the self-test runs or a cause was decided in that cycle it is refused
SAFE and changes nothing (R382, R383). Outside the safe state it returns OK and has no effect but its journal entry
(R312, R347). SAFE.ENTER decides cause COMMAND with the interface and the sequence number. SAFE.CONFIRM_CFG with the
published pair takes the confirmation and ends UNCONFIRMED and HOST_SILENT; with another pair it is INCONSISTENT (R394).
Model's choice: log entry 174 (the end of the cycle). -/
def Obligations.SafeCommands : Prop :=
  ∀ (dt : Nat) (m : Fin 32) (s b : State), At dt s b →
    let c := cmdOf b m
    let t := taken m b
    (passes m 0x0B40 (rowNone 1 false anyCmd) b →
      (b.safe.safe = true →
        let w := dueNow (reachUp (b.up + 8192 - (b.now % 8192).toNat) b)
        let u := taken m w
        passes m 0x0B40 (rowNone 1 false anyCmd) w →
        (u.safe.active = 0 → u.safe.selftest = false → decidedNow u = false →
          exec (.safeClear dt m) s = .next (settle s (acked m w [] (journalDev 5 (sendCode 2 u.safe.firstCause 0 0 u.now u.up
            { u with safe := { u.safe with safe := false, safeNLow := false }, tb := { u.tb with freqFault := false } }))))) ∧
        ((u.safe.active ≠ 0 ∨ u.safe.selftest = true ∨ decidedNow u = true) →
          exec (.safeClear dt m) s = .next (settle s (respond m stSafe false false w.ctl.seq [] u)))) ∧
      (b.safe.safe = false → exec (.safeClear dt m) s = .next (settle s (acked m b [] t)))) ∧
    (passes m 0x0B41 (rowNone 1 false anyCmd) b →
      exec (.safeEnter dt m) s = .next (settle s (acked m b []
        { t with safe := { t.safe with todo := t.safe.todo ++ [{ at_ := t.now, up := t.up, bit := 1, obj := mbxIface m, detail := lastSeq t }] } }))) ∧
    (passes m 0x0B42 (rowNone 2 false anyCmd) b → fld (c.w 1) 63 32 = t.ctl.pubEpoch → fld (c.w 1) 31 0 = t.ctl.pubDigest →
      exec (.safeConfirmCfg dt m) s = .next (settle s (acked m b [] (causeGone 17 (causeGone 16
        { t with safe := { t.safe with confirmPending := false, confirmedEpoch := t.ctl.pubEpoch
                                       confirmAt := some t.up } }))))) ∧
    (passes m 0x0B42 (rowNone 2 false anyCmd) b → (fld (c.w 1) 63 32 ≠ t.ctl.pubEpoch ∨ fld (c.w 1) 31 0 ≠ t.ctl.pubDigest) →
      exec (.safeConfirmCfg dt m) s = .next (settle s (respond m stIncons false false b.ctl.seq [] t)))

/-- O23. PB.START runs the segment it names only outside the safe state, locked, idle and with no under-run, and is
refused by the first of these that fails, in that order (R116, R295). PB.STOP stops the walk at once, or notes where it
shall stop; while idle, or once the walk is stopping, it has no effect. PB.CLEAR_UNDERRUN clears the flag. PB.JUMP
latches its slot and answers what it displaced, and of an empty slot is OUT_OF_RANGE; PB.ARM_JUMP arms or disarms its
slot; PB.STREAM_CLOSE is a set that writes STREAM_SRC off: at once while idle, and while running refused NOT_IDLE where
that changes it, and else waiting as any set (R113, R117, R135, R303, R336). Model's choices: log entries 13 and 76. -/
def Obligations.PlaybookCommands : Prop :=
  ∀ (dt : Nat) (m : Fin 32) (s b : State), At dt s b →
    let c := cmdOf b m
    let t := taken m b
    (passes m 0x0342 (rowOne 1 4096 anyCmd) b →
      (isIdle t = true → t.tb.st = .locked → t.safe.safe = false → t.pb.underrun = false →
        exec (.pbStart dt m) s = .next (settle s (acked m b [] (pbStart c.first t)))) ∧
      (t.safe.safe = true → exec (.pbStart dt m) s = .next (settle s (respond m stSafe false false b.ctl.seq [] t))) ∧
      (t.safe.safe = false → t.tb.st ≠ .locked →
        exec (.pbStart dt m) s = .next (settle s (respond m stNotLocked false false b.ctl.seq [] t))) ∧
      (t.safe.safe = false → t.tb.st = .locked → isIdle t = false →
        exec (.pbStart dt m) s = .next (settle s (respond m stNotIdle false false b.ctl.seq [] t))) ∧
      (isIdle t = true → t.tb.st = .locked → t.safe.safe = false → t.pb.underrun = true →
        exec (.pbStart dt m) s = .next (settle s (respond m stUnderrun false false b.ctl.seq [] t)))) ∧
    (passes m 0x0343 (fun _ c => { len := lenIs c 1, range := selPlain c false [0, 1, 2] && selNone c }) b →
      isIdle t = false → t.pb.st ≠ .stopping →
      (c.opt = 0 → exec (.pbStop dt m) s = .next (settle s (acked m b []
        { t with pb := { t.pb with st := .stopping, walk := .none, starve := 0 } }))) ∧
      (c.opt ≠ 0 → exec (.pbStop dt m) s = .next (settle s (acked m b [] { t with pb := { t.pb with stop := some c.opt } })))) ∧
    (passes m 0x0343 (fun _ c => { len := lenIs c 1, range := selPlain c false [0, 1, 2] && selNone c }) b →
      (isIdle t = true ∨ t.pb.st = .stopping) → exec (.pbStop dt m) s = .next (settle s (acked m b [] t))) ∧
    (passes m 0x0345 (rowNone 1 false anyCmd) b →
      exec (.pbClearUnderrun dt m) s = .next (settle s (acked m b [] { t with pb := { t.pb with underrun := false } }))) ∧
    (passes m 0x0341 (fun s c => { len := lenIs c 1, range := selPlain c false [0] && selOne c 256 && cfgF s .jump c.first 0 13 12 != 0 }) b →
      exec (.pbJump dt m) s = .next (settle s (acked m b
        [pack [(55, 0), (1, b2n t.pb.latch.isSome), (8, t.pb.latch.getD 0)]]
        { t with pb := { t.pb with
            latch := some c.first, armed := t.pb.armed.filter (fun x => x != c.first)
            jumpReplaced := if t.pb.latch.isSome then satAdd 16 t.pb.jumpReplaced 1 else t.pb.jumpReplaced } }))) ∧
    (passes m 0x0341 (fun _ c => { len := lenIs c 1, range := selPlain c false [0] && selOne c 256 }) b →
      cfgF t .jump c.first 0 13 12 = 0 →
      exec (.pbJump dt m) s = .next (settle s (respond m stRange false false b.ctl.seq [] t))) ∧
    (passes m 0x0340 (fun _ c => { len := lenIs c 1, range := selPlain c false [0, 1] && selOne c 256, stage := true }) b →
      c.txn = 0 →
      exec (.pbArmJump dt m) s = .next (settle s (acked m b [] (applyOp (.armJump c.first (c.opt == 1)) t)))) ∧
    (let ops := [SetOp.write (cfgKey .stream 0) [setFld ((cfgObj t .stream 0).getD 0 0) 27 26 0, (cfgObj t .stream 0).getD 1 0]]
     let e := (t.ctl.epoch + 1) % 2 ^ 32
     passes m 0x0344 (fun _ c => { len := lenIs c 1, range := selPlain c false [0] && selNone c }) b →
      tapsBusy t (cfgAt t 1) ops = false →
      (isIdle t = true → setStatus t 4 ops = stOk →
        exec (.pbStreamClose dt m) s = .next (settle s (answered m b []
          (applySet 4 { seq := b.ctl.seq, epoch := e, boundary := 4, members := [{ cmd := c.toRec b.ctl.seq, ops := ops }] }
            { t with ctl := { t.ctl with epoch := e } })))) ∧
      (isIdle t = false → setBoundary t 1 ops = none →
        exec (.pbStreamClose dt m) s = .next (settle s (respond m stNotIdle false false b.ctl.seq [] t))) ∧
      (∀ bd, isIdle t = false → setBoundary t 1 ops = some bd → soonSet t bd ops = false → t.ctl.waiting.length < 16 →
        setStatus t bd ops = stOk →
        exec (.pbStreamClose dt m) s = .next (settle s (answered m b [] { t with ctl := { t.ctl with
          epoch := e
          waiting := t.ctl.waiting ++ [{ seq := b.ctl.seq, epoch := e, boundary := bd
                                         members := [{ cmd := c.toRec b.ctl.seq, ops := ops }] }] } }))))

/-- O24. EM.CLEAR_TRIP clears the latch of each channel it names whose mapped sources are deasserted, and answers the
mask of those still latched (R91). OUT.RESET_QUEUE clears the index, sequence number and drops of the disabled queues it
names; with one of them enabled it is INCONSISTENT (R353). TEAM.HUDDLE on an idle master of an idle, formed team stages
the value, announces it and drives HUDDLE_OUT 10 µs later; elsewhere than on a master it is INCONSISTENT, on a master
where the device or the team runs NOT_IDLE, and else, not formed, INCONSISTENT (R270, R279, R295). ECHO.FREEZE_BG
captures or clears the frozen background of each channel it names (R225). ECHO.SWAP_BANK requests the bank it names of
one quadrant and answers the request it displaced (R230). Model's choices: log entries 66, 70, 88 (EM.CLEAR_TRIP leaves
TRIP_FIRST) and 123 (OUT.RESET_QUEUE drops the records that wait). -/
def Obligations.BlockActions : Prop :=
  ∀ (dt : Nat) (m : Fin 32) (s b : State), At dt s b →
    let c := cmdOf b m
    let t := taken m b
    (passes m 0x0240 (rowNone 2 false (fun c => c.w 1 != 0)) b →
      let x := (maskBits 64 (c.w 1).toNat).foldl (fun a ch =>
        if tripActive a ch = 0 then emUpd ch (fun e => { e with latched := false }) a else a) t
      exec (.emClearTrip dt m) s = .next (settle s (acked m b [BitVec.ofNat 64 (latchedMask (c.w 1).toNat x)] x))) ∧
    (passes m 0x0A40 (fun _ c => { len := lenIs c 1, range := selPlain c false [0] && selRange c 1048576 1048576 }) b →
      c.last < queueCount t →
      (anyEnabled c t = false →
        exec (.outResetQueue dt m) s = .next (settle s (acked m b [] ((runQueues c t).foldl
          (fun a q => qUpd q (fun r => { r with prod := 0, rseq := 0, drops := 0, wait := [] }) a) t)))) ∧
      (anyEnabled c t = true →
        exec (.outResetQueue dt m) s = .next (settle s (respond m stIncons false false b.ctl.seq [] t)))) ∧
    (passes m 0x0940 (rowNone 3 false (fun c => onlyBits (c.w 1) [(35, 0)] && onlyBits (c.w 2) [(35, 0)])) b →
      (isMaster t = false →
        exec (.teamHuddle dt m) s = .next (settle s (respond m stIncons false false b.ctl.seq [] t))) ∧
      (isMaster t = true → (isIdle t = false ∨ teamIdle t = false) →
        exec (.teamHuddle dt m) s = .next (settle s (respond m stNotIdle false false b.ctl.seq [] t))) ∧
      (isMaster t = true → isIdle t = true → teamIdle t = true → t.team.formed = false →
        exec (.teamHuddle dt m) s = .next (settle s (respond m stIncons false false b.ctl.seq [] t)))) ∧
    (passes m 0x0940 (rowNone 3 false (fun c => onlyBits (c.w 1) [(35, 0)] && onlyBits (c.w 2) [(35, 0)])) b →
      isMaster t = true → t.team.formed = true → isIdle t = true → teamIdle t = true →
      let e : Nat := fld (c.w 1) 35 0 + fld (c.w 2) 35 0 * 2 ^ 36
      let x := stageEpoch e t
      exec (.teamHuddle dt m) s = .next (settle s (acked m b [] (out (.nolgil 3 [(e : Int)])
        { x with team := { x.team with huddleAt := some (t.up + 10 * fineUs) } })))) ∧
    (passes m 0x0741 (fun _ c => { len := lenIs c 1, range := selPlain c false [0, 1] && selRange c 1024 1024 }) b →
      exec (.echoFreezeBg dt m) s = .next (settle s (acked m b [] ((upTo c.first c.last).foldl (fun a ch =>
        trackUpd ch (fun k => if c.opt = 1 then { k with frozen := 0, valid := false }
          else { k with frozen := k.rho, valid := true }) a) t)))) ∧
    (passes m 0x0740 (fun _ c => { len := lenIs c 2, stage := true, range := selPlain c false [0, 1] && selOne c 4 && onlyBits (c.w 1) [(15, 0)] }) b → c.txn = 0 →
      let r := swapBank c.first c.opt (fld (c.w 1) 15 0) t
      exec (.echoSwapBank dt m) s = .next (settle s (acked m b [r.2] r.1)))

/-- O25. TB.BAND_STORE, idle and locked, keeps the band, fraction, reference and loop word in the slot it names (R42);
it and TB.REALIGN are refused NOT_LOCKED in any other TPLL_STATE, slewing among them, before idle is looked at (R295,
Table 15 of ch. 11). TB.BAND_SEARCH and TB.BAND_HOP, idle, start and answer when the loop has locked (R298, R333). While
the Playbook runs the three are refused NOT_IDLE, TB.BAND_HOP of a slot never stored is NO_RESOURCE, and TB.REALIGN in
FOLLOW mode or on a follower INCONSISTENT (R333). TB.REALIGN on a device that is no follower and not in FOLLOW mode sets
REALIGN where the phase is off, at once in a quiet interval, as idle is outside a CAL.ZERO window (R60, R252, R282).
Model's choices: log entries 17 and 66. -/
def Obligations.TimebaseCommands : Prop :=
  ∀ (dt : Nat) (m : Fin 32) (s b : State), At dt s b →
    let c := cmdOf b m
    let t := taken m b
    let u := started m b
    (t.tb.st ≠ .locked →
      (passes m 0x0141 (rowOne 1 8 anyCmd) b →
        exec (.tbBandStore dt m) s = .next (settle s (respond m stNotLocked false false b.ctl.seq [] t))) ∧
      (passes m 0x0143 (rowNone 1 false anyCmd) b →
        exec (.tbRealign dt m) s = .next (settle s (respond m stNotLocked false false b.ctl.seq [] t)))) ∧
    (isIdle t = false →
      (passes m 0x0141 (rowOne 1 8 anyCmd) b → t.tb.st = .locked →
        exec (.tbBandStore dt m) s = .next (settle s (respond m stNotIdle false false b.ctl.seq [] t))) ∧
      (passes m 0x0140 (rowNone 1 false anyCmd) b →
        exec (.tbBandSearch dt m) s = .next (settle s (respond m stNotIdle false false b.ctl.seq [] t))) ∧
      (passes m 0x0142 (rowOne 1 8 anyCmd) b →
        exec (.tbBandHop dt m) s = .next (settle s (respond m stNotIdle false false b.ctl.seq [] t)))) ∧
    (passes m 0x0142 (rowOne 1 8 anyCmd) b → isIdle t = true → t.tb.slots.any (fun x => x.1 == c.first) = false →
      exec (.tbBandHop dt m) s = .next (settle s (respond m stNoRes false false b.ctl.seq [] t))) ∧
    (passes m 0x0143 (rowNone 1 false anyCmd) b → t.tb.st = .locked → (followMode t = true ∨ isFollower t = true) →
      exec (.tbRealign dt m) s = .next (settle s (respond m stIncons false false b.ctl.seq [] t))) ∧
    (passes m 0x0141 (rowOne 1 8 anyCmd) b → isIdle t = true → t.tb.st = .locked →
      let x : BandSlot := { band := t.tb.vcoBand, frac := fracNow t, refSel := fld (cfgW t .tpll 0 0) 29 28, loopWord := t.tb.loopWord }
      exec (.tbBandStore dt m) s =
        .next (settle s (acked m b [] { t with tb := { t.tb with slots := tabPut t.tb.slots c.first x } }))) ∧
    (passes m 0x0140 (rowNone 1 false anyCmd) b → isIdle t = true → bgBusy t 1 = false →
      exec (.tbBandSearch dt m) s = .next (settle s { u with tb := { u.tb with
        st := .search, good := 0, judging := false, lockAt := none, reacqAt := some u.up } })) ∧
    (passes m 0x0142 (rowOne 1 8 anyCmd) b → isIdle t = true → t.tb.slots.any (fun x => x.1 == c.first) = true →
      bgBusy t 1 = false →
      let x := tabGet {} u.tb.slots c.first
      let v := putTpll (setFld (cfgW u .tpll 0 0) 29 28 x.refSel) u
      exec (.tbBandHop dt m) s = .next (settle s { v with tb := { v.tb with
        st := .reacquire, good := 0, judging := false, lockAt := none, bandSlot := c.first, vcoBand := x.band
        loopWord := x.loopWord, fracHop := some x.frac, reacqAt := some u.up } })) ∧
    (passes m 0x0143 (rowNone 1 false anyCmd) b → t.tb.st = .locked → followMode t = false → isFollower t = false →
      (t.tb.phaseOfs = 0 → exec (.tbRealign dt m) s = .next (settle s (acked m b [] t))) ∧
      (t.tb.phaseOfs ≠ 0 →
        let x := if isMaster t then out (.nolgil 4 [t.tb.phaseOfs]) t else t
        let y := { x with tb := { x.tb with realign := true } }
        exec (.tbRealign dt m) s = .next (settle s (acked m b [] (if stepsNow y then realignStep y else y)))))

/-- O26. WIN.ARM_REC without team arming arms the recorders of the tiles it names that no capture holds; on the master
of a formed team with team arming it sends the common arming time 100 µs ahead, and elsewhere that is INCONSISTENT, as
is a local arm that names a REC_TEAM tile of a team; a tile out of service is NO_RESOURCE before that (R187, R256, R270,
R295). WIN.DISARM_REC disarms those ARMED or FROZEN; WIN.TRIG_REC triggers by command; WIN.READ_REC reads frozen tiles
and triggers armed ones, and is NO_RESOURCE with a tile DISARMED, in HOLD or in READING, or a queue that takes no
records (R182, R183, R187, R188). Model's choices: log entries 34 and 74. -/
def Obligations.RecorderCommands : Prop :=
  ∀ (dt : Nat) (m : Fin 32) (s b : State), At dt s b →
    let c := cmdOf b m
    let t := taken m b
    (passes m 0x0540 (fun _ c => { len := lenIs c 2, range := selPlain c false [0, 1] && selNone c && c.w 1 != 0 }) b →
      (((maskTiles c).any (fun ti => (tileGet t ti).calOut)) = true →
        exec (.winArmRec dt m) s = .next (settle s (respond m stNoRes false false b.ctl.seq [] t))) ∧
      (((maskTiles c).any (fun ti => (tileGet t ti).calOut)) = false →
      (c.opt = 1 → (isMaster t = false ∨ t.team.formed = false) →
        exec (.winArmRec dt m) s = .next (settle s (respond m stIncons false false b.ctl.seq [] t))) ∧
      (c.opt = 0 → (teamEn t && (maskTiles c).any (fun ti => cfgF t .rcd ti 0 45 45 == 1)) = false →
        exec (.winArmRec dt m) s = .next (settle s (acked m b [] ((maskTiles c).foldl (fun a ti =>
          if (tileGet a ti).rcd.st = .filling ∨ (tileGet a ti).rcd.st = .reading then a else recArm ti a) t)))) ∧
      (c.opt = 0 → teamEn t = true → ((maskTiles c).any (fun ti => cfgF t .rcd ti 0 45 45 == 1)) = true →
        exec (.winArmRec dt m) s = .next (settle s (respond m stIncons false false b.ctl.seq [] t))) ∧
      (c.opt = 1 → isMaster t = true → t.team.formed = true →
        exec (.winArmRec dt m) s = .next (settle s (acked m b [] (out (.nolgil 1 [t.now + 100 * fineUs - teamOfs t])
          { t with team := { t.team with armAt := t.team.armAt ++ [t.now + 100 * fineUs] } })))))) ∧
    (passes m 0x0541 (rowNone 2 false (fun c => c.w 1 != 0)) b →
      exec (.winDisarmRec dt m) s = .next (settle s (acked m b [] ((maskTiles c).foldl (fun a ti =>
        if (tileGet a ti).rcd.st = .armed ∨ (tileGet a ti).rcd.st = .frozen then
          recUpd ti (fun r => { r with st := .disarmed }) a else a) t)))) ∧
    (passes m 0x0542 (rowNone 2 false (fun c => c.w 1 != 0)) b →
      exec (.winTrigRec dt m) s = .next (settle s (acked m b [] ((maskTiles c).foldl (fun a ti =>
        recTrigger ti 6 0 a.now a) t)))) ∧
    (passes m 0x0543 (rowQueue 2 (fun c => c.w 1 != 0)) b →
      (queueTakes t c.first = false ∨ ∃ ti ∈ maskTiles c,
        (tileGet t ti).rcd.st = .disarmed ∨ (tileGet t ti).rcd.st = .hold ∨ (tileGet t ti).rcd.st = .reading) →
      exec (.winReadRec dt m) s = .next (settle s (respond m stNoRes false false b.ctl.seq [] t))) ∧
    (passes m 0x0543 (rowQueue 2 (fun c => c.w 1 != 0)) b → queueTakes t c.first = true →
      (∀ ti ∈ maskTiles c, (tileGet t ti).rcd.st ≠ .disarmed ∧ (tileGet t ti).rcd.st ≠ .hold ∧ (tileGet t ti).rcd.st ≠ .reading) →
      exec (.winReadRec dt m) s = .next (settle s (acked m b [] ((maskTiles c).foldl (fun a ti => readTile c.first ti a) t))))

/-- O27. CAL.LIN, CAL.ZERO and CAL.TEAM pass their checks and start: the unit takes the tiles and objects they name,
asks the tiles out of service, and answers when they end (R256, R257, R260, R261, R298). They are refused NOT_LOCKED,
SAFE_STATE and NO_RESOURCE in that order, the last for a calibration that runs, a command of their group that has not
ended, or a tile FILLING, FROZEN or READING; then CAL.ZERO is INCONSISTENT where EM's tile is not named or EM not ARMED,
and CAL.TEAM elsewhere than on the master of a formed team; with TILE_MASK zero or a field of CAL.ZERO out of its range
they are OUT_OF_RANGE before all that (R257, R260, R261, R295). CAL.SAVE_USER starts writing the user copy that is not
the newer one; CAL.RESTORE acts on the user layer by its option, beside a CAL.SAVE_USER too, and is NO_RESOURCE for a
copy that is not valid and OUT_OF_RANGE where R248 leaves no room; both are NO_RESOURCE while a calibration runs (R264,
R343). Model's choices: log entries 24, 85 and 167 (NOT_LOCKED before SAFE_STATE). -/
def Obligations.CalibrationCommands : Prop :=
  ∀ (dt : Nat) (m : Fin 32) (s b : State), At dt s b →
    let c := cmdOf b m
    let t := taken m b
    let u := started m b
    let no := fun (st : Nat) => Host.Outcome.next (settle s (respond m st false false b.ctl.seq [] t))
    let busyTile := (tilesOf (c.w 1).toNat).any (fun ti =>
      let r := (tileGet t ti).rcd.st
      r == .filling || r == .frozen || r == .reading)
    let free := t.tb.st = .locked ∧ t.safe.safe = false ∧ teamCalibrates t = false ∧ busyTile = false
    let emOk := (c.w 1).toNat.testBit (fld (c.w 2) 45 40) = true ∧ cfgF t .emCh (fld (c.w 2) 45 40) 1 37 36 = 2
    (passes m 0x0840 (rowNone 2 false (fun c => c.w 1 != 0)) b →
      (t.tb.st ≠ .locked → exec (.calLin dt m) s = no stNotLocked) ∧
      (t.tb.st = .locked → t.safe.safe = true → exec (.calLin dt m) s = no stSafe) ∧
      (t.tb.st = .locked → t.safe.safe = false → (teamCalibrates t = true ∨ busyTile = true) → exec (.calLin dt m) s = no stNoRes) ∧
      (free → bgBusy t 8 = true → exec (.calLin dt m) s = no stNoRes) ∧
      (free → bgBusy t 8 = false →
        exec (.calLin dt m) s = .next (settle s (calBegin 1 1 (c.w 1).toNat (tilesOf (c.w 1).toNat) [c.w 1] u)))) ∧
    (passes m 0x0841 (rowNone 5 false zeroRange) b →
      (t.tb.st ≠ .locked → exec (.calZero dt m) s = no stNotLocked) ∧
      (t.tb.st = .locked → t.safe.safe = true → exec (.calZero dt m) s = no stSafe) ∧
      (t.tb.st = .locked → t.safe.safe = false → (teamCalibrates t = true ∨ busyTile = true) → exec (.calZero dt m) s = no stNoRes) ∧
      (free → bgBusy t 8 = true → exec (.calZero dt m) s = no stNoRes) ∧
      (free → bgBusy t 8 = false → ¬ emOk → exec (.calZero dt m) s = no stIncons) ∧
      (free → bgBusy t 8 = false → emOk →
        exec (.calZero dt m) s = .next (settle s (calBegin 2 1 (c.w 1).toNat
          (zeroChannels (c.w 1).toNat (fld (c.w 2) 63 48)) [c.w 1, c.w 2, c.w 3, c.w 4] u)))) ∧
    (passes m 0x0840 (rowNone 2 false anyCmd) b → c.w 1 = 0 → exec (.calLin dt m) s = no stRange) ∧
    (passes m 0x0841 (rowNone 5 false anyCmd) b → zeroRange c = false → exec (.calZero dt m) s = no stRange) ∧
    (passes m 0x0842 (rowNone 1 false anyCmd) b →
      (membersLocked t = false → exec (.calTeam dt m) s = no stNotLocked) ∧
      (membersLocked t = true → (teamCalibrates t = true ∨ bgBusy t 8 = true) → exec (.calTeam dt m) s = no stNoRes) ∧
      (membersLocked t = true → teamCalibrates t = false → bgBusy t 8 = false → (isMaster t = false ∨ t.team.formed = false) →
        exec (.calTeam dt m) s = no stIncons) ∧
      (membersLocked t = true → teamCalibrates t = false → bgBusy t 8 = false → isMaster t = true → t.team.formed = true →
        exec (.calTeam dt m) s = .next (settle s (calBegin 3 2 0 [] [] u)))) ∧
    (passes m 0x0843 (rowNone 1 false anyCmd) b →
      ((calRunning t = true ∨ bgBusy t 8 = true) → exec (.calSaveUser dt m) s = no stNoRes) ∧
      (calRunning t = false → bgBusy t 8 = false → exec (.calSaveUser dt m) s = .next (settle s (saveUser u)))) ∧
    (passes m 0x0844 (fun _ c => { len := lenIs c 1, range := selPlain c false [0, 1, 2] && selNone c }) b →
      let lost := (c.opt = 0 ∧ copyGood t t.pwr.mram.copy0 = false) ∨ (c.opt = 1 ∧ copyGood t t.pwr.mram.copy1 = false)
      let room := (laterCfgs (restoreUser c.opt t)).all (userOk t t.fact.mac)
      ((calRunning t = true ∨ lost) → exec (.calRestore dt m) s = no stNoRes) ∧
      (calRunning t = false → ¬ lost → room = false → exec (.calRestore dt m) s = no stRange) ∧
      (calRunning t = false → ¬ lost → room = true →
        exec (.calRestore dt m) s = .next (settle s (acked m b [] (restoreUser c.opt t)))))

/-- O28. SYS.RESET, idle, has the effect of RESET_N and gives no response; running, it is refused NOT_IDLE, and beside
a SYS.SELECT_BOOT that has not ended NO_RESOURCE (R298, R330).
SYS.SELECT_BOOT, PWR.SAVE_IMAGE, PWR.SELECT_IMAGE and PWR.ERASE_IMAGE start their page writes and answer when they are
done: a saved image is invalid from its first page to its last (R298, R425, R426). SYS.READ_JOURNAL, SYS.READ_CONFIG
and PWR.READ_LOG answer and emit their records, of the log the written and then the buffered ones, to the queue they name,
where it takes records; otherwise they are refused NO_RESOURCE with a response only (R316, R328, R331, R427). With no entry
to read SYS.READ_JOURNAL emits none, and the two JSEQ of its answer are free values (the model's choice: log entry 50).
They are reads: none of them is journaled. Model's choices: log entries 24 and 48. -/
def Obligations.ResetImageAndReadout : Prop :=
  (∀ (dt : Nat) (m : Fin 32) (s b : State), At dt s b →
     let c := cmdOf b m
     let t := taken m b
     let u := started m b
     (passes m 0x0040 (rowNone 2 false (fun c => (c.w 1).toNat == 0x5A)) b →
       (isIdle t = true → bgBusy t 0 = true →
         exec (.sysReset dt m) s = .next (settle s (respond m stNoRes false false b.ctl.seq [] t))) ∧
       (isIdle t = true → bgBusy t 0 = false →
         exec (.sysReset dt m) s = .next (settle s (releaseReset t.pwr.tempNow (resetDevice t)))) ∧
       (isIdle t = false → exec (.sysReset dt m) s = .next (settle s (respond m stNotIdle false false b.ctl.seq [] t)))) ∧
     (passes m 0x0041 (rowNone 2 false (fun c => onlyBits (c.w 1) [(0, 0)])) b → bgBusy t 0 = false →
       exec (.sysSelectBoot dt m) s = .next (settle s (nvmPut (.bootSlot (fld (c.w 1) 0 0)) u))) ∧
     (passes m 0x0C40 (rowOne 1 4 anyCmd) b → bgBusy t 12 = false → imageBytes t ≤ 504 * 1024 →
       exec (.pwrSaveImage dt m) s = .next (settle s (nvmPut (.imageValid c.first)
         (nvmPut (.imagePage c.first { recs := imageTab t.cfg } (1 + (imageBytes t + 4095) / 4096))
           (nvmPut (.imageInvalidate c.first) u))))) ∧
     (passes m 0x0C41 (fun _ c => { len := lenIs c 1, range := selPlain c false [0] && c.first == c.last && (decide (c.first < 4) || c.first == 0xFFFFF) }) b →
       bgBusy t 12 = false →
       (c.first < 4 → slotMarked t.pwr.mram c.first = true →
         exec (.pwrSelectImage dt m) s = .next (settle s (nvmPut (.imageSelect (some c.first)) u))) ∧
       (c.first = 0xFFFFF → exec (.pwrSelectImage dt m) s = .next (settle s (nvmPut (.imageSelect none) u))) ∧
       (c.first < 4 → slotMarked t.pwr.mram c.first = false →
         exec (.pwrSelectImage dt m) s = .next (settle s (respond m stNoRes false false b.ctl.seq [] t)))) ∧
     (passes m 0x0C42 (rowOne 1 4 anyCmd) b → bgBusy t 12 = false → slotMarked t.pwr.mram c.first = true →
       exec (.pwrEraseImage dt m) s = .next (settle s (nvmPut (.imageErase c.first) u)))) ∧
  (∀ (dt : Nat) (m : Fin 32) (s b : State), At dt s b →
     let c := cmdOf b m
     let t := taken m b
     (passes m 0x0042 (rowQueue 2 (fun c => onlyBits (c.w 1) [(31, 0)])) b → queueTakes t c.first = true →
       let es := (jHeld t).filter (fun e => decide (fld (c.w 1) 31 0 ≤ e.jseq))
       es ≠ [] →
       exec (.sysReadJournal dt m) s = .next (settle s (answered m b
         [pack [(32, (es.headD {}).jseq), (32, (es.reverse.headD {}).jseq)]] (emitJournal c.first es t)))) ∧
     (passes m 0x0042 (rowQueue 2 (fun c => onlyBits (c.w 1) [(31, 0)])) b → queueTakes t c.first = true →
       ((jHeld t).filter (fun e => decide (fld (c.w 1) 31 0 ≤ e.jseq))) = [] →
       exec (.sysReadJournal dt m) s = .next (settle s (answered m b
         [pack [(32, Config.freeValue t.free), (32, Config.freeValue (t.free + 1))]] { t with free := t.free + 2 }))) ∧
     (passes m 0x0042 (rowQueue 2 (fun c => onlyBits (c.w 1) [(31, 0)])) b → queueTakes t c.first = false →
       exec (.sysReadJournal dt m) s = .next (settle s (respond m stNoRes false false b.ctl.seq [] t))) ∧
     (passes m 0x0043 (rowQueue 1 anyCmd) b → queueTakes t c.first = false →
       exec (.sysReadConfig dt m) s = .next (settle s (respond m stNoRes false false b.ctl.seq [] t))) ∧
     (passes m 0x0043 (rowQueue 1 anyCmd) b → queueTakes t c.first = true →
       exec (.sysReadConfig dt m) s = .next (settle s (answered m b
         [pack [(32, t.ctl.effEpoch), (32, digestOf t.cfg)], pack [(32, 0), (32, (imageOf t.cfg).length)]]
         ((imageOf t.cfg).foldl (fun a r => telemRecord c.first 1 0 r a) t)))) ∧
     (passes m 0x0C43 (rowQueue 1 anyCmd) b → queueTakes t c.first = true →
       exec (.pwrReadLog dt m) s = .next (settle s (answered m b []
         ((t.pwr.mram.log ++ t.pwr.logBuf).foldl (fun a r => telemRecord c.first 2 0 (logWords r) a) t)))) ∧
     (passes m 0x0C43 (rowQueue 1 anyCmd) b → queueTakes t c.first = false →
       exec (.pwrReadLog dt m) s = .next (settle s (respond m stNoRes false false b.ctl.seq [] t))))

/-! ### Power, reset, boot (ch. 15) -/

/-- O29. RESET_N low for 1 µs or more, VDD_CORE below 0.68 V or VDDIO_33 below 2.9 V as the power-on detector sees them,
the loss of VDDIO_33 and the hard thermal trip hold the device in reset with every field at its reset value but what
outlives reset; they end there, with no decision taken. A shorter pulse on RESET_N does nothing. The detector keeps the
level of VDD_CORE, and a VDDIO_33 at or above 2.9 V is up again, within tolerance from 3.135 V on; without VDDIO_33 the
cause of a shutdown, the hard latch and the test port are lost too (R421, R436). POWER_UP has VDDIO_33 within tolerance
and drives SAFE_N low (R406 to R408). The boot starts when the last of what holds the device in reset is gone, RESET_N,
the detector and the hard trip, which RESET_N ends: at RESET_RELEASE, POWER_ON_DETECT or POWER_UP; otherwise it stays
held (R408, R421). The boot goes on stage by stage: a verified image starts the firmware and its watchdog, a bad one the
other slot and then stage 0xE2, a silent flash stage 0xE3; the factory check sets FACTORY_OK, or decides FACTORY_BAD
with the first table whose CRC-32C does not match as it is read; training, passed or not, ends stage 6; layer and image
are loaded in stage 7; and the boot is complete with the self-test (R244, R384, R409, R410, R412). Model's choices: log
entries 2, 8, 51, 56, 59, 130 and 131. -/
def Obligations.ResetPowerAndBoot : Prop :=
  (∀ (dt : Nat) (s b : State), AtAny dt s b →
     let r := resetDevice b
     let core := fun (mv io : Nat) => { b with pwr := { b.pwr with
       coreOk := decide (680 ≤ mv), io33 := true, ioTol := b.pwr.ioTol || decide (3135 ≤ io) } }
     let noIo := fun (x : State) => { x with
       pwr := { x.pwr with io33 := false, ioTol := false, sdCause := 0, sdTemp := 0, hardLatch := false, tripHold := false }, tap := {} }
     (∀ low, 1000 ≤ low → exec (.resetAssert dt low) s = .next (settle s { r with pwr := { r.pwr with rstLow := true } })) ∧
     (∀ low, low < 1000 → exec (.resetAssert dt low) s = .next (settle s b)) ∧
     let held := fun (x : State) => x.pwr.io33 = false ∨ x.pwr.coreOk = false ∨ x.pwr.rstLow = true ∨ x.pwr.tripHold = true
     (∀ mv io (temp : BitVec 16),
       (io < 2900 → exec (.powerOnDetect dt ⟨mv, temp⟩ io) s = .next (settle s (noIo (resetDevice (core mv io))))) ∧
       (mv < 680 → 2900 ≤ io → exec (.powerOnDetect dt ⟨mv, temp⟩ io) s = .next (settle s (resetDevice (core mv io)))) ∧
       (680 ≤ mv → 2900 ≤ io →
         (b.pwr.inReset = true → ¬ held (core mv io) →
           exec (.powerOnDetect dt ⟨mv, temp⟩ io) s = .next (settle s (releaseReset temp.toInt (core mv io)))) ∧
         ((b.pwr.inReset = false ∨ held (core mv io)) → exec (.powerOnDetect dt ⟨mv, temp⟩ io) s = .next (settle s (core mv io))))) ∧
     exec (.powerLoss dt) s = .next (settle s (noIo r)) ∧
     exec (.thermalHardTrip dt) s = .next (settle s { r with pwr := { r.pwr with hardLatch := true, tripHold := true } }) ∧
     (b.pwr.io33 = false →
       let x := { b with pwr := { b.pwr with io33 := true, ioTol := true }, safe := { b.safe with safeNLow := true } }
       (b.pwr.inReset = true → ¬ held x → exec (.powerUp dt) s = .next (settle s (releaseReset 0 x))) ∧
       ((b.pwr.inReset = false ∨ held x) → exec (.powerUp dt) s = .next (settle s x))) ∧
     (b.pwr.io33 = true → exec (.powerUp dt) s = .next (settle s { b with pwr := { b.pwr with ioTol := true } }))) ∧
  ((∀ (dt : Nat) (temp : BitVec 16) (s b : State), AtAny dt s b →
     let x := { b with pwr := { b.pwr with rstLow := false, tripHold := false } }
     (b.pwr.inReset = true → b.pwr.io33 = true → b.pwr.coreOk = true →
       exec (.resetRelease dt temp) s = .next (settle s (releaseReset temp.toInt x))) ∧
     ((b.pwr.inReset = false ∨ b.pwr.io33 = false ∨ b.pwr.coreOk = false) →
       exec (.resetRelease dt temp) s = .next (settle s x))) ∧
   (∀ (dt : Nat) (s b : State), At dt s b →
     let stage := fun n => { b with ctl := { b.ctl with bootStage := n } }
     ([2, 3, 4, 0xE1].contains b.ctl.bootStage = true →
       exec (.bootImageVerified dt false true) s = .next (settle s (stage 0xE3)) ∧
       exec (.bootImageVerified dt false false) s = .next (settle s (stage 0xE3)) ∧
       exec (.bootImageVerified dt true true) s =
         .next (settle s { stage 5 with safe := { b.safe with wdAt := some b.up } }) ∧
       (b.pwr.triedOther = false → exec (.bootImageVerified dt true false) s =
         .next (settle s { stage 0xE1 with pwr := { b.pwr with triedOther := true, slot := 1 - b.pwr.slot } })) ∧
       (b.pwr.triedOther = true → exec (.bootImageVerified dt true false) s = .next (settle s (stage 0xE2)))) ∧
     (b.ctl.bootStage = 5 → b.ctl.fwFault = false →
       ∀ ms, (factBad b.fact ms = none →
         exec (.factoryCheckDone dt ms) s = .next (settle s { stage 6 with cal := { b.cal with factoryOk := true } })) ∧
       ∀ x, factBad b.fact ms = some x → exec (.factoryCheckDone dt ms) s = .next (settle s { stage 6 with
         cal := { b.cal with factoryOk := false }
         safe := { b.safe with todo := b.safe.todo ++ [{ at_ := b.now, up := b.up, bit := 24, obj := x, detail := 0 }] } })) ∧
     (b.ctl.bootStage = 6 → b.ctl.fwFault = false →
       (∀ mib, exec (.lpddr5Trained dt true mib) s =
         .next (settle s { b with ctl := { b.ctl with bootStage := 7, lpFitted := true, lpMib := mib % 65536 } })) ∧
       (∀ mib, exec (.lpddr5Trained dt false mib) s =
         .next (settle s { b with ctl := { b.ctl with bootStage := 7, lpFitted := false, lpMib := 0 } }))) ∧
     (b.ctl.bootStage = 7 → b.ctl.fwFault = false →
       exec (.bootComplete dt) s = .next (settle s (bootDone b))) ∧
     (b.ctl.bootStage ≠ 7 → exec (.bootComplete dt) s = .next (settle s b)))) ∧
  (∀ s : State,
     (s.ctl.bootStage = 8 → s.safe.selftest = false → s.ctl.fwFault = false →
       (bootReady s).ctl.bootStage = 0x10 ∧ (bootReady s).ctl.mbxReady = true) ∧
     (s.safe.selftest = true → bootReady s = s))

/-- O30. What reset leaves: the safe state with SAFE_N low and cause BOOT active, no lock and no epoch, the mailboxes
not served, no transaction, no interrupt pending, every configuration object at its reset words, the Playbook idle; kept
are the waiting commands, running time, the factory partition, the levels of the TRIP_N balls, of VDDIO_33 and of
VDD_CORE, the hard latch and the cause of a shutdown, and the test port (R384, R408). Its instructions BYPASS and IDCODE
take effect always and any other only while RESET_N is low, so that with RESET_N high boundary scan sets the level of no
ball; the IDCODE is 0x1106_456B, shifted out from its least significant bit, BYPASS is one bit and its code all ones
(R446; log entry 127). Reset released: the device is out of reset, SAFE still set; a hard trip or a soft shutdown that
came before is an active cause again and holds the boot at stage 0x0F, and otherwise the boot ROM waits at stage 1
(R384, R422, R423). Model's choices: log entries 5 to 8 and 59 (SD_REFCLK is present once reset is released). -/
def Obligations.ResetLeaves : Prop :=
  (∀ s : State,
     let r := resetDevice s
     r.safe.safe = true ∧ r.safe.safeNLow = true ∧ r.safe.active = 1 ∧ r.safe.selftest = true ∧ r.safe.firstCause = 1 ∧
     r.tb.st = .reset ∧ r.tb.epochSet = false ∧ r.ctl.mbxReady = false ∧ r.ctl.fwFault = false ∧ r.ctl.txns = [] ∧
     r.ctl.queue = [] ∧ r.ctl.seq = 1 ∧ r.ctl.irqPendP = 0 ∧ r.ctl.irqPendS = 0 ∧ r.ctl.irqEnP = 0 ∧ r.ctl.irqEnS = 0 ∧
     (∀ k i, cfgObj r k i = resetWords r.fact.mac k i) ∧ r.em = [] ∧ r.tile = [] ∧ r.chan = [] ∧ isIdle r = true ∧
     r.pwr.inReset = true ∧
     r.pending = s.pending ∧ r.up = s.up ∧ r.fact = s.fact ∧ r.tripN = s.tripN ∧ r.pwr.hardLatch = s.pwr.hardLatch ∧
     r.pwr.sdCause = s.pwr.sdCause ∧ r.pwr.io33 = s.pwr.io33 ∧ r.pwr.ioTol = s.pwr.ioTol ∧ r.pwr.coreOk = s.pwr.coreOk ∧ r.tap = s.tap ∧ settle s r = r) ∧
  (∀ (i : TapInstr) (s : State),
     let r := tapCapture (tapSelect i s)
     r.pwr = s.pwr ∧ r.em = s.em ∧ r.tap.cells = s.tap.cells ∧
     (tapActs r = true ↔ i = .bypass ∨ i = .idcode ∨ s.pwr.rstLow = true) ∧
     (tapActs r = false → tapUpdate r = r ∧ r.tap.dr = s.tap.dr) ∧
     ((i = .bypass ∨ i = .idcode ∨ s.pwr.rstLow = false) → ∀ ball, ballLevel r ball = unitLevel r ball) ∧
     (∀ tms tdi, s.tap.st = .updateIr → (∀ x ∈ s.tap.irShift, x = true) → (tapClock tms tdi s).2.tap.ir = .bypass) ∧
     (i = .bypass → r.tap.dr = [false]) ∧
     (i = .idcode → r.tap.dr.length = 32 ∧ ∀ k, k < 32 → r.tap.dr[k]? = some ((0x1106456B : Nat).testBit k)) ∧
     (∀ tdi x l, r.tap.dr = x :: l → (tapShift tdi r).1 = x ∧ (tapShift tdi r).2.tap.dr = l ++ [tdi])) ∧
  (∀ (temp : Int) (s : State),
     let r := releaseReset temp s
     r.pwr.inReset = false ∧ r.safe.safe = s.safe.safe ∧ r.tb.sdPresent = true ∧
     (s.pwr.hardLatch = true → r.ctl.bootStage = 0x0F ∧ r.pwr.lastShut = 2 ∧ r.pwr.hardLatch = decide (1920 ≤ temp) ∧
       { at_ := s.now, up := s.up, bit := 23, obj := 0, detail := 0 : Decision } ∈ r.safe.todo) ∧
     (s.pwr.hardLatch = false → s.pwr.sdCause ≠ 0 → r.ctl.bootStage = 0x0F ∧ r.pwr.lastShut = 1 ∧
       { at_ := s.now, up := s.up, bit := 22, obj := 0, detail := twos 16 s.pwr.sdTemp : Decision } ∈ r.safe.todo) ∧
     (s.pwr.hardLatch = false → s.pwr.sdCause = 0 → r.ctl.bootStage = 1 ∧ r.pwr.lastShut = 0 ∧ r.safe.todo = s.safe.todo))

/-- O31. A missing temperature sample counts, and the fourth in a row is TEMP_IMPLAUSIBLE; a sample is kept with its
extremes, and the fourth at or above 125 °C in a row begins a soft shutdown (R393, R415, R417). SHUTDOWN_ENTER, once
no page write is in progress and the alert has left or 12 µs have passed since the decision, shuts the device down: a
calibration is aborted, the loops stop, the ports go down, the comparators are off and the mailboxes are served no more;
the sensor goes on (R418 to R420). A droop sensor asserting counts one event and slows SYS at
once; its release starts the way back, and the end of the last one is logged; each step up waits until its demand has
been gone for 10 µs (R413, R427). Model's choices: log entries 2 (an assertion of a sensor asserted already, and a release of
one released, change nothing), 42 and 55. -/
def Obligations.TemperatureDroopAndThrottle : Prop :=
  (∀ (dt : Nat) (s b : State), At dt s b →
     exec (.tempSample dt none) s = .next (settle s (
       let x := { b with safe := { b.safe with missing := b.safe.missing + 1 } }
       if 4 ≤ b.safe.missing + 1 then implausible x else x)) ∧
     (∀ x : BitVec 16, exec (.tempSample dt (some x)) s = .next (settle s (sampleTemp (some x.toInt) b))) ∧
     (∀ a, b.pwr.shutAt = some a → b.pwr.nvmNow = none →
       let x := calAbort 6 (if alertLeft b then { b with ctl := { b.ctl with bg := [] } }
         else { reachUp (a + 12 * fineUs) b with ctl := { b.ctl with bg := [] } })
       exec (.shutdownEnter dt) s = .next (settle s { x with
         pwr := { x.pwr with shut := true, shutAt := none, sdCause := 1, sdTemp := x.pwr.tempNow, nvmQ := [] }
         tb := { x.tb with st := .reset, refPresent := false, spll := {}, npll := {}, lockAt := none }
         sw := { x.sw with ports := x.sw.ports.map (fun (p : Nat × Port) => (p.1, { p.2 with link := false })) }
         rx := x.rx.map (fun (p : Nat × Rx) => (p.1, { p.2 with out := false, active := false, settling := false }))
         mon := []
         ctl := { x.ctl with mbxReady := false } }))) ∧
  (∀ (dt : Nat) (x : BitVec 16) (s b : State), AtAny dt s b → b.pwr.inReset = false → b.pwr.shut = true →
     exec (.tempSample dt (some x)) s = .next (settle s { b with pwr := { b.pwr with
       tempNow := x.toInt, tempMax := max b.pwr.tempMax x.toInt, tempMin := min b.pwr.tempMin x.toInt
       samples := (x.toInt :: b.pwr.samples).take 1000 } })) ∧
  (∀ (dt : Nat) (s b : State), At dt s b →
     (b.pwr.droop1 = false → exec (.droopAssert dt 0) s = .next (settle s (sysAdjust { b with pwr := { b.pwr with
       droop1 := true, droopEvents := satAdd 32 b.pwr.droopEvents 1
       droopAt := if b.pwr.droop2 then b.pwr.droopAt else b.up
       droopDeep := max (if b.pwr.droop2 then b.pwr.droopDeep else 0) 1 } }))) ∧
     (b.pwr.droop2 = false → exec (.droopAssert dt 1) s = .next (settle s (sysAdjust { b with pwr := { b.pwr with
       droop2 := true, droopEvents := satAdd 32 b.pwr.droopEvents 1
       droopAt := if b.pwr.droop1 then b.pwr.droopAt else b.up
       droopDeep := max (if b.pwr.droop1 then b.pwr.droopDeep else 0) 2 } }))) ∧
     (b.pwr.droop1 = true → b.pwr.droop2 = true →
       exec (.droopDeassert dt 0) s = .next (settle s (sysAdjust { b with pwr := { b.pwr with droop1 := false } })) ∧
       exec (.droopDeassert dt 1) s = .next (settle s (sysAdjust { b with pwr := { b.pwr with droop2 := false } }))) ∧
     (b.pwr.droop1 = true → b.pwr.droop2 = false →
       let x := sysAdjust { b with pwr := { b.pwr with droop1 := false } }
       exec (.droopDeassert dt 0) s =
         .next (settle s (logEvent 4 (logDetail x.pwr.droopDeep (wholeUs (x.up - x.pwr.droopAt))) x))) ∧
     (b.pwr.droop2 = true → b.pwr.droop1 = false →
       let x := sysAdjust { b with pwr := { b.pwr with droop2 := false } }
       exec (.droopDeassert dt 1) s =
         .next (settle s (logEvent 4 (logDetail x.pwr.droopDeep (wholeUs (x.up - x.pwr.droopAt))) x))) ∧
     (b.pwr.droop1 = true → exec (.droopAssert dt 0) s = .next (settle s b)) ∧
     (b.pwr.droop2 = true → exec (.droopAssert dt 1) s = .next (settle s b)) ∧
     (b.pwr.droop1 = false → exec (.droopDeassert dt 0) s = .next (settle s b)) ∧
     (b.pwr.droop2 = false → exec (.droopDeassert dt 1) s = .next (settle s b)) ∧
     (∀ x, b.pwr.div = 2 → b.pwr.relAt = some x →
       exec (.throttleStepUp dt) s = .next (settle s (setDiv 1 (reachUp (x + 10 * fineUs) b)))) ∧
     (∀ x, b.pwr.div = 1 → b.pwr.relAt1 = some x →
       exec (.throttleStepUp dt) s = .next (settle s (setDiv 0 (reachUp (x + 10 * fineUs) b)))))

/-- O32. What a temperature sample leaves: the present temperature, the extremes over it, its place in the last 1,000,
the run of hot samples, none missing; from the fourth sample in a row at or above 125 °C on, a soft shutdown is in
progress (R415, R417). A demand for a deeper SYS divider is met at once, and no demand's end speeds SYS up by itself
(R413, R414). Model's choices: log entry 55. -/
def Obligations.SampleAndThrottleRules : Prop :=
  (∀ (x : Int) (s : State),
     let r := sampleTemp (some x) s
     r.pwr.tempNow = x ∧ r.pwr.tempMax = max s.pwr.tempMax x ∧ r.pwr.tempMin = min s.pwr.tempMin x ∧
     r.pwr.samples = (x :: s.pwr.samples).take 1000 ∧ r.pwr.hot = (if 2000 ≤ x then s.pwr.hot + 1 else 0) ∧
     r.safe.missing = 0 ∧ (2000 ≤ x → 3 ≤ s.pwr.hot → r.pwr.shutAt.isSome = true)) ∧
  (∀ s : State, (sysAdjust s).pwr.div = max s.pwr.div (sysDemand s) ∧
     (s.pwr.droop2 = true → 2 ≤ (sysAdjust s).pwr.div) ∧ (s.pwr.droop1 = true → 1 ≤ (sysAdjust s).pwr.div))

/-- O33. A page write that fails is tried once more, and counted and logged when it fails again; one that is verified
counts, takes its effect, and the next one queued starts, lowest priority number first, unless a soft shutdown has
begun: none starts from then on. LOG_FLUSH, 1 s after the first record of the log buffer that no write holds, queues what
the buffer holds, at most a page; JOURNAL_MIRROR_WRITE, 40 ms after the
mirror write before, queues the journal entries that have their digests, or waits for the one in progress (R313, R314,
R418, R424, R426, R427). Model's choices: log entries 42, 54 and 132. -/
def Obligations.PageWrites : Prop :=
  ∀ (dt : Nat) (j : NvmJob) (s b : State), At dt s b →
    (b.pwr.nvmNow = some j → b.pwr.nvmRetry = false →
      exec (.mramPageWriteDone dt false) s = .next (settle s { b with pwr := { b.pwr with nvmRetry := true } })) ∧
    (b.pwr.nvmNow = some j → b.pwr.nvmRetry = true →
      let x := pageFail j { b with pwr := { b.pwr with nvmNow := none, nvmRetry := false } }
      exec (.mramPageWriteDone dt false) s =
        .next (settle s (if x.pwr.shutAt.isSome then { x with pwr := { x.pwr with nvmQ := [] } } else nvmKick x))) ∧
    (b.pwr.nvmNow = some j →
      let x := pageDone j { b with pwr := { b.pwr with nvmNow := none, nvmRetry := false, pagesWritten := satAdd 64 b.pwr.pagesWritten 1 } }
      exec (.mramPageWriteDone dt true) s =
        .next (settle s (if x.pwr.shutAt.isSome then { x with pwr := { x.pwr with nvmQ := [] } } else nvmKick x))) ∧
    (∀ x, b.pwr.logBuf[logQueued b]? = some x →
      exec (.logFlush dt) s = .next (settle s (nvmPut (.log (min (b.pwr.logBuf.length - logQueued b) 128))
        (reachUp (x.up + 1000 * fineMs) b)))) ∧
    (b.pwr.shutAt.isSome = true → (nvmPut j b).pwr.nvmNow = b.pwr.nvmNow) ∧
    (let x := reachUp (b.ctl.mirrorAt + 40 * fineMs) b
     let y := { x with ctl := { x.ctl with mirrorAt := x.up } }
     (mirrorBusy b = false →
       exec (.journalMirrorWrite dt) s = .next (settle s ((chunks 64 4096 (mirrorable b)).foldl
         (fun a p => nvmPut (.journal ((p.reverse.headD {}).jseq)) a) y))) ∧
     (mirrorBusy b = true →
       exec (.journalMirrorWrite dt) s = .next (settle s { y with ctl := { y.ctl with mirrorWait := true } })))

/-! ### The timebase (ch. 02) -/

/-- O34. A lock window with the reference present: while a returned reference is judged, a count within EXP ± 8 ends the
judgement with re-acquisition and another marks it bad; while acquiring, a count within EXP ± 2 counts and the fourth in
a row declares lock, and another starts the count anew; while locked, a count beyond EXP ± 8 is a loss of lock (R39,
R40, R55, R58). The SPLL and the NPLL lock on four good windows in a row and lose lock on one bad one; the ports of the
switch go down with the NPLL (R40, R368, R453). The reference counts present: a start-up searches, a coast judges it, a
frequency fault re-acquires. Lost, a locked loop coasts from its last good edge; a start-up waits again, and a coast
that was about to end goes on under its timer (R41, R55, R58). A search that ends acquires with the band it found (R42).
No lock 5 ms after a re-acquiring command starts a band search and ends the command NOT_LOCKED (R37). Model's choices:
log entries 10, 15, 18, 51, 69, 103 and 154 (the last good edge of a failed window lies at its end). -/
def Obligations.LockAndReference : Prop :=
  (∀ (dt count : Nat) (phase : Int) (loop : Nat) (s b : State), At dt s b →
     let e := lockExp (refHz b)
     let tb := fun (t : Tb) => { b with tb := t }
     let word := { b.tb with loopWord := loop % 1024 }
     (b.tb.refPresent = true → b.tb.judging = true →
       exec (.lockWindowEnd dt 0 count phase loop) s = .next (settle s (tb (if within count e 8
         then { b.tb with judging := false, refBad := false, st := .reacquire, good := 0 } else { b.tb with refBad := true })))) ∧
     (b.tb.refPresent = true → b.tb.judging = false → (b.tb.st = .acquire ∨ b.tb.st = .reacquire) →
       (within count e 2 = true → b.tb.good = 3 →
         exec (.lockWindowEnd dt 0 count phase loop) s = .next (settle s (romLocked (declareLock phase (tb word))))) ∧
       (within count e 2 = true → b.tb.good < 3 →
         exec (.lockWindowEnd dt 0 count phase loop) s = .next (settle s (tb { word with good := b.tb.good + 1 }))) ∧
       (within count e 2 = false →
         exec (.lockWindowEnd dt 0 count phase loop) s = .next (settle s (tb { word with good := 0 })))) ∧
     (b.tb.refPresent = true → b.tb.judging = false → (b.tb.st = .locked ∨ b.tb.st = .slewing) →
       (within count e 8 = true → exec (.lockWindowEnd dt 0 count phase loop) s = .next (settle s (tb word))) ∧
       (within count e 8 = false →
         exec (.lockWindowEnd dt 0 count phase loop) s = .next (settle s (goCoast 0 (some loop) b)))) ∧
     (b.tb.sdPresent = true →
       (b.tb.spll.lock = true → within count 4915 8 = false → exec (.lockWindowEnd dt 1 count phase loop) s =
         .next (settle s (tb { b.tb with spll := { lock := false, good := 0, coast := true } }))) ∧
       (b.tb.spll.lock = false → within count 4915 2 = true → b.tb.spll.good = 3 →
         exec (.lockWindowEnd dt 1 count phase loop) s =
           .next (settle s (romKick (tb { b.tb with spll := { lock := true, good := 0, coast := false } })))) ∧
       (b.tb.npll.lock = false → within count 8448 2 = true → b.tb.npll.good = 3 →
         exec (.lockWindowEnd dt 2 count phase loop) s =
           .next (settle s (tb { b.tb with npll := { lock := true, good := 0, coast := false } }))) ∧
       (b.tb.npll.lock = true → within count 8448 8 = false →
         exec (.lockWindowEnd dt 2 count phase loop) s =
           .next (settle s (portDown 1 (portDown 0 (tb { b.tb with npll := { lock := false, good := 0, coast := true } }))))))) ∧
  (∀ (dt : Nat) (s b : State), At dt s b →
     (b.tb.refPresent = false →
       (b.tb.st = .reset → exec (.refPresent dt) s =
         .next (settle s { b with tb := { b.tb with refPresent := true, good := 0, st := .search } })) ∧
       (b.tb.st = .coast → exec (.refPresent dt) s =
         .next (settle s { b with tb := { b.tb with refPresent := true, good := 0, judging := true } })) ∧
       (b.tb.st = .fault → exec (.refPresent dt) s =
         .next (settle s { b with tb := { b.tb with refPresent := true, good := 0, st := .reacquire, judging := true } }))) ∧
     (∀ ago mean, b.tb.refPresent = true →
       let x := { b with tb := { b.tb with refPresent := false, good := 0, judging := false } }
       ((b.tb.st = .locked ∨ b.tb.st = .slewing) →
         exec (.refLoss dt ⟨ago, mean⟩) s = .next (settle s (goCoast ago (some mean) x))) ∧
       (b.tb.st = .reacquire → b.tb.holdAt.isSome = true → b.tb.judging = false →
         exec (.refLoss dt ⟨ago, mean⟩) s = .next (settle s { x with tb := { x.tb with st := .coast, loopWord := mean % 1024 } })) ∧
       (b.tb.st = .search → b.tb.epochSet = false →
         exec (.refLoss dt ⟨ago, mean⟩) s = .next (settle s { x with tb := { x.tb with st := .reset } })) ∧
       (b.tb.st = .coast → exec (.refLoss dt ⟨ago, mean⟩) s = .next (settle s x))) ∧
     (∀ (band : Fin 64) (loop : Nat), b.tb.st = .search → b.tb.refPresent = true →
       exec (.bandSearchDone dt band loop) s = .next (settle s { b with tb := { b.tb with
         st := .acquire, vcoBand := band, bandSlot := 15, loopWord := loop % 1024, good := 0 } })) ∧
     (∀ a, b.tb.reacqAt = some a →
       let x := reachUp (a + 5 * fineMs) b
       exec (.tpllReacqTimeout dt) s = .next (settle s (bgDone 1 true stNotLocked [] { x with tb := { x.tb with
         reacqAt := none, st := .search, good := 0, judging := false, lockAt := none } }))))

/-- O35. A loss of lock: COAST, one more coast counted, the holdover timer running from its first start, the last good
edge `ago` back, the loop word frozen at its mean, REF_LOSS decided with HOLDOVER_US, and every pixel with a window open
since marked COAST (R55, R56). The AON calibration is frozen too, an AON period that ended after the last good edge left
out (R54). -/
def Obligations.CoastBegins : Prop :=
  ∀ (ago mean : Nat) (s : State),
    let r := goCoast ago (some mean) s
    r.tb.loopWord = mean % 1024 ∧
    (s.up < s.tb.aonAt + ago → r.tb.aonCal = aonMean (aonLast s.tb.aonHist.dropLast)) ∧
    (s.tb.aonAt + ago ≤ s.up → r.tb.aonCal = s.tb.aonCal) ∧
    r.tb.st = .coast ∧ r.tb.coast = true ∧ r.tb.coastCount = satAdd 32 s.tb.coastCount 1 ∧ r.tb.lastGood = s.now - ago ∧
    r.tb.holdAt = some (s.tb.holdAt.getD s.up) ∧
    r.safe.todo = s.safe.todo ++ [{ at_ := s.now, up := s.up, bit := 14, obj := 0, detail := holdoverUs s }] ∧
    (∀ ch e, (chanGet s ch).pix.winEnd = some e → s.now - ago < e →
      (chanGet r ch).pix.coast = true ∧ (chanGet r ch).pix.opened = (chanGet s ch).pix.opened)

/-- O36. A count more than 1,000 ppm off its expected value, with the epoch running, is a frequency fault, over the
reference while it is present and over the calibrated AON oscillator while it is not; one within is nothing (R53, R54).
An AON period while locked enters the calibration; the fourth bad one in a row is cause AON_FAULT. No AON edge in time
is AON_FAULT too (R54, R388). The end of holdover is cause HOLDOVER (R55); lock held for 10 ms after a fault ends
TPLL_FREQ (R55, R377). A jump of the reference of at most 50 ps that no notice announces, or one while not locked, does
nothing; a larger one on a device that is no follower moves PHASE_OFS by it, wrapped into half a reference period, and
in FOLLOW mode the slew begins (R61, R454); on a follower the announced step, or an unannounced one, which is counted
and TEAM_SKEW, is captured, and applied at once in a quiet interval, as idle is outside a CAL.ZERO window (R252), else
held with TEAM_STALE (R282, R283). The spread lead is transferred every 16 µs, 40 ticks in the 0.25 % down mode and 80
in the 0.5 % one (R50). The loss of SD_REFCLK leaves both loops unlocked and coasting where they were locked; its return
is counted (R63, R453). Model's choices: log entries 2, 10 (a loop that slews counts as locked), 19, 22, 23, 59, 138 (a
notice is held no longer after a jump that differs from it) and 140. -/
def Obligations.FrequencyPhaseAndSpread : Prop :=
  (∀ (dt : Nat) (s b : State), At dt s b →
     (∀ count, b.tb.refPresent = true → b.tb.epochSet = true →
       (ppmOver count (freqExp (refHz b)) = true → exec (.freqCheckWindow dt count) s =
         .next (settle s (freqFault (errPpm count (freqExp (refHz b))) b))) ∧
       (ppmOver count (freqExp (refHz b)) = false → exec (.freqCheckWindow dt count) s = .next (settle s b))) ∧
     (∀ count, b.tb.refPresent = false → b.tb.epochSet = true →
       (ppmOver count ((4 * b.tb.aonCal + 2048) / 4096) = true → exec (.aonFreqCheck dt count) s =
         .next (settle s (freqFault (errPpm count ((4 * b.tb.aonCal + 2048) / 4096)) b))) ∧
       (ppmOver count ((4 * b.tb.aonCal + 2048) / 4096) = false → exec (.aonFreqCheck dt count) s = .next (settle s b))) ∧
     (∀ p, tpllLocked b = true →
       let l := (b.tb.aonHist ++ [p]).drop (b.tb.aonHist.length - 64)
       let x := { b.tb with aonHist := l, aonCal := aonMean (aonLast l), aonAt := b.up }
       (aonOut p = true → b.tb.aonBad ≠ 3 → exec (.aonPeriod dt p) s =
         .next (settle s { b with tb := { x with aonBad := b.tb.aonBad + 1, aonGood := 0 } })) ∧
       (aonOut p = true → b.tb.aonBad = 3 → exec (.aonPeriod dt p) s =
         .next (settle s { b with
           tb := { x with aonBad := 4, aonGood := 0 }
           safe := { b.safe with todo := b.safe.todo ++ [{ at_ := b.now, up := b.up, bit := 11, obj := 0, detail := (rndDiv ((p * 500 : Nat) : Int) 4096).toNat }] } })) ∧
       (aonOut p = false → b.tb.aonGood < 63 → exec (.aonPeriod dt p) s =
         .next (settle s { b with tb := { x with aonBad := 0, aonGood := b.tb.aonGood + 1 } })) ∧
       (aonOut p = false → 63 ≤ b.tb.aonGood → exec (.aonPeriod dt p) s =
         .next (settle s (causeGone 11 { b with tb := { x with aonBad := 0, aonGood := 64 } })))) ∧
     exec (.aonEdgeTimeout dt) s = .next (settle s { b with
       tb := { b.tb with aonGood := 0 }
       safe := { b.safe with todo := b.safe.todo ++ [{ at_ := b.now, up := b.up, bit := 11, obj := 0, detail := 100000000 }] } }) ∧
     (∀ a, b.tb.holdAt = some a → b.safe.active.testBit 15 = false →
       let x := reachUp (a + holdoverUs b * fineUs) b
       exec (.holdoverExpire dt) s = .next (settle s { x with safe := { x.safe with
         todo := x.safe.todo ++ [{ at_ := x.now, up := x.up, bit := 15, obj := 0, detail := 0 }] } })) ∧
     (∀ a, b.tb.lockAt = some a → b.tb.freqHold = true → tpllLocked b = true →
       let x := reachUp (a + 10 * fineMs) b
       exec (.tpllFreqHoldEnd dt) s = .next (settle s (causeGone 13 { x with tb := { x.tb with freqHold := false } })))) ∧
  (∀ (dt : Nat) (s b : State), At dt s b →
     (∀ d : Int, (tpllLocked b = false ∨ (50 * 4096 ≥ d.natAbs * 500 ∧ (isFollower b = false ∨ announced d b = false))) → exec (.phaseJump dt d) s = .next (settle s b)) ∧
     (∀ d : Int, tpllLocked b = true → 50 * 4096 < d.natAbs * 500 → isFollower b = false →
       let p := wrapPhase (refHz b) (b.tb.phaseOfs + d)
       (followMode b = false → exec (.phaseJump dt d) s = .next (settle s { b with tb := { b.tb with phaseOfs := p } })) ∧
       (followMode b = true → exec (.phaseJump dt d) s = .next (settle s { b with tb := { b.tb with
         phaseOfs := p, slewAt := if b.tb.st = .slewing then b.tb.slewAt else b.now
         st := if p = 0 then .locked else .slewing } }))) ∧
     (∀ d x : Int, tpllLocked b = true → isFollower b = true → b.team.stepDelta = some x → (x - d).natAbs * 500 ≤ 50 * 4096 →
       let y := { b with
         tb := { b.tb with phaseOfs := wrapPhase (refHz b) (b.tb.phaseOfs + d), stepWait := some (b.tb.stepWait.getD 0 + x) }
         team := { b.team with stepDelta := none } }
       exec (.phaseJump dt d) s = .next (settle s (if stepsNow y || quietNow y then captureStep y
         else markTeamStale { y with team := { y.team with stepPending := true, staleAt := some (y.team.staleAt.getD y.now) } }))) ∧
     (∀ d : Int, tpllLocked b = true → isFollower b = true → announced d b = false → 50 * 4096 < d.natAbs * 500 →
       let u : State := { b with
         team := { b.team with unannounced := satAdd 16 b.team.unannounced 1 }
         safe := { b.safe with todo := b.safe.todo ++ [{ at_ := b.now, up := b.up, bit := 27, obj := devNum b, detail := twos 48 (watchDev b) }] } }
       let y := { u with
         tb := { u.tb with phaseOfs := wrapPhase (refHz b) (b.tb.phaseOfs + d), stepWait := some (b.tb.stepWait.getD 0 + d) }
         team := { u.team with stepDelta := none } }
       exec (.phaseJump dt d) s = .next (settle s (if stepsNow y || quietNow y then captureStep y
         else markTeamStale { y with team := { y.team with stepPending := true, staleAt := some (y.team.staleAt.getD y.now) } }))) ∧
     (∀ m, cfgF b .mode 0 0 8 6 = m → (m = 1 ∨ m = 2) → b.tb.epochSet = true →
       let x := reach (b.tb.ssAt + (16 * fineUs : Nat)) b
       exec (.ssTransfer dt) s = .next (settle s { x with tb := { x.tb with
         ssAt := b.tb.ssAt + (16 * fineUs : Nat), ssTicks := b.tb.ssTicks + 40 * m } })) ∧
     (exec (.sdRefclkLoss dt) s = .next (settle s (portDown 1 (portDown 0 { b with tb := { b.tb with
       sdPresent := false
       spll := { lock := false, good := 0, coast := b.tb.spll.coast || b.tb.spll.lock }
       npll := { lock := false, good := 0, coast := b.tb.npll.coast || b.tb.npll.lock } } })))) ∧
     exec (.sdRefclkReturn dt) s = .next (settle s { b with tb := { b.tb with sdPresent := true } }))

/-- O37. A rising edge of HUDDLE_IN, enabled and with the epoch set, restarts the dividers at once while idle, after the
windows of CAL.ZERO that are open (R263), and
while running waits for a quiet interval, which on a follower is counted and TEAM_LINK (R45, R281). A chain follower that
has restarted drives HUDDLE_OUT 16 ticks after its first tick; the master drives it when its time has come, unless it runs,
and restarts with its team; AUTO_CAL follows 1 ms later (R279 to R281). A quiet interval takes what waits for it, while
idle or where nothing happens in the next 200 ns (R47). Team messages act where the hop they come over is up, and go on to
the other side of the device (R273, R274). A follower that hears the device above it with its own number less one and its
own size answers, and the team is formed; otherwise TEAM_LINK; it only relays what comes from below. The master counts the
answers of the other members, and the team is formed with the last of them (R270). FORM goes on with the identity it
carries (R273). It stages the epoch value it hears, keeps the step it
is told of, and its offset and the time of a calibration (R261, R279, R282). A member's state is kept by member, and one
that newly enters the safe state is TEAM_SAFE (R284). Arming and trigger times are kept (R187). A hop
that goes down counts one drop and is TEAM_LINK for the member it leads into; one that recovers is up again, and with the
team formed and every hop up TEAM_LINK is gone (R274). A skew exchange on the upstream hop enters the mean of the last
1,024 with ((w1 − a0) − (a3 − w2))/2 less the hop's constant; beyond its limit from the reference it is TEAM_SKEW once, and
within it the cause is gone; the watch of the downstream hop is that device's (R275, R278). Model's choices: log entries 2,
66 (a staged EPOCH enters no set), 67, 68, 70, 83, 106 (an edge before the first epoch), 107, 108, 110 (the calibration
bit of STATE) and 137 (TEAM_OFS_VALID stands until the restart). -/
def Obligations.TeamEvents : Prop :=
  (∀ (dt : Nat) (s b : State), At dt s b →
     (cfgF b .mode 0 0 3 3 ≠ 0 → b.tb.epochSet = true →
       (stepsNow b = true → exec (.huddleIn dt) s = .next (settle s (huddle b))) ∧
       (isIdle b = true → zeroOpen b = true →
         exec (.huddleIn dt) s = .next (settle s { b with tb := { b.tb with restart := true } })) ∧
       (isIdle b = false → isFollower b = false →
         exec (.huddleIn dt) s = .next (settle s { b with tb := { b.tb with restart := true } })) ∧
       (isIdle b = false → isFollower b = true → exec (.huddleIn dt) s = .next (settle s { b with
         tb := { b.tb with restart := true }
         team := { b.team with huddleRunning := satAdd 16 b.team.huddleRunning 1 }
         safe := { b.safe with todo := b.safe.todo ++ [{ at_ := b.now, up := b.up, bit := 26, obj := devNum b, detail := devNum b }] } }))) ∧
     ((cfgF b .mode 0 0 3 3 = 0 ∨ b.tb.epochSet = false) → exec (.huddleIn dt) s = .next (settle s b)) ∧
     (∀ a, b.team.huddleAt = some a →
       let r := reachUp a b
       let x := { r with team := { r.team with huddleAt := none } }
       let y := huddle (out .huddleOut x)
       (isMaster x = false → exec (.huddleOutDrive dt) s = .next (settle s (out .huddleOut x))) ∧
       (isMaster x = true → isIdle x = false → exec (.huddleOutDrive dt) s = .next (settle s x)) ∧
       (isMaster b = true → isIdle b = true → zeroOpen r = true → exec (.huddleOutDrive dt) s = .next (settle s r)) ∧
       (isMaster x = true → isIdle x = true → zeroOpen r = false → exec (.huddleOutDrive dt) s =
         .next (settle s (if cfgF y .team 0 0 60 60 = 1 then
           { y with team := { y.team with autoCalAt := some (y.up + fineMs) } } else y)))) ∧
     (∀ frame, isIdle b = true → exec (.quietIntervalStart dt frame) s =
       .next (settle s (if zeroOpen b then b else slewStep (phaseSteps b)))) ∧
     (∀ frame, isIdle b = false → quietNow b = true →
       exec (.quietIntervalStart dt frame) s = .next (settle s (slewStep (if frame then quietFrame b else b)))) ∧
     (∀ frame, isIdle b = false → quietNow b = false → exec (.quietIntervalStart dt frame) s = .next (settle s b))) ∧
  (∀ (dt : Nat) (s b : State), At dt s b → teamEn b = true →
     (b.team.uplink = true →
       (∀ dev size id : Nat, isFollower b = true →
         let x := nolgilRelay true 0 [(dev : Int), size, id] b
         (dev + 1 = devNum b → size = teamSizeM1 b → exec (.nolgilForm dt true dev ⟨size, id⟩) s =
           .next (settle s (teamLinkGone (out (.nolgil 0 [devNum b, teamSizeM1 b, b.fact.deviceId])
             { x with team := { x.team with formed := true } })))) ∧
         (devNum b < dev + 1 → exec (.nolgilForm dt true dev ⟨size, id⟩) s = .next (settle s { x with
           team := { x.team with formed := false }
           safe := { x.safe with todo := x.safe.todo ++ [{ at_ := x.now, up := x.up, bit := 26, obj := devNum b, detail := devNum b }] } })) ∧
         (size ≠ teamSizeM1 b → exec (.nolgilForm dt true dev ⟨size, id⟩) s = .next (settle s { x with
           team := { x.team with formed := false }
           safe := { x.safe with todo := x.safe.todo ++ [{ at_ := x.now, up := x.up, bit := 26, obj := devNum b, detail := devNum b }] } }))) ∧
       (∀ v : Nat, isFollower b = true →
         exec (.nolgilEpoch dt v) s = .next (settle s (stageEpoch v (nolgilRelay true 3 [v] b)))) ∧
       (∀ d, isFollower b = true →
         let x := nolgilRelay true 4 [d] b
         exec (.nolgilStepNotice dt d) s = .next (settle s { x with team := { x.team with stepDelta := some d } })) ∧
       (∀ tt ofs o, isFollower b = true → ofs[devNum b - 1]? = some o →
         let x := nolgilRelay true 5 (tt :: ofs) b
         exec (.nolgilCalApply dt tt ofs) s =
           .next (settle s { x with team := { x.team with calApply := some (o, tt + teamOfs b) } })) ∧
       (∀ tt,
         let x := nolgilRelay true 1 [tt] b
         exec (.nolgilArm dt tt) s = .next (settle s { x with team := { x.team with armAt := b.team.armAt ++ [tt + teamOfs b] } }))) ∧
     (b.team.uplink = false →
       (∀ dev f, exec (.nolgilForm dt true dev f) s = .next (settle s b)) ∧
       (∀ v, exec (.nolgilEpoch dt v) s = .next (settle s b)) ∧
       (∀ d, exec (.nolgilStepNotice dt d) s = .next (settle s b)) ∧
       (∀ tt ofs, exec (.nolgilCalApply dt tt ofs) s = .next (settle s b)) ∧
       (∀ tt, exec (.nolgilArm dt tt) s = .next (settle s b))) ∧
     (b.team.downlink = true → ∀ dev size id : Nat,
       let x := nolgilRelay false 0 [(dev : Int), size, id] b
       (isFollower b = true → exec (.nolgilForm dt false dev ⟨size, id⟩) s = .next (settle s x)) ∧
       (isFollower b = false → (size ≠ teamSizeM1 b ∨ dev = 0 ∨ teamSizeM1 b < dev) →
         exec (.nolgilForm dt false dev ⟨size, id⟩) s = .next (settle s x)) ∧
       (isFollower b = false → size = teamSizeM1 b → dev ≠ 0 → dev ≤ teamSizeM1 b →
         let l := insBy (fun d => d) dev (b.team.heard.filter (fun d => d != dev))
         exec (.nolgilForm dt false dev ⟨size, id⟩) s = .next (settle s (teamLinkGone { x with
           team := { x.team with heard := l, formed := b.team.formed || decide (l.length = teamSizeM1 b) } })))) ∧
     (b.team.downlink = false → ∀ dev f, exec (.nolgilForm dt false dev f) s = .next (settle s b)) ∧
     (∀ (dev : Fin 16) tt, dev.val ≠ devNum b →
       let x := nolgilRelay (sideOf b dev) 2 [dev.val, tt] b
       (hopOpen b (sideOf b dev) = true → exec (.nolgilTrigger dt dev tt) s =
         .next (settle s { x with team := { x.team with trigs := x.team.trigs ++ [(dev.val, tt)] } })) ∧
       (hopOpen b (sideOf b dev) = false → exec (.nolgilTrigger dt dev tt) s = .next (settle s b))) ∧
     (∀ (dev : Fin 16) (lk co id_ sf ca : Bool) (cause : Nat), dev.val ≠ devNum b → hopOpen b (sideOf b dev) = true →
       let x := nolgilRelay (sideOf b dev) 6 [(dev.val : Int), b2n lk, b2n co, b2n id_, b2n sf, b2n ca, cause] b
       let y := { x with team := { x.team with
         peerSafe := hopMask dev sf b.team.peerSafe, peerCoast := hopMask dev co b.team.peerCoast
         peerIdle := hopMask dev id_ b.team.peerIdle, peerLock := hopMask dev lk b.team.peerLock
         peerCal := hopMask dev ca b.team.peerCal } }
       let z := if pathCoast y && !pathCoast b then markTeamCoast y
         else if pathCoast b && !pathCoast y then { y with team := { y.team with coastEnd := b.now } } else y
       (sf = true → b.team.peerSafe.testBit dev = false → exec (.nolgilState dt dev lk co ⟨id_, ca⟩ sf cause) s =
         .next (settle s { z with safe := { z.safe with todo := z.safe.todo ++ [{ at_ := z.now, up := z.up, bit := 28, obj := dev, detail := cause }] } })) ∧
       ((sf = false ∨ b.team.peerSafe.testBit dev = true) → exec (.nolgilState dt dev lk co ⟨id_, ca⟩ sf cause) s =
         .next (settle s (if z.team.peerSafe = 0 then causeGone 28 z else z)))) ∧
     (∀ (dev : Fin 16) lk co id_ sf ca cause, (dev.val = devNum b ∨ hopOpen b (sideOf b dev) = false) →
       exec (.nolgilState dt dev lk co ⟨id_, ca⟩ sf cause) s = .next (settle s b))) ∧
  (∀ (dt : Nat) (s b : State), At dt s b → teamEn b = true →
     (b.team.uplink = true → exec (.hopDown dt true) s = .next (settle s { b with
       team := { b.team with uplink := false, hopUp := hopMask (devNum b) false b.team.hopUp
                             linkDrops := satAdd 16 b.team.linkDrops 1 }
       safe := { b.safe with todo := b.safe.todo ++ [{ at_ := b.now, up := b.up, bit := 26, obj := devNum b, detail := devNum b }] } })) ∧
     (b.team.downlink = true → exec (.hopDown dt false) s = .next (settle s { b with
       team := { b.team with downlink := false, hopUp := hopMask (devNum b + 1) false b.team.hopUp
                             linkDrops := satAdd 16 b.team.linkDrops 1 }
       safe := { b.safe with todo := b.safe.todo ++ [{ at_ := b.now, up := b.up, bit := 26, obj := devNum b + 1, detail := devNum b + 1 }] } })) ∧
     (exec (.hopUp dt true) s = .next (settle s (teamLinkGone { b with
       team := { b.team with uplink := true, hopUp := hopMask (devNum b) true b.team.hopUp } }))) ∧
     (exec (.hopUp dt false) s = .next (settle s (teamLinkGone { b with
       team := { b.team with downlink := true, hopUp := hopMask (devNum b + 1) true b.team.hopUp } }))) ∧
     (∀ est, exec (.skewWatchExchange dt false est) s = .next (settle s b)) ∧
     (∀ est, b.team.formed = false → exec (.skewWatchExchange dt true est) s = .next (settle s b)) ∧
     (∀ a0 w1 w2 a3 : Int, b.team.formed = true →
       let est := (w1 - a0) - (a3 - w2) - 2 * hopAsym b (devNum b)
       let x := { b with team := { b.team with watch := (est :: b.team.watch).take 1024 } }
       let far := x.team.watchHas && watchFar x
       let act := exec (.skewWatchExchange dt true ⟨a0, w1, w2, a3⟩) s
       (far = true → b.team.watchAlarm = false → act = .next (settle s { x with
         team := { x.team with watchAlarm := true, skewCount := satAdd 16 x.team.skewCount 1 }
         safe := { x.safe with todo := x.safe.todo ++ [{ at_ := x.now, up := x.up, bit := 27, obj := devNum b, detail := twos 48 (watchDev x) }] } })) ∧
       (far = true → b.team.watchAlarm = true → act = .next (settle s x)) ∧
       (far = false → act =
         .next (settle s (causeGone 27 { x with team := { x.team with watchAlarm := false } })))))

/-! ### Calibration (ch. 09) -/

/-- O38. STANDBY loaded waits for its step, and while idle the step follows at once (R251, R252); after 1 s of waiting
CAL_STALE is decided and open pixels carry it (R254). A tile that a calibration asked for leaves service once its last
post-window has closed and its emitter's last edge has launched, and the unit measures once none is awaited (R256).
CAL.LIN judges the tiles of a pass; a tile that has not passed after 50 ms fails and rejoins (R257). A calibration shot
is fired while its block has shots left, SHOT_PERIOD_US after the one before; a full block is judged once its gates are
over, and repeated while a channel lacks events and firing time is left; 2 s end it (R260). On the master of a team
calibration the members' 64 values, each the sum of one hop measurement on each hop from the master on, are judged: with
none failing the apply time 100 ms ahead is sent with every member's offset, and otherwise the calibration fails with
cause 9; at the apply time the new TEAM_OFS waits for the next step, where R248 leaves room for it with every EM_OFS in
force, pending or awaiting its boundary (R248, R261, R276). A follower keeps the mean of its own hop's measurements, of
((w1 − a0) − (a3 − w2))/2 less the hop's constant (R275, R286). 1 ms after a Huddle an AUTO_CAL master starts CAL.TEAM
where it would be accepted (R280). Model's choices: log entries 81, 82, 84, 109 and 110. -/
def Obligations.Calibrations : Prop :=
  (∀ (dt : Nat) (s b : State), At dt s b →
     (b.cal.loading = true → 5 ≤ b.ctl.bootStage → b.ctl.fwFault = false →
       let x := { b with cal := { b.cal with loading := false, loadedAt := some b.up, bandPending := b.cal.loadBand } }
       exec (.calStandbyLoaded dt) s = .next (settle s (if isIdle b then calStep x else x))) ∧
     (∀ a, b.cal.loadedAt = some a → b.cal.stale = false →
       let x := reachUp (a + 1000 * fineMs) b
       let mark := fun (p : Nat × Chan) => if p.2.pix.opened then (p.1, { p.2 with pix := { p.2.pix with calStale := true } }) else p
       exec (.calStaleTimeout dt) s = .next (settle s { x with
         chan := x.chan.map mark, cal := { x.cal with stale := true }
         safe := { x.safe with todo := x.safe.todo ++ [{ at_ := x.now, up := x.up, bit := 25, obj := 0, detail := x.cal.gen }] } }))) ∧
  (∀ (dt : Nat) (s b : State), At dt s b → calRunning b = true →
     (∀ ti : Fin 64, (tileGet b ti).calAsk = true → tileFree b ti = true →
       let x := tileUpd ti (fun x => { x with calAsk := false, calOut := true, rcd := if x.rcd.st = .hold ∨ x.rcd.st = .armed then { x.rcd with st := .disarmed } else x.rcd }) b
       exec (.calTileLeaveService dt ti) s = .next (settle s (
         { x with cal := { x.cal with
             passAt := b.up, st := if (tilesOf b.cal.mask).any (fun t => (tileGet x t).calAsk) then b.cal.st else 2 } }))) ∧
     (∀ rs : List (Nat × Vector Int 64), b.cal.kind = 1 → exec (.calLinPassEnd dt rs) s =
       .next (settle s (calFinish ((tilesOf b.cal.mask).foldl
         (fun a ti => linTile (rs.map (fun p => (p.1, p.2.toList))) ti a) b)))) ∧
     (∀ ti : Fin 64, b.cal.kind = 1 → b.cal.left.contains ti.val = true →
       let x := reachUp (b.cal.startAt + 50 * fineMs) b
       let why := fun (r : CalRes) => if b.cal.redo.contains ti.val then 7 else if r.passes = 0 then 1 else if r.cause = 0 then 2 else r.cause
       exec (.calLinTimeout dt ti) s = .next (settle s (calFinish (tileBack ti { x with cal := { x.cal with
         results := (List.range 19).foldl (fun t k => tabUpd {} t (19 * ti + k) (fun r => { r with cause := why r })) x.cal.results
         failed := x.cal.failed + 19, left := x.cal.left.erase ti } })))) ∧
     (∀ d : BitVec 12, b.cal.kind = 2 → b.cal.st = 2 → b.cal.shot < zeroF b 1 15 0 →
       let z := match b.cal.firedAt with
         | some t => reachUp (t + zeroF b 3 63 48 * fineUs) b
         | none => b
       let at_ := z.now + 300 * fineNs + (d.toNat * 4096 : Nat) + (cfgF z .emCh (zeroF z 1 45 40) 0 35 0 : Nat)
       let ps := pulsesOf z (zeroF z 1 45 40) (zeroF z 1 39 32) at_
       let o : Offer := { ch := zeroF z 1 45 40, seq := calSeq, pulses := ps, code := zeroF z 1 31 24, arrive := z.now + crossing1 z }
       ps ≠ [] →
       exec (.calZeroShot dt d) s = .next (settle s { z with
         pb := { z.pb with offers := z.pb.offers ++ [o] }
         cal := { z.cal with shot := z.cal.shot + 1, fired := z.cal.fired + zeroF z 3 63 48, firedAt := some z.up
                             shotAt := z.cal.shotAt ++ [(z.cal.blocks * zeroF z 1 15 0 + (z.cal.shot + 1), at_)] } })) ∧
     (b.cal.kind = 2 → b.cal.st = 2 → b.cal.shot = zeroF b 1 15 0 →
       let z := decideAll false (reach (zeroOver b) b)
       let x := { z with cal := { z.cal with blocks := z.cal.blocks + 1, shot := 0, shotAt := [] } }
       let all := x.cal.left.all (fun ch => zeroPass x (tabGet [] x.cal.events ch))
       (all = false → x.cal.fired + blockUs x ≤ 400000 → exec (.calZeroBlockEnd dt) s = .next (settle s x)) ∧
       ((all = true ∨ 400000 < x.cal.fired + blockUs x) →
         let y := x.cal.left.foldl (fun a ch => zeroChannel ch a) x
         exec (.calZeroBlockEnd dt) s = .next (settle s (calFinish { y with cal := { y.cal with left := [] } })))) ∧
     (b.cal.kind = 2 →
       exec (.calZeroTimeout dt) s = .next (settle s (calAbort 1 (reachUp (b.cal.startAt + 2000 * fineMs) b)))) ∧
     (b.cal.kind = 3 → exec (.calTeamTimeout dt) s =
       .next (settle s (calAbort (if b.cal.redo.isEmpty then 1 else 7) (reachUp (b.cal.startAt + 1000 * fineMs) b))))) ∧
  (∀ (dt : Nat) (s b : State), At dt s b →
     (∀ (ms : Vector (List (Vector Stamps 1024)) 64) room,
       let hs := ms.toList.map (fun r => r.map Vector.toList)
       isFollower b = true → hs.all (fun r => decide (devNum b ≤ r.length)) = true →
       exec (.calTeamMeasureDone dt ⟨ms, room⟩) s = .next (settle s { b with team := { b.team with
         hopOfs := mean64 (hs.map (fun r => ((r.getD (devNum b - 1) []).map (fun x =>
           (x.w1 - x.a0) - (x.a3 - x.w2) - 2 * hopAsym b (devNum b))).foldl (· + ·) 0)) } })) ∧
     (∀ (ms : Vector (List (Vector Stamps 1024)) 64) room,
       let hs := ms.toList.map (fun r => r.map Vector.toList)
       isFollower b = false → calRunning b = true → b.cal.kind = 3 →
       hs.all (fun r => decide (r.length = b.cal.teamN)) = true →
       let rs := (upTo 1 b.cal.teamN).map (fun d => memberRes (memberVals b hs d) (room.getD (d - 1) (0, 0)))
       let bad := (rs.filter (fun r => r.2.cause != 0)).length
       let x := { b with cal := { b.cal with
         results := rs.zipIdx.foldl (fun t p => tabSet {} t (p.2 + 1) p.1.2) b.cal.results
         passed := rs.length - bad, failed := bad, redo := [] } }
       (bad ≠ 0 → exec (.calTeamMeasureDone dt ⟨ms, room⟩) s = .next (settle s (calEnd 9 x))) ∧
       (bad = 0 → exec (.calTeamMeasureDone dt ⟨ms, room⟩) s = .next (settle s (calEnd 0
         (out (.nolgil 5 ((b.now + 100 * fineMs - teamOfs b) :: rs.map (fun r => r.1)))
           { x with team := { x.team with calApply := some (0, b.now + 100 * fineMs) } }))))) ∧
     (∀ ofs d, b.team.calApply = some (ofs, d) →
       let x := reach d { b with team := { b.team with calApply := none } }
       let y := pendUser (cfgKey .calDev 0) [setFld ((userNext x .calDev 0).getD 0 0) 23 0 (twos 24 ofs)] x
       let ok := (laterCfgs x).all (fun c => (List.range 64).all (fun ch => (emOfsIn x c ch).all (skewsOk x ch ofs)))
       (ok = true → exec (.calTeamApplyTime dt) s = .next (settle s (calFeed { y with cal := { y.cal with teamStep := true } }))) ∧
       (ok = false → exec (.calTeamApplyTime dt) s = .next (settle s (calFeed x)))) ∧
     (∀ a, b.team.autoCalAt = some a →
       let x := reachUp a { b with team := { b.team with autoCalAt := none } }
       exec (.autoCalStart dt) s = .next (settle s (
         if teamCalDev x = stOk ∧ bgBusy x 8 = false then calBegin 3 2 0 [] [] x else x))))

/-! ### Comparators and receive channels (ch. 05) -/

/-- O39. A monitor that has not resolved keeps its outputs held: new inputs are noted and nothing is routed (R149,
R153). A resolved one follows its inputs through its filter and route. Its hold ends 1 µs after it began, and with
FILT_EN after FILT_N samples (R156); the end of a blank window and a sample of the filter are reached in time and
settle it (R148, R150). While a monitor with MC_EN set is held, each AON period's samples are judged, and it is
released once every threshold in use is resolved (R153); 320 periods without that is MONITOR_UNRESOLVED, once, for a
monitor and not for a mirror input (R154, R158). Model's choices: log entries 2, 26, 72 and 94. -/
def Obligations.Monitors : Prop :=
  (∀ (dt : Nat) (m : Fin 34) (s b : State), At dt s b →
     (∀ hi lo,
       let x := monUpd m (fun y => { y with hiOut := hi, loOut := lo }) b
       let y := if monRaw x m && !monRaw b m then monUpd m (fun y => { y with riseAt := b.now }) x else x
       ((monGet b m).held = true → exec (.mcOutputChange dt m hi lo) s = .next (settle s y)) ∧
       ((monGet b m).held = false → exec (.mcOutputChange dt m hi lo) s = .next (settle s (monSettle m y)))) ∧
     (∀ u r, sortBy (fun (t : Int) => (t - b.now).toNat) ((blankEnds b m).filter (fun (t : Int) => decide (b.now ≤ t))) = u :: r →
       exec (.mcBlankEnd dt m) s = .next (settle s (monSettle m (monAdvance (reach u b))))) ∧
     ((monGet b m).held = false → fld (monW b m 0) 56 56 = 1 →
       exec (.mcFilterSample dt m) s =
         .next (settle s (monAdvance (reachUp ((b.up + monTs b m - 1) / monTs b m * monTs b m) b)))) ∧
     (∀ v, (monGet b m).hold = some v →
       exec (.mcHoldEnd dt m) s = .next (settle s (monSettle m
         (monUpd m (fun y => { y with hold := none }) (monAdvance (reachUp (holdDue b m) b)))))) ∧
     ((monGet b m).hold = none → exec (.mcHoldEnd dt m) s = .next (settle s b))) ∧
  (∀ (dt : Nat) (m : Fin 34) (s b : State), At dt s b → (monGet b m).held = true →
     (∀ hi lo, fld (monW b m 0) 57 57 = 1 →
       let x := monUpd m (resolveRuns b m hi lo) b
       exec (.mcResolveSample dt m hi lo) s = .next (settle s (if allResolved x m (monGet x m) then monRelease m x else x))) ∧
     (∀ hi lo, fld (monW b m 0) 57 57 = 0 → exec (.mcResolveSample dt m hi lo) s = .next (settle s b)) ∧
     (fld (monW b m 0) 57 57 = 1 → 320 ≤ (monGet b m).periods → (monGet b m).unresolved = false →
       (m.val < 32 →
         let x := monUpd m (fun y => { y with unresolved := true, unresolvedSeen := true }) b
         exec (.monitorUnresolved dt m) s = .next (settle s { x with safe := { x.safe with
           todo := x.safe.todo ++ [{ at_ := x.now, up := x.up, bit := 20, obj := m, detail := 0 }] } })) ∧
       (32 ≤ m.val → exec (.monitorUnresolved dt m) s = .next (settle s b))))

/-- O40. A receive channel that settles becomes active with its output as the input gives it, without an event (R155);
its output falls with its input (R139, R143). A crossing on an active channel whose output is low, the epoch set,
outside the dead time, is one timed event: counted, its output high, and on its way through qualification with its
window and times (R143, R171); earlier than 4 ns after the last timed event none is timed (R165). An assertion in the
dead time is a lost event (R166). An inactive channel times nothing. Model's choices: log entries 2, 27 and 73. -/
def Obligations.ReceiveEvents : Prop :=
  ∀ (dt : Nat) (ch : Fin 1024) (s b : State), At dt s b →
    (∀ above, (rxGet b ch).settling = true → exec (.rxSettleDone dt ch above) s =
      .next (settle s (rxOutput ch above b.now (rxUpd ch (fun x => { x with settling := false, active := true }) b)))) ∧
    (exec (.rxOutputDeassert dt ch) s = .next (settle s (rxUpd ch (fun x => if x.out = true then
      { x with out := false, trans := pushTrans b.now false x.trans } else x) b))) ∧
    (∀ cycle (code : Fin 64) high ecc,
      let t := tdcTime b ch cycle code
      let x := reach t b
      let hi := high && fld (rxWord x ch) 45 45 == 1
      (rxGet x ch).active = true → (rxGet x ch).out = false → x.tb.epochSet = true → inDead (chanGet x ch) t = false →
      tdcCut x ch = false →
      exec (.rxEvent dt ch cycle code high ecc) s = .next (settle s (notDead ch (rateTrig (ch / 16) (ch % 16) t (highTrig (ch / 16) (ch % 16) t hi
        (tileUpd (ch / 16) (fun y => { y with pend := y.pend ++ [eventOf x ch t hi ecc] })
          (chanUpd ch (fun y => { y with eventsTimed := satAdd 64 y.eventsTimed 1, pileMark := false, lastEvt := some t })
            (rxOutput ch true t (rxUpd ch (fun y => { y with high := if hi then satAdd 32 y.high 1 else y.high }) x))))))))) ∧
    (∀ cycle (code : Fin 64) high ecc,
      let t := tdcTime b ch cycle code
      ∀ l : Int, (chanGet (reach t b) ch).lastEvt = some l → t < l + 4 * fineNs →
      exec (.rxEvent dt ch cycle code high ecc) s = .next (settle s b)) ∧
    (∀ cycle (code : Fin 64) high ecc, (rxGet b ch).active = false →
      exec (.rxEvent dt ch cycle code high ecc) s = .next (settle s b)) ∧
    (tdcCut b ch = false → (rxGet b ch).active = true → (rxGet b ch).out = false → inDead (chanGet b ch) b.now = true →
      let w := tileGet b (ch / 16)
      let x := chanUpd ch (fun y => { y with pileTotal := satAdd 32 y.pileTotal 1, pileMark := true }) (rxOutput ch true b.now b)
      (w.win = .disarmed → exec (.pileLostEvent dt ch) s = .next (settle s x)) ∧
      (w.win ≠ .disarmed → postShot w b.now = none → preShot w b.now = none →
        exec (.pileLostEvent dt ch) s = .next (settle s x)) ∧
      (w.win ≠ .disarmed → postShot w b.now = none → (preShot w b.now).isSome = true →
        exec (.pileLostEvent dt ch) s = .next (settle s (chanUpd ch (fun y => { y with prePile := y.prePile + 1 }) x))) ∧
      (∀ e, w.win ≠ .disarmed → postShot w b.now = some e →
        exec (.pileLostEvent dt ch) s = .next (settle s (chanUpd ch (fun y => if y.pix.acqSeqs.contains e.seq then
          { y with pix := { y.pix with pile := satAdd 32 y.pix.pile 1 } } else y) x))))

/-! ### The Playbook (ch. 04) -/

/-- O41. The walk, standing at a resident descriptor or at a valid one in the ring, reaches it, running or skipping,
where lost mirror lock does not starve it (R110, R124); at an empty ring it looks for an under-run (R132), and at a gap
or an entry out of range the segment ends and the walk starves (R130, R131). A descriptor that waits is expanded at the
later of its shot time less PB_LEAD_US and the end of the expansion before, unless a scheduler queue has no room (R72,
R114); a FRAME descriptor starts the journal's mirror write (R313), and after STOP AT_FRAME stops the walk instead
(R117). At the end of a segment, 16 ns before the origin of its last shot or at once where that was passed, a STOP that
waits for it stops the walk; else a latched jump is taken; else the end action decides: stop, the loop, or the next
segment (R112). A stopped Playbook halts once nothing it started is left, and not before (R117). Model's choices: log
entries 2, 76 and 93. -/
def Obligations.Walk : Prop :=
  (∀ (dt : Nat) (s b : State), At dt s b →
     (mirrorMode b = false ∨ cfgF b .pb 0 3 28 28 ≠ 1 ∨ b.pb.mirrorLocked = true) →
     (b.pb.walk = .fetch → (b.pb.st = .running ∨ b.pb.st = .skipping) →
       let d := curDesc b
       (streamed b = false → exec (.descFetch dt) s =
         .next (settle s (reachDesc d { b with pb := { b.pb with curIdx := b.pb.idx } }))) ∧
       (streamed b = true → b.pb.header = true → b.pb.rd = b.pb.wr →
         exec (.descFetch dt) s = .next (settle s (underCheck b))) ∧
       (streamed b = true → b.pb.header = true → b.pb.rd ≠ b.pb.wr → b.pb.gapAt.contains b.pb.rd = false →
         (reservedOk .desc 0 d && rangeOk .desc 0 d) = true →
         exec (.descFetch dt) s = .next (settle s (reachDesc d { b with pb := { b.pb with curIdx := b.pb.idx } }))) ∧
       (streamed b = true → b.pb.header = true → b.pb.rd ≠ b.pb.wr → b.pb.gapAt.contains b.pb.rd = true →
         exec (.descFetch dt) s = .next (settle s (unstarve (gapEnd 2 { b with pb := { b.pb with
           gapAt := b.pb.gapAt.filter (fun g => g != b.pb.rd) } })))) ∧
       (streamed b = true → b.pb.header = true → b.pb.rd ≠ b.pb.wr → b.pb.gapAt.contains b.pb.rd = false →
         (reservedOk .desc 0 d && rangeOk .desc 0 d) = false →
         exec (.descFetch dt) s = .next (settle s (gapEnd 3 (ringPop { b with pb := { b.pb with
           curIdx := b.pb.idx, gaps := satAdd 16 b.pb.gaps 1 } }))))) ∧
     (∀ d a0, b.pb.walk = .expand d a0 → b.pb.st = .running → heldFull b = false → dFlag d 34 = true → b.pb.stop = some 1 →
       exec (.shotExpand dt) s =
         .next (settle s { b with pb := { b.pb with st := .stopping, walk := .none, starve := 0 } })) ∧
     (∀ d a0, b.pb.walk = .expand d a0 → b.pb.st = .running → (dFlag d 34 = false ∨ b.pb.stop ≠ some 1) →
       let anchorAt := fun (st : State) => if st.pb.rephase then a0 else anchorOf st d
       let x := applyWaiting (fun w => w.boundary == 1 || (w.boundary == 2 && w.closed))
         (monAdvance (reach (max (anchorAt b + (dF d 1 35 0 : Nat) - leadFine b) b.pb.expandAt) b))
       (heldFull b = false → dFlag d 34 = false →
         exec (.shotExpand dt) s = .next (settle s (walkOn (expandShot d (anchorAt x) x)))) ∧
       (heldFull b = false → dFlag d 34 = true →
         exec (.shotExpand dt) s = .next (settle s (walkOn (mirrorTick (expandShot d (anchorAt x) x))))) ∧
       (heldFull b = true → exec (.shotExpand dt) s = .next (settle s b)))) ∧
  (∀ (dt : Nat) (s b : State), At dt s b →
     (b.pb.walk = .decide →
       let x := match b.pb.origin with
         | some o => if b.pb.passed then b else reach (o - 16 * fineNs) b
         | none => b
       let stopped := { x with pb := { x.pb with st := .stopping, walk := .none, starve := 0 } }
       (b.pb.stop = some 2 → exec (.segmentDecisionPoint dt) s = .next (settle s stopped)) ∧
       (∀ slot, b.pb.stop ≠ some 2 → b.pb.latch = some slot → exec (.segmentDecisionPoint dt) s =
         .next (settle s (unstarve (enterSeg (cfgF b .jump slot 0 11 0) { x with pb := { x.pb with
           latch := none, stack := [], jumpsTaken := satAdd 16 x.pb.jumpsTaken 1 } })))) ∧
       (b.pb.stop ≠ some 2 → b.pb.latch = none →
         (dF b.pb.entry 0 61 60 = 2 → exec (.segmentDecisionPoint dt) s = .next (settle s stopped)) ∧
         (dF b.pb.entry 0 61 60 = 1 → exec (.segmentDecisionPoint dt) s = .next (settle s (unstarve (loopEnd x)))) ∧
         (dF b.pb.entry 0 61 60 ≠ 1 → dF b.pb.entry 0 61 60 ≠ 2 → exec (.segmentDecisionPoint dt) s =
           .next (settle s (unstarve (enterSeg (dF b.pb.entry 0 59 48) x)))))) ∧
     (b.pb.st = .stopping → allDone b = true → exec (.pbHalt dt) s = .next (settle s (pbHalt b))) ∧
     ((b.pb.st ≠ .stopping ∨ allDone b = false) → exec (.pbHalt dt) s = .next (settle s b)))

/-- O42. A shot-clock event is reached and counted in SC_EVENT, on the grids before a change point up to it and on the
next from it on (R119). An accepted edge of MP0 is kept, 65 of them, with the scan direction that MP1 gives through its
filter and hold, and moves mirror lock: the eighth good one in a row locks, a bad one loses it (R123, R124); an
unresolved input gives none, and with FILT_EN one assertion of the filtered output gives one at most (R158). Past the
prediction and its tolerance without an edge, lock is lost (R124). The update edge of a link's first word is reached,
the word stands at the link and its bits leave the block in the order of LSB_FIRST; an inactive link drives its outputs
low (R125). At the origin of a shot that a tile acquired, its post-window opens and its pixel begins, after the shots
ahead that the tile did not acquire, and the boundaries of the frames that it reaches are passed (R155, R168). A
post-window ends at its shot's origin and length (R168, R202); a tile in HOLD arms again at its re-arm time (R168).
Model's choices: log entries 2, 32, 36 and 75. -/
def Obligations.ShotsAndWindows : Prop :=
  (∀ (dt : Nat) (s b : State), At dt s b →
     (b.pb.gridOn = true → b.pb.gridOld = [] →
       let x := reach (b.pb.gridT + (b.pb.gridK : Int) * b.pb.gridPer) b
       exec (.shotClockEvent dt) s = .next (settle s { x with pb := { x.pb with
         scEvent := (x.pb.scEvent + 1) % 2 ^ 32, gridK := x.pb.gridK + 1 } })) ∧
     (∀ (g : Int) (per : Nat) (end_ : Int) (l : List (Int × Nat × Int)), b.pb.gridOn = true → b.pb.gridOld = (g, per, end_) :: l →
       (g + (b.pb.gridK : Int) * per < end_ →
         let x := reach (g + (b.pb.gridK : Int) * per) b
         exec (.shotClockEvent dt) s = .next (settle s { x with pb := { x.pb with
           scEvent := (x.pb.scEvent + 1) % 2 ^ 32, gridK := x.pb.gridK + 1 } })) ∧
       (end_ ≤ g + (b.pb.gridK : Int) * per → l = [] →
         let x := reach b.pb.gridT b
         exec (.shotClockEvent dt) s = .next (settle s { x with pb := { x.pb with
           scEvent := (x.pb.scEvent + 1) % 2 ^ 32, gridOld := [], gridK := 1 } })) ∧
       (end_ ≤ g + (b.pb.gridK : Int) * per →
         let q := gridsLeft l 0
         let x := reach (nextEvent b) b
         exec (.shotClockEvent dt) s = .next (settle s { x with pb := { x.pb with
           scEvent := (x.pb.scEvent + 1) % 2 ^ 32, gridOld := q.1, gridK := q.2 + 1 } }))) ∧
     (b.pb.gridOn = false → exec (.shotClockEvent dt) s = .next (settle s b)) ∧
     (∀ mp1, let u := monInputs 33 mp1 false b
       ((monGet u 32).held = true ∨ u.tb.epochSet = false ∨
         (cfgF u .mp 0 0 56 56 = 1 ∧ ((monGet u 32).filt = false ∨ (monGet u 32).crossNew = false))) →
       exec (.mp0Edge dt mp1) s = .next (settle s u)) ∧
     (∀ mp1, let v := monInputs 33 mp1 false b
       (monGet v 32).held = false → v.tb.epochSet = true →
       (cfgF v .mp 0 0 56 56 = 1 → (monGet v 32).filt = true ∧ (monGet v 32).crossNew = true) →
       let u := monUpd 32 (fun x => { x with crossNew := false }) v
       let t := mpStamp u
       let x := { u with pb := { u.pb with
         mpEdges := (t :: u.pb.mpEdges).take 65
         scanDir := if cfgF u .pb 0 3 29 29 = 1 then (monGet u 33).hold.getD (monGet u 33).filt else u.pb.scanDir } }
       let sp := (mirrorSpacing x).getD x.pb.gridPer
       let y := if mirrorMode x then gridStart t (cfgF u .pb 0 4 35 0 : Nat) sp x else x
       ((mirrorNext u = none ∨ sp < 500 * fineNs) → exec (.mp0Edge dt mp1) s = .next (settle s (mirrorLost y))) ∧
       (∀ e, mirrorNext u = some e → 500 * fineNs ≤ sp →
         (cfgF u .pb 0 3 63 48 * 4096 < (t - e).natAbs → exec (.mp0Edge dt mp1) s = .next (settle s (mirrorLost y))) ∧
         ((t - e).natAbs ≤ cfgF u .pb 0 3 63 48 * 4096 → exec (.mp0Edge dt mp1) s =
           .next (settle s (unstarve { y with pb := { y.pb with
             mpGood := min 8 (y.pb.mpGood + 1)
             mirrorLocked := y.pb.mirrorLocked || min 8 (y.pb.mpGood + 1) == 8 } }))))) ∧
     (∀ e, mirrorNext b = some e → b.pb.mirrorLocked = true → exec (.mirrorEdgeTimeout dt) s =
       .next (settle s (mirrorLost (reach (e + (cfgF b .pb 0 3 63 48 * 4096 : Nat)) b))))) ∧
  (∀ (dt : Nat) (s b : State), At dt s b →
     (∀ (n : Fin 4) w r, (tabGet ({} : Link) b.pb.links n).words = w :: r →
       let x := reach w.at_ b
       let bits := (List.range (cfgF x .stl n 0 11 6)).map w.word.testBit
       exec (.steerUpdateEdge dt n) s = .next (settle s (out
         (.link n w.driver (if cfgF x .stl n 0 14 14 = 1 then bits else bits.reverse)) { x with pb := { x.pb with
           links := tabUpd {} x.pb.links n (fun l => { l with words := r, last := w.word })
           upds := (w.at_ :: x.pb.upds).filter (fun t => decide (x.now ≤ t + keepFine)) } }))) ∧
     (∀ (line : StlLine) (link : Fin 4), cfgF s .stl link 0 15 15 = 0 → unitLevel s (.stl line link) = .low) ∧
     (∀ (ti : Fin 64) e r,
       let x := passDue true ti (tileGet b ti).shots.length b
       (tileGet x ti).cur = none → (tileGet x ti).shots = e :: r → e.judge = .acquired →
       exec (.shotOrigin dt ti) s =
         .next (settle s (underCheck (startShot ti e (passBoundaries (reach e.origin x))))))) ∧
  (∀ (dt : Nat) (ti : Fin 64) (s b : State), At dt s b →
     (∀ e, (tileGet b ti).cur = some e →
       exec (.postWindowEnd dt ti) s = .next (settle s (endPost ti (reach (e.origin + e.l * 4096) b)))) ∧
     ((tileGet b ti).win = .hold →
       exec (.rearm dt ti) s =
         .next (settle s (tileUpd ti (fun y => { y with win := .armed }) (reach (tileGet b ti).rearm b)))) ∧
     ((tileGet b ti).win ≠ .hold → exec (.rearm dt ti) s = .next (settle s b)))

/-- O43. The stream doorbell sets the host's producer index (R129). A DMA read of the host ring brings in at most 64
entries, those rung and those the refill ring has room for (R129). A stream datagram arrives in a frame that the device
accepts for STREAM_UDP_PORT (R130, R366): one of 1 to 44 entries that the ring has room for enters it, a gap in its numbers,
which a bad one since the last also leaves, counted and kept; one of another form is bad, one too large an overflow, and
neither enters (R130, R131). A read or a datagram that STREAM_SRC does not name enters nothing. Model's choices: log
entry 2 (an event whose condition does not hold), 76, 115, 118 and 160. -/
def Obligations.Streaming : Prop :=
  ∀ (dt : Nat) (s b : State), At dt s b →
    (∀ v : BitVec 32, exec (.pbStreamDoorbell dt v) s =
      .next (settle s { b with pb := { b.pb with hostProd := v.toNat % 2 ^ 20 } })) ∧
    (∀ (es : List (Vector Word 4)), cfgF b .stream 0 0 27 26 = 1 →
      let x := underCheck b
      let host := 2 ^ cfgF x .stream 0 0 25 21
      let n := min (min 64 es.length) (min (ringRoom x) ((x.pb.hostProd + host - x.pb.hostCons % host) % host))
      let y := ringAdd ((es.map Vector.toList).take n) x
      exec (.streamDmaFetch dt es) s =
        .next (settle s (unstarve { y with pb := { y.pb with hostCons := (y.pb.hostCons + n) % host } }))) ∧
    (∀ es, cfgF b .stream 0 0 27 26 ≠ 1 → exec (.streamDmaFetch dt es) s = .next (settle s b)) ∧
    (∀ (p : Fin 2) (f : EthFrame) (seq n : Nat) (es : List Obj), wfFrame f = true → wfEntries es = true →
      let a := frameRx p f b
      let c := a.2
      let act := exec (.streamDatagram dt ⟨p, f⟩ ⟨seq, n⟩ es) s
      ((a.1 = false ∨ f.udp.map (fun u => u.2) ≠ some (cfgF b .stream 0 0 15 0)) → act = .next (settle s c)) ∧
      (cfgF c .stream 0 0 27 26 ≠ 2 → act = .next (settle s c)) ∧
      (a.1 = true → f.udp.map (fun u => u.2) = some (cfgF b .stream 0 0 15 0) → cfgF c .stream 0 0 27 26 = 2 →
        let x := underCheck c
        ((n = 0 ∨ 44 < n ∨ es.length ≠ n) → act = .next (settle s { x with pb := { x.pb with
          bad := satAdd 12 x.pb.bad 1, netBad := true } })) ∧
        (1 ≤ n → n ≤ 44 → es.length = n → ringRoom x < n →
          act = .next (settle s { x with pb := { x.pb with overflow := satAdd 16 x.pb.overflow 1 } })) ∧
        (1 ≤ n → n ≤ 44 → es.length = n → n ≤ ringRoom x →
          let enter := fun (y : State) => Host.Outcome.next (settle s (unstarve (ringAdd es
            { y with pb := { y.pb with netSeq := some (seq % 2 ^ 32), netBad := false } })))
          let gap := { x with pb := { x.pb with gaps := satAdd 16 x.pb.gaps 1, gapAt := x.pb.gapAt ++ [x.pb.wr] } }
          (x.pb.netBad = true → act = enter gap) ∧
          (x.pb.netBad = false → x.pb.netSeq = none → act = enter x) ∧
          (∀ k, x.pb.netBad = false → x.pb.netSeq = some k → seq % 2 ^ 32 = (k + 1) % 2 ^ 32 → act = enter x) ∧
          (∀ k, x.pb.netSeq = some k → seq % 2 ^ 32 ≠ (k + 1) % 2 ^ 32 → act = enter gap))))

/-- O44. A jump request stands alone: its slot is latched and no longer armed, and a request it displaces is counted
(R113). Entering a segment that is not valid stops the walk with fault 2; entering a valid one copies its entry and
stands at its first descriptor (R108, R111). -/
def Obligations.JumpsAndSegments : Prop :=
  ∀ s : State,
    (∀ slot, let r := latchJump slot s
      r.pb.latch = some slot ∧ slot ∉ r.pb.armed ∧
      r.pb.jumpReplaced = (if s.pb.latch.isSome then satAdd 16 s.pb.jumpReplaced 1 else s.pb.jumpReplaced)) ∧
    (∀ seg, dF (cfgObj s .seg seg) 0 63 63 = 0 →
      (enterSeg seg s).pb.st = .stopping ∧ (enterSeg seg s).pb.faulting = 2) ∧
    (∀ seg, dF (cfgObj s .seg seg) 0 63 63 = 1 →
      let r := enterSeg seg s
      r.pb.seg = seg ∧ r.pb.idx = 0 ∧ r.pb.entry = cfgObj s .seg seg ∧ r.pb.walk = .fetch ∧ r.pb.st = s.pb.st)

/-! ### Windows and recorders (ch. 06) -/

/-- O45. A recorder that writes takes the EPOCH marker 2²⁹ ticks after its reference point, which moves there (R180).
Its hold-off over, it is ARMED (R182); filling, it freezes when its fill time is over (R185); a readout that ends
leaves it armed afresh or FROZEN (R182). An edge on TRIG_IN triggers the tiles that watch the pin, at the tick (R183).
At each common arming time, the earliest first, the team's tiles arm but those that a capture or a calibration holds (R187);
the earliest team trigger, those of this device that wait for their cycle's end among them, takes effect TEAM_LAT after its
time on every team tile, where the others then pending are displaced and counted
busy at once (R187). Model's choices: log entries 29 and 74.
-/
def Obligations.Recorders : Prop :=
  ∀ (dt : Nat) (s b : State), At dt s b →
    (∀ ti : Fin 64,
      let r := (tileGet b ti).rcd
      ((r.st = .hold ∨ r.st = .armed ∨ r.st = .filling) →
        let t := r.refAt + 2 ^ 41
        let x := reach t b
        exec (.recEpochMarker dt ti) s = .next (settle s (recUpd ti (fun y =>
          let z := recRef t y.refTag y
          { z with marks := z.marks ++ [{ kind := 4, t := t, time := some 0x800000000, tag := y.refTag }] }) x))) ∧
      (r.st = .hold → exec (.recHoldEnd dt ti) s = .next (settle s (recUpd ti (fun y => { y with st := .armed })
        (reach (r.armDt + cfgF b .rcd ti 0 31 16 * fineUs) b)))) ∧
      (r.st = .filling →
        let t := r.trigDt + (cfgF b .rcd ti 0 15 0 * fineUs : Nat)
        exec (.recPostTimeout dt ti) s = .next (settle s (recFreeze ti t (reach t b)))) ∧
      (r.st = .reading → cfgF b .rcd ti 0 44 44 = 1 → exec (.recReadoutDone dt ti) s = .next (settle s (recArm ti b))) ∧
      (r.st = .reading → cfgF b .rcd ti 0 44 44 ≠ 1 → exec (.recReadoutDone dt ti) s =
        .next (settle s (recUpd ti (fun y => { y with st := .frozen }) b)))) ∧
    (∀ pin : Fin 2, exec (.trigInEdge dt pin) s =
      .next (settle s (((List.range 64).filter (fun ti => (cfgF b .rcd ti 0 36 32).testBit pin)).foldl
        (fun a ti => recTrigger ti (pin + 1) 0 (a.now / 4096 * 4096) a) b))) ∧
    (∀ t, t ∈ b.team.armAt → (∀ u ∈ b.team.armAt, t ≤ u) →
      let x := reach t { b with team := { b.team with armAt := b.team.armAt.erase t } }
      exec (.recTeamArmTime dt) s = .next (settle s ((teamTiles x).foldl (fun a ti =>
        if (tileGet a ti).rcd.st = .filling ∨ (tileGet a ti).rcd.st = .reading ∨ (tileGet a ti).calOut = true then
          recUpd ti (fun r => { r with armIgnored := satAdd 16 r.armIgnored 1 }) a
        else recArm ti a) x))) ∧
    (∀ dev tt,
      let y := recSends true b
      firstTrig y.team.trigs = some (dev, tt) →
      let t := tt + teamOfs y + 2500 * fineNs
      let rest := y.team.trigs.erase (dev, tt)
      let x := reach t { y with team := { y.team with trigs := rest } }
      exec (.recTeamTriggerTime dt) s = .next (settle s ((teamTiles x).foldl (fun a ti =>
        let r := (tileGet a ti).rcd
        if r.gone.contains (dev, tt) = true then recUpd ti (fun y => { y with gone := y.gone.erase (dev, tt) }) a
        else if r.st = .armed then
          recUpd ti (fun y => { y with
            gone := rest, busy := satAdd 16 y.busy (rest.filter (fun p => !y.gone.contains p)).length }) (recTrigger ti 7 dev t a)
        else recTrigger ti 7 dev t a) x)))

/-- O46. A trigger finds a recorder in HOLD and is ignored, DISARMED, FROZEN or READING and is counted busy, each time
with nothing else changed, but that in the 1 ns cycle of the trigger taken, for RATE the one that its time ends, a lower
cause replaces it with its time, but no local trigger of a team tile does (R182, R184, R187);
ARMED, it is taken with its cause and time and
the fill begins or is over at once (R185), but a local trigger of a team tile waits for the end of its 1 ns cycle, in which
a lower cause replaces it and each further one counts busy (R184), and then goes to the team at its team time; the tile's
state stays as it is (R187). Model's choices: log entries 29 and 34. -/
def Obligations.RecorderTrigger : Prop :=
  ∀ (ti cause dev : Nat) (t : Int) (s : State),
    let r := (tileGet s ti).rcd
    (r.st = .hold → recTrigger ti cause dev t s = recUpd ti (fun x => { x with holdIgn := satAdd 16 x.holdIgn 1 }) s) ∧
    ((r.st = .disarmed ∨ r.st = .reading ∨ (r.st = .frozen ∧ r.freezeAt ≠ some r.trigDt) ∨
       ((r.st = .filling ∨ r.st = .frozen) ∧
         (trigCycle cause t ≠ trigCycle r.cause r.trigDt ∨ r.cause ≤ cause ∨ teamOnly s ti cause = true))) →
      recTrigger ti cause dev t s = recUpd ti (fun x => { x with busy := satAdd 16 x.busy 1 }) s) ∧
    ((r.st = .filling ∨ (r.st = .frozen ∧ r.freezeAt = some r.trigDt)) → teamOnly s ti cause = false → trigCycle cause t = trigCycle r.cause r.trigDt → cause < r.cause →
      let r' := (tileGet (recTrigger ti cause dev t s) ti).rcd
      r'.cause = cause ∧ r'.trigDev = dev ∧ r'.trigDt = t ∧ r'.st = r.st ∧ r'.busy = satAdd 16 r.busy 1) ∧
    (r.st = .armed → teamOnly s ti cause = true →
      (r.sent = none → recTrigger ti cause dev t s = recUpd ti (fun x => { x with sent := some (cause, t) }) s) ∧
      (∀ c u, r.sent = some (c, u) → trigCycle c u = trigCycle cause t →
        recTrigger ti cause dev t s = recUpd ti (fun x => { x with
          busy := satAdd 16 x.busy 1, sent := some (if cause < c then (cause, t) else (c, u)) }) s) ∧
      (∀ c u, r.sent = some (c, u) → trigCycle c u ≠ trigCycle cause t →
        recTrigger ti cause dev t s = recUpd ti (fun x => { x with sent := some (cause, t) }) (recSend ti s))) ∧
    (∀ c u, r.sent = some (c, u) → teamEn s = true → (devNum s, u - teamOfs s) ∉ s.team.trigs →
      let x := recUpd ti (fun y => { y with sent := none }) s
      recSend ti s = out (.nolgil 2 [devNum s, u - teamOfs s])
        { x with team := { x.team with trigs := s.team.trigs ++ [(devNum s, u - teamOfs s)] } }) ∧
    (r.st = .armed → teamOnly s ti cause = false →
      recTrigger ti cause dev t s = recTake ti cause dev t s ∧
      ((tileGet (recTake ti cause dev t s) ti).rcd.st = .filling ∨ (tileGet (recTake ti cause dev t s) ti).rcd.st = .frozen ∨
       (tileGet (recTake ti cause dev t s) ti).rcd.st = .reading) ∧
      (tileGet (recTake ti cause dev t s) ti).rcd.cause = cause ∧ (tileGet (recTake ti cause dev t s) ti).rcd.trigDt = t)

/-! ### Emitters and trips (ch. 03) -/

/-- O47. The next volley offered to a channel reaches the scheduler at its time, or as soon as the block has come to it,
and is judged at the end of that 1 ns cycle with all that has fallen due by then, unless the channel's queue of 2,048
edges has no room (R72, R77). The next edge of a channel is launched at its time and leaves the block; on a tripped
channel its volley is discarded and counted (R75, R90). Sums slide: what lies more than 16 buckets back leaves the
window (R85). An edge seen within 400 ps of a launched one of its polarity is matched: within 50 ps its error is kept,
beyond it is fault 1; an edge with no launched one is fault 3, but a falling one that a trip or the safe state forced is
none, and a launched one not seen fault 2; each fault is counted and is LOOPBACK; its time is that of the reference
converter's cycle and code at the balls (R95 to R98, R246). The driver of an ENABLED channel settles (R93). Model's
choices: log entries 2, 20, 71, 156 (an edge beside one already compared is EXTRA too) and 173 (the end of the cycle).
-/
def Obligations.SchedulerAndEmitters : Prop :=
  (∀ (dt : Nat) (ch : Fin 64) (s b : State), At dt s b →
     (∀ o, b.pb.offers.find? (fun o => o.ch == ch.val) = some o →
       (queueFull o b = false →
         let t := if (o.arrive / 8192 + 1) * 8192 = b.now then o.arrive else max o.arrive b.now
         let x := dueNow (reach ((t / 8192 + 1) * 8192) b)
         exec (.volleyOffer dt ch) s = .next (settle s (judgeVolley { o with arrive := t }
           { x with pb := { x.pb with offers := x.pb.offers.erase o } }))) ∧
       (queueFull o b = true → exec (.volleyOffer dt ch) s = .next (settle s b))) ∧
     (∀ t u v, earliest (nextEdges b ch) = some (t, u, v) →
       let x := reach t b
       let p := launchPoint x ch u
       ((emGet b ch).latched = false → exec (.edgeLaunch dt ch) s = .next (settle s (leaveArmed ch
         (out (.edge ch (v.launched % 2 == 0) u p.1 p.2) (emUpd ch (fun e => { e with
           vols := e.vols.map (fun y => if y = v then { y with launched := y.launched + 1 } else y)
           lbWait := e.lbWait ++ [(v.launched % 2 == 0, u)] }) x))))) ∧
       ((emGet b ch).latched = true → exec (.edgeLaunch dt ch) s = .next (settle s (markRefused v.seq
         (emUpd ch (fun e => { e with tripSkip := satAdd 32 e.tripSkip 1, vols := e.vols.erase v }) x))))) ∧
     (∀ w : Fin 3, exec (.accountantBucket dt ch w) s = .next (settle s (emUpd ch (fun e =>
       setBuckets w ((buckets e w).filter (fun p => decide (bucketOf b w b.now ≤ p.1 + 16))) e) b)))) ∧
  (∀ (dt : Nat) (ch : Fin 64) (rise : Bool) (s b : State), At dt s b →
     (∀ (cycle : Int) (code : Fin 64),
       let t := refTime b ch rise cycle code
       (∀ w, (emGet b ch).lbWait.find? (fun w => w.1 == rise && closer 3277 w.2 t) = some w →
         let x := emUpd ch (fun e => { e with lbWait := e.lbWait.erase w }) b
         ((t - w.2).natAbs ≤ 409 → exec (.loopbackCheck dt ch rise (some (cycle, code))) s =
           .next (settle s (emUpd ch (fun e => { e with lbErr := ((t - w.2) :: e.lbErr).take 4096 }) x))) ∧
         (409 < (t - w.2).natAbs → exec (.loopbackCheck dt ch rise (some (cycle, code))) s =
           .next (settle s (lbFault ch 1 (t - w.2) x)))) ∧
       ((emGet b ch).lbWait.find? (fun w => w.1 == rise && closer 3277 w.2 t) = none →
         ((rise = true ∨ (emGet b ch).cuts = 0) →
           exec (.loopbackCheck dt ch rise (some (cycle, code))) s = .next (settle s (lbFault ch 3 0 b))) ∧
         (rise = false → 0 < (emGet b ch).cuts → exec (.loopbackCheck dt ch rise (some (cycle, code))) s =
           .next (settle s (emUpd ch (fun e => { e with cuts := e.cuts - 1 }) b))))) ∧
     (∀ w, (emGet b ch).lbWait.find? (fun w => w.1 == rise) = some w →
       exec (.loopbackCheck dt ch rise none) s =
         .next (settle s (lbFault ch 2 0 (emUpd ch (fun e => { e with lbWait := e.lbWait.erase w }) b)))) ∧
     ((emGet b ch).lbWait.find? (fun w => w.1 == rise) = none →
       exec (.loopbackCheck dt ch rise none) s = .next (settle s b)) ∧
     (exec (.driverBiasSettled dt ch) s =
       .next (settle s (emUpd ch (fun e => { e with settled := e.settled || decide (e.out = 1) }) b))))

/-- O48. A TRIP_N ball low for 500 ps or more trips every channel that maps it, and one low for less may; in reset and
shutdown its level alone is kept. Its rise ends EM_TRIP once no source in TRIP_SAFE_MAP is asserted (R88, R89, R377).
Model's choices: log entries 3 and 25. -/
def Obligations.TripBalls : Prop :=
  ∀ (dt : Nat) (pin : Fin 4) (low : Nat) (s b : State), AtAny dt s b →
    let x := { b with tripN := b.tripN ||| 2 ^ pin.val }
    (500 ≤ low → s.on = true → exec (.tripNAssert dt pin low) s = .next (settle s
      (((List.range 64).filter (fun ch => (tripMap b ch).testBit (32 + pin))).foldl (fun a ch => tripChannel (32 + pin) ch a) x))) ∧
    (500 ≤ low → s.on = false → exec (.tripNAssert dt pin low) s = .next (settle s x)) ∧
    (low < 500 → s.on = false → exec (.tripNAssert dt pin low) s = .next (settle s b)) ∧
    (low < 500 → s.on = true → exec (.tripNAssert dt pin low) s = .next (settle s
      (if (drawBool b).1 then tripSource (32 + pin) (drawBool b).2 else (drawBool b).2))) ∧
    (exec (.tripNDeassert dt pin) s = .next (settle s (tripGone { b with tripN := b.tripN - (b.tripN &&& 2 ^ pin.val) })))

/-- O49. A trip latches the channel with its source, discards what is left of the volley in progress and is EM_TRIP;
of a channel already latched it is decided again only for a source in TRIP_SAFE_MAP (R89, R90, R377). A volley offered
in the safe state or while a decision that enters it waits, to a latched channel, or to one that is OFF is refused whole and
counted, and books no energy; the window sums stand (R73, R76, R77). Model's choices: log entries 25, 71 and 172. -/
def Obligations.TripAndBudgetRules : Prop :=
  (∀ (src ch : Nat) (s : State),
     let r := tripChannel src ch s
     (emGet r ch).latched = true ∧
     ((emGet s ch).latched = false → (emGet r ch).tripFirst = src ∧ (∀ v ∈ (emGet r ch).vols, inProgress v = false) ∧
       r.safe.todo = s.safe.todo ++ [{ at_ := s.now, up := s.up, bit := 3, obj := ch, detail := src, force := inSafeMap s src }]) ∧
     ((emGet s ch).latched = true → inSafeMap s src = false → r = s)) ∧
  (∀ (o : Offer) (s : State),
     (s.safe.safe = true ∨ s.safe.todo.any (isSafeCause s) = true ∨ (emGet s o.ch).latched = true ∨ (emGet s o.ch).out = 0) →
     let r := judgeVolley o s
     (emGet r o.ch).b10us = (emGet s o.ch).b10us ∧ (emGet r o.ch).b1ms = (emGet s o.ch).b1ms ∧
     (emGet r o.ch).b100ms = (emGet s o.ch).b100ms ∧ (emGet r o.ch).vols = (emGet s o.ch).vols ∧
     ((emGet r o.ch).outOff = satAdd 32 (emGet s o.ch).outOff 1 ∨ (emGet r o.ch).tripSkip = satAdd 32 (emGet s o.ch).tripSkip 1))

/-! ### Histograms, persistence and echoes (ch. 07, ch. 08) -/

/-- O50. A free engine takes the next closed pixel whose events are all in its bins and whose tags are not being cleared
(R24, R213): an error corrected on its read is counted, what is lost is zeroed and decided (R389), the pixel may be
dumped, its background and its echoes are computed, and the pass runs its cycles (R207, R217, R218, R222). A pass that
ends releases the buffer, empty, and its results go through the tail (R207, R218); the pixel at the tail's end is
published no sooner than 2.298 µs after it closed, with persistence and its records (R219). A channel that waits after
a halt closes its pixel once it sees the other buffer released (R206). The background sweep visits a tag: one 8 frames
old or more is no longer valid, and the last tag of the quadrant ends the sweep (R211); the clear of PB.START
completes with no tag valid (R213). Model's choices: log entries 2, 79 and 80. -/
def Obligations.EnginesHaltAndTags : Prop :=
  (∀ (dt : Nat) (q : Fin 4) (s b : State), At dt s b →
     (∀ ecc c, nextClosed (engGet b q).closed = some c → (engGet b q).pass = none → tagWait b q c = false → swapWait b c = false →
       let x := beginClosure q (closureOf c) (engUpd q (fun e => { e with closed := e.closed.erase c }) b)
       let l := readLosses ecc c x
       let y := dumpPixel l.1 l.2
       let t := trackReset l.1.pix.rst (trackGet y l.1.ch)
       let u := trackUse l.1.pix t
       let z := drawFree (trackUpd l.1.ch (fun _ => { u.1 with initLeft := t.initLeft - 1 }) y)
       let d : Done := { px := { l.1 with pix := { l.1.pix with bins := [] } }, bgInit := decide (0 < t.initLeft),
                         bgNone := (pixRho l.1.pix).isNone, fade := (engGet z.2 q).hFade, bank := (engGet z.2 q).hBank,
                         res := echoChain l.1.pix.echoW l.1.pix u.2 (engGet z.2 q).h l.1.pix.z z.1,
                         left := passCycles l.1.pix, since := z.2.up }
       exec (.enginePassStart dt q ecc) s = .next (settle s (engUpd q (fun e => { e with pass := some d }) z.2))) ∧
     (∀ ecc, ((engGet b q).closed = [] ∨ (engGet b q).pass.isSome = true ∨
         ∃ c, nextClosed (engGet b q).closed = some c ∧ (tagWait b q c = true ∨ swapWait b c = true)) →
       exec (.enginePassStart dt q ecc) s = .next (settle s b)) ∧
     (∀ d, (engGet b q).pass = some d →
       let x := reachUp (workEnd b d) b
       exec (.enginePassDone dt q) s = .next (settle s (engUpd q (fun e => { e with
           pass := none, tail := e.tail ++ [{ d with left := 250, since := x.up }], pixelsDone := satAdd 32 e.pixelsDone 1 })
         (chanUpd d.px.ch (fun y => { y with held := false, relAt := some x.now }) x)))) ∧
     (∀ d r, (engGet b q).tail = d :: r →
       let x := reach (d.px.at_ + publishFine) (reachUp (workEnd b d) b)
       let p := persPixel d x
       exec (.enginePublish dt q) s = .next (settle s (publishPixel d p.1 (engUpd q (fun e => { e with
         tail := e.tail.drop 1, peaksDropped := satAdd 32 e.peaksDropped d.res.dropped
         negDrops := satAdd 16 e.negDrops d.res.negDrops }) p.2))))) ∧
  (∀ (dt : Nat) (s b : State), At dt s b →
     (∀ ch : Fin 1024, (chanGet b ch).haltWait = true → (chanGet b ch).held = false →
       let x := match (chanGet b ch).relAt with
         | some t => reach (t + crossing4 b) b
         | none => b
       exec (.haltDeferredClose dt ch) s = .next (settle s (closeChan ch x.now
         (chanUpd ch (fun y => { y with haltWait := false })
           (tileUpd (ch / 16) (fun y => { y with haltCloses := satAdd 16 y.haltCloses 1 }) x))))) ∧
     (∀ (q : Fin 4) (slot : Nat), slot < 4096 * 256 →
       let last := 4096 * 256
       exec (.persTagSweep dt q slot) s = .next (settle s (persUpd q (fun p =>
         let old := match tabGet none p.tags slot with
           | some g => decide (8 ≤ (b.pb.frame % 32768 + 32768 - g % 32768) % 32768)
           | none => false
         { p with tags := if old then tabSet none p.tags slot none else p.tags
                  sweepFrames := if slot + 1 = last then 0 else p.sweepFrames }) b))) ∧
     (∀ q : Fin 4, (persGet b q).clearing = true → exec (.persTagClearDone dt q) s =
       .next (settle s (persUpd q (fun p => { p with tags := [], clearing := false }) b))) ∧
     (∀ q : Fin 4, (persGet b q).clearing = false → exec (.persTagClearDone dt q) s = .next (settle s b)))

/-- O51. A bank swap asked of a quadrant: with no fade running, a swap to the active bank answers 1 and changes
nothing, and one to the other begins; while one runs, the first request is queued and answers 2, and a further one
replaces the one queued, is counted, and answers what it replaced (R230). -/
def Obligations.BankSwap : Prop :=
  ∀ (q bank m : Nat) (s : State),
    let e := engGet s q
    let r := swapBank q bank m s
    (e.run = false → bank = e.bank → r.1 = s ∧ r.2 = pack [(2, 1), (62, 0)]) ∧
    (e.run = false → bank ≠ e.bank → engGet r.1 q = { e with run := true, target := bank, m := m, pos := 0 } ∧ r.2 = 0) ∧
    (e.run = true → e.queued = none → engGet r.1 q = { e with queued := some (bank, m) } ∧ r.2 = pack [(2, 2), (62, 0)]) ∧
    (∀ k n, e.run = true → e.queued = some (k, n) →
      engGet r.1 q = { e with queued := some (bank, m), replaced := satAdd 16 e.replaced 1 } ∧
      r.2 = pack [(2, 3), (1, k), (45, 0), (16, n)])

/-! ### Host interface (ch. 11) -/

/-- O52. HOST_DOORBELL and HOST_RELEASE act on each mailbox of the mask, lowest first: the doorbell of an IDLE or DONE
mailbox of the interface posts it behind the others while a queue entry is free, the release of a DONE one makes it
IDLE; slot writes change one half of one command word of a mailbox that is not POSTED, or all of it in a 64-bit access;
IRQ_PENDING is cleared by ones in the copy of its interface alone; the SPI alert acknowledgement, after which bit 6 is
set again in both copies while newer alerts stand, and the latch of NEWEST_SEQ (R289, R292, R293, R363). A write of
IRQ_ENABLE with which the enabled part of the PCI Express copy leaves zero sends MSI-X vector 0 (R289). REGISTER_WRITE
at each writable offset is that command, and at any other offset it does nothing (Table 1 of ch. 11); 64 bits cover two
registers, the lower first (R287). Model's choices: log entries 46, 47 and 114. -/
def Obligations.HostRegisters : Prop :=
  ∀ (dt : Nat) (iface : Fin 2) (v : BitVec 32) (s b : State), At dt s b →
    (exec (.hostDoorbell dt iface v) s = .next (settle s ((maskBits 32 v.toNat).foldl (fun a m => ring iface m a) b))) ∧
    (∀ m, maskBits 32 v.toNat = [m] → mbxIface m = iface → (mbxGet b m).st ≠ .posted → entryFree iface b = true →
      b.ctl.mbxReady = true → exec (.hostDoorbell dt iface v) s = .next (settle s (mbxPut m { mbxGet b m with st := .posted }
        { b with ctl := { b.ctl with queue := b.ctl.queue ++ [m] } }))) ∧
    (exec (.hostRelease dt iface v) s = .next (settle s ((maskBits 32 v.toNat).foldl (fun a m => releaseMbx iface m a) b))) ∧
    (∀ m, maskBits 32 v.toNat = [m] → mbxIface m = iface → (mbxGet b m).st = .done →
      exec (.hostRelease dt iface v) s = .next (settle s (mbxPut m { mbxGet b m with st := .idle } b))) ∧
    (∀ off, wfSlot off = true →
      let m := (off - 0x8000) / 512
      let i := (off - 0x8000) % 512
      let x := mbxGet b m
      mbxIface m = iface → x.st ≠ .posted → i < 256 →
      (exec (.mbxSlotWrite dt iface off ⟨v, none⟩) s = .next (settle s (mbxPut m { x with
        cmd := tabSet 0 x.cmd (i / 8) (setHalf (tabGet 0 x.cmd (i / 8)) (i % 8 / 4) v.toNat) } b))) ∧
      (∀ h, iface = 0 → off % 8 = 0 → exec (.mbxSlotWrite dt iface off ⟨v, some h⟩) s = .next (settle s (mbxPut m { x with
        cmd := tabSet 0 x.cmd (i / 8) (setHalf (setHalf (tabGet 0 x.cmd (i / 8)) 0 v.toNat) 1 h.toNat) } b)))) ∧
    (∀ off, wfSlot off = true →
      exec (.mbxSlotWrite dt iface off ⟨v, none⟩) s = .next (settle s (slotWrite iface off v.toNat none b))) ∧
    (∀ off h, wfSlot off = true → off % 8 = 0 → exec (.mbxSlotWrite dt 0 off ⟨v, some h⟩) s =
      .next (settle s (slotWrite 0 off v.toNat (some h.toNat) b))) ∧
    (exec (.irqPendingClear dt 0 v) s = .next (settle s
      { b with ctl := { b.ctl with irqPendP := b.ctl.irqPendP - (b.ctl.irqPendP &&& v.toNat) } })) ∧
    (let x := { b with ctl := { b.ctl with irqPendS := b.ctl.irqPendS - (b.ctl.irqPendS &&& v.toNat) } }
     let y := { x with outq := { x.outq with acked := b.outq.seenSeq } }
     (v.toNat.testBit 6 = false → exec (.irqPendingClear dt 1 v) s = .next (settle s x)) ∧
     (v.toNat.testBit 6 = true → b.outq.newest ≤ b.outq.seenSeq →
       exec (.irqPendingClear dt 1 v) s = .next (settle s y)) ∧
     (v.toNat.testBit 6 = true → b.outq.seenSeq < b.outq.newest →
       exec (.irqPendingClear dt 1 v) s = .next (settle s (irqBoth 6 y)))) ∧
    (let y := { b with
      ctl := { b.ctl with irqPendS := b.ctl.irqPendS - (b.ctl.irqPendS &&& 64) }
      outq := { b.outq with acked := b.outq.seenSeq } }
     exec (.spiAlertAck dt) s =
       .next (settle s (if b.outq.seenSeq < b.outq.newest then irqBoth 6 y else y))) ∧
    (exec (.spiAlertRead dt) s = .next (settle s { b with outq := { b.outq with seenSeq := b.outq.newest } })) ∧
    (exec (.registerWrite dt iface 0x0008 ⟨v, none⟩) s = exec (.hostDoorbell dt iface v) s) ∧
    (exec (.registerWrite dt iface 0x000C ⟨v, none⟩) s = exec (.hostRelease dt iface v) s) ∧
    (exec (.registerWrite dt iface 0x0018 ⟨v, none⟩) s = exec (.irqPendingClear dt iface v) s) ∧
    (exec (.registerWrite dt iface 0x0034 ⟨v, none⟩) s = exec (.pbStreamDoorbell dt v) s) ∧
    (∀ off high, wfSlot off = true → wfWide iface off high = true →
      exec (.registerWrite dt iface off ⟨v, high⟩) s = exec (.mbxSlotWrite dt iface off ⟨v, high⟩) s) ∧
    (∀ off h, wfOffset off = true → wfSlot off = false → off % 8 = 0 → exec (.registerWrite dt 0 off ⟨v, some h⟩) s =
      .next (settle s (regWrite 0 (off + 4) h.toNat (regWrite 0 off v.toNat b)))) ∧
    (let y := { b with ctl := { b.ctl with irqEnP := v.toNat % 256 } }
     exec (.registerWrite dt 0 0x001C ⟨v, none⟩) s = .next (settle s
       (if b.ctl.irqPendP &&& b.ctl.irqEnP = 0 ∧ b.ctl.irqPendP &&& (v.toNat % 256) ≠ 0 then out (.msix 0) y else y))) ∧
    (exec (.registerWrite dt 1 0x001C ⟨v, none⟩) s = .next (settle s { b with ctl := { b.ctl with irqEnS := v.toNat % 256 } })) ∧
    (∀ off, wfOffset off = true → wfSlot off = false → off ∉ [0x0008, 0x000C, 0x0018, 0x001C, 0x0034] →
      exec (.registerWrite dt iface off ⟨v, none⟩) s = .next (settle s b))

/-- O53. A doorbell posts a mailbox of its interface that is not POSTED and queues it behind the others while an entry
is free to that interface: 16 in all, at most 12 for PCI Express and UDP together. With none free it is answered BUSY
with SEQ 0 at once and BUSY_COUNT counts; the command is neither executed nor journaled and its slot stays (R297).
Beside that rule, derived from R290, R291 and R293: of a mailbox of another interface or POSTED it is ignored and
DB_IGNORED counts. A release takes a DONE mailbox to IDLE, its response staying readable; any other is ignored and
counted. -/
def Obligations.MailboxStates : Prop :=
  (∀ (iface m : Nat) (s : State),
     (mbxIface m = iface → (mbxGet s m).st ≠ .posted → entryFree iface s = true →
       (mbxGet (ring iface m s) m).st = .posted ∧ (mbxGet (ring iface m s) m).cmd = (mbxGet s m).cmd ∧
       (ring iface m s).ctl.queue = s.ctl.queue ++ [m] ∧ (ring iface m s).ctl.seq = s.ctl.seq) ∧
     (mbxIface m = iface → (mbxGet s m).st ≠ .posted → entryFree iface s = false →
       (mbxGet (ring iface m s) m).st = .done ∧ (ring iface m s).ctl.queue = s.ctl.queue ∧
       (ring iface m s).ctl.busyCount = satAdd 16 s.ctl.busyCount 1 ∧
       fld (tabGet 0 (mbxGet (ring iface m s) m).resp 1) 63 48 = stBusy ∧
       fld (tabGet 0 (mbxGet (ring iface m s) m).resp 1) 31 0 = 0 ∧
       (mbxGet (ring iface m s) m).cmd = (mbxGet s m).cmd ∧ (ring iface m s).ctl.jrnl = s.ctl.jrnl ∧
       (ring iface m s).ctl.seq = s.ctl.seq) ∧
     (entryFree iface s = true ↔ s.ctl.queue.length < 16 ∧
       (iface = 1 ∨ (s.ctl.queue.filter (fun k => mbxIface k != 1)).length < 12)) ∧
     ((mbxIface m ≠ iface ∨ (mbxGet s m).st = .posted) →
       ring iface m s = { s with ctl := { s.ctl with dbIgnored := satAdd 8 s.ctl.dbIgnored 1 } }) ∧
     (mbxIface m = iface → (mbxGet s m).st = .done →
       (mbxGet (releaseMbx iface m s) m).st = .idle ∧ (mbxGet (releaseMbx iface m s) m).resp = (mbxGet s m).resp) ∧
     ((mbxIface m ≠ iface ∨ (mbxGet s m).st ≠ .done) →
       releaseMbx iface m s = { s with ctl := { s.ctl with dbIgnored := satAdd 8 s.ctl.dbIgnored 1 } }))

/-- O54. A 32-bit write into a command slot that its interface may write reads back there, and every other half word of
every mailbox, command or response, reads as it did; the reserved half of command word 1 reads as zero (R15); a 64-bit
write is the two halves, the lower one first; a write into a response slot, into a POSTED mailbox or by another
interface changes no slot and counts DB_IGNORED once (R292, R293). A response puts its mailbox into DONE, its status in
word 1 [63:48] and its sequence number in word 1 [31:0], and sets IRQ bit 0 of the mailbox's own interface alone, and of
none for a UDP mailbox (R289, R291, R292). The two copies of IRQ_PENDING are separate: a condition sets its bit in the
copies it is raised in and clears none; the MSI-X vector 0 leaves exactly when the enabled part of the PCI Express copy
leaves zero; SPI_IRQ_N is low exactly while the enabled part of the SPI copy is not zero (R289). Model's choices: log
entries 12 (a bit raised in one copy alone, where R289 says both), 47 and 114 (a 64-bit write that is ignored counts
once). -/
def Obligations.MailboxWindow : Prop :=
  (∀ (iface off : Nat) (v : Nat) (s : State), wfSlot off = true → v < 2 ^ 32 →
     let m := (off - 0x8000) / 512
     (mbxIface m = iface → (mbxGet s m).st ≠ .posted → (off - 0x8000) % 512 < 256 →
       let t := slotWrite iface off v none s
       ((off - 0x8000) % 512 ≠ 8 → regRead iface off t = v) ∧
       ((off - 0x8000) % 512 = 8 → regRead iface off t = 0) ∧
       (∀ o, wfSlot o = true → o ≠ off → regRead iface o t = regRead iface o s) ∧
       ∀ h, off % 8 = 0 → tabWf {} s.ctl.mbx = true → tabWf 0 (mbxGet s m).cmd = true → slotWrite iface off v (some h) s = slotWrite iface (off + 4) h none t) ∧
     (∀ high, (mbxIface m ≠ iface ∨ (mbxGet s m).st = .posted ∨ 256 ≤ (off - 0x8000) % 512) →
       slotWrite iface off v high s = { s with ctl := { s.ctl with dbIgnored := satAdd 8 s.ctl.dbIgnored 1 } })) ∧
  (∀ (m status seq : Nat) (ws : List Word) (s : State), m < 32 → status < 2 ^ 16 → seq < 2 ^ 32 → ws.length ≤ 30 →
     let t := respond m status false false seq ws s
     (mbxGet t m).st = .done ∧ fld (tabGet 0 (mbxGet t m).resp 1) 63 48 = status ∧
     fld (tabGet 0 (mbxGet t m).resp 1) 31 0 = seq ∧ fld (tabGet 0 (mbxGet t m).resp 0) 47 32 = 8 * ws.length ∧
     (∀ i, i < ws.length → tabGet 0 (mbxGet t m).resp (2 + i) = ws.getD i 0) ∧
     (m < 16 → t.ctl.irqPendP = s.ctl.irqPendP ||| 1 ∧ t.ctl.irqPendS = s.ctl.irqPendS) ∧
     (16 ≤ m → m < 24 → t.ctl.irqPendS = s.ctl.irqPendS ||| 1 ∧ t.ctl.irqPendP = s.ctl.irqPendP) ∧
     (24 ≤ m → t.ctl.irqPendS = s.ctl.irqPendS ∧ t.ctl.irqPendP = s.ctl.irqPendP) ∧
     ∀ k, k ≠ m → mbxGet t k = mbxGet s k) ∧
  (∀ (bit : Nat) (s : State),
     (irqP bit s).ctl.irqPendP = s.ctl.irqPendP ||| 2 ^ bit ∧ (irqP bit s).ctl.irqPendS = s.ctl.irqPendS ∧
     (irqS bit s).ctl.irqPendS = s.ctl.irqPendS ||| 2 ^ bit ∧ (irqS bit s).ctl.irqPendP = s.ctl.irqPendP ∧
     (irqBoth bit s).ctl.irqPendP = s.ctl.irqPendP ||| 2 ^ bit ∧ (irqBoth bit s).ctl.irqPendS = s.ctl.irqPendS ||| 2 ^ bit ∧
     ((irqP bit s).outq.outs = s.outq.outs ++ [.msix 0] ↔
       (s.ctl.irqPendP &&& s.ctl.irqEnP = 0 ∧ s.ctl.irqEnP.testBit bit = true)) ∧
     (spiIrqLow (irqS bit s) = true ↔ (spiIrqLow s = true ∨ s.ctl.irqEnS.testBit bit = true)))

/-- O55. SPI WRITE stores its words one by one from its address, and a misaligned one or one that is no multiple of 4
bytes is discarded; READ gives the bytes of the words from its address (R299). WRITE_C is applied whole if it ends at
its CRC, holds its count and the CRC checks, and otherwise SPI_CRC_ERRORS counts and nothing is written; one whose CRC
checks but that is misaligned or of no words or above 64 is discarded; READ_C gives its words and their CRC, and one
misaligned or of a count outside 1 to 64 bytes that the spec does not state; a burst read from CFG_EPOCH on that covers
CFG_DIGEST gives the two as one pair (R300). A UDP control datagram acts only where the switch accepts its frame for
CTRL_UDP_PORT (R301, R366). One that is malformed, or names a POSTED mailbox, is ignored and counted; one that repeats
the last command of a DONE mailbox from the same sender is answered again with RESENT and runs nothing; any other, one
with the same words from another sender too, is written into its slot and rung (R301, R302). Model's choices: log
entries 49 (the bytes of such a READ_C are free values; such a WRITE_C is discarded uncounted) and 141 (where the bytes
after the last whole word stand). -/
def Obligations.SpiAndUdp : Prop :=
  (∀ (dt : Nat) (a : BitVec 16) (s b : State), At dt s b →
     (∀ d, a.toNat % 4 = 0 → d.length % 4 = 0 → exec (.spiWrite dt a d) s =
       .next (settle s (spiStore a.toNat (chunks 4 d.length d) b))) ∧
     (∀ d, a.toNat % 4 = 0 → d.length = 4 → exec (.spiWrite dt a d) s =
       .next (settle s (regWrite 1 a.toNat (ofLe (d.map BitVec.toNat)) b))) ∧
     (∀ d, (a.toNat % 4 ≠ 0 ∨ d.length % 4 ≠ 0) → exec (.spiWrite dt a d) s = .next (settle s b)) ∧
     (∀ n, a.toNat % 4 = 0 → exec (.spiRead dt a n) s =
       .next (settle s (let r := spiWords ((n + 3) / 4) a.toNat b; out (.miso (r.1.take n)) r.2))) ∧
     (a.toNat % 4 = 0 → a.toNat ≠ 0xC000 → exec (.spiRead dt a 4) s =
       .next (settle s (out (.miso (leBytes 4 (regRead 1 a.toNat b))) b))) ∧
     (∀ (n : BitVec 8) d crc, 1 ≤ n.toNat → n.toNat ≤ 64 → a.toNat % 4 = 0 → d.length = 4 * n.toNat →
       crc32c (spiCrcBytes 0x12 a.toNat n.toNat (d.map BitVec.toNat)) = crc.toNat →
       exec (.spiWriteC dt a n d crc true) s = .next (settle s (spiStore a.toNat (chunks 4 n.toNat d) b))) ∧
     (∀ (n : BitVec 8) d crc e,
       (e = false ∨ d.length ≠ 4 * n.toNat ∨ crc32c (spiCrcBytes 0x12 a.toNat n.toNat (d.map BitVec.toNat)) ≠ crc.toNat) →
       exec (.spiWriteC dt a n d crc e) s =
         .next (settle s { b with ctl := { b.ctl with spiCrcErrors := satAdd 8 b.ctl.spiCrcErrors 1 } })) ∧
     (∀ (n : BitVec 8) d crc, d.length = 4 * n.toNat → crc32c (spiCrcBytes 0x12 a.toNat n.toNat (d.map BitVec.toNat)) = crc.toNat →
       (a.toNat % 4 ≠ 0 ∨ n.toNat = 0 ∨ 64 < n.toNat) → exec (.spiWriteC dt a n d crc true) s = .next (settle s b)) ∧
     (∀ n : BitVec 8, 1 ≤ n.toNat → n.toNat ≤ 64 → a.toNat % 4 = 0 → exec (.spiReadC dt a n) s =
       .next (settle s (let r := spiWords n.toNat a.toNat b
         out (.miso (r.1 ++ leBytes 4 (crc32c (spiCrcBytes 0x0B a.toNat n.toNat r.1)))) r.2))) ∧
     (∀ n : BitVec 8, (a.toNat % 4 ≠ 0 ∨ n.toNat = 0 ∨ 64 < n.toNat) → exec (.spiReadC dt a n) s =
       .next (settle s (let r := freeBytes (4 * n.toNat + 4) b; out (.miso r.1) r.2))) ∧
     (∀ n, 2 ≤ n → (spiWords n 0x0028 b).1.take 8 = leBytes 4 b.ctl.pubEpoch ++ leBytes 4 b.ctl.pubDigest)) ∧
  (∀ (dt : Nat) (port : Fin 2) (f : EthFrame) (ip : BitVec 32) (udp : BitVec 16) (d : UdpData) (s b : State),
     At dt s b → wfFrame f = true → wfUdp d = true →
     let a := (frameRx port f b).2
     let m := fld (d.words.getD 0 0) 63 56
     let x := mbxGet a m
     let src : UdpSrc := { ip := ip.toNat, port := udp.toNat, swPort := port.val, mac := f.srcMac }
     (((frameRx port f b).1 = false ∨ f.udp.map (fun u => u.2) ≠ some (cfgF b .ctrlPort 0 0 15 0)) →
       exec (.udpCtrlDatagram dt ⟨port, f⟩ ip udp d) s = .next (settle s a)) ∧
     ((frameRx port f b).1 = true → f.udp.map (fun u => u.2) = some (cfgF b .ctrlPort 0 0 15 0) →
       ((udpOk d = false ∨ x.st = .posted) → exec (.udpCtrlDatagram dt ⟨port, f⟩ ip udp d) s =
         .next (settle s { a with ctl := { a.ctl with dbIgnored := satAdd 8 a.ctl.dbIgnored 1 } })) ∧
       (∀ old : UdpSrc, udpOk d = true → x.st = .done → x.src = some old → old.ip = ip.toNat → old.port = udp.toNat →
         x.last = { d with words := d.words.drop 1 } →
         exec (.udpCtrlDatagram dt ⟨port, f⟩ ip udp d) s = .next (settle s (udpReply m src (resentWords x) a))) ∧
       (udpOk d = true → x.st ≠ .posted → (x.st = .idle ∨ x.last ≠ { d with words := d.words.drop 1 }) →
         exec (.udpCtrlDatagram dt ⟨port, f⟩ ip udp d) s = .next (settle s (ring 2 m
           (mbxPut m { x with cmd := udpSlot d, src := some src, last := { d with words := d.words.drop 1 } } a)))) ∧
       (∀ old : UdpSrc, udpOk d = true → x.st = .done → x.src = some old → (old.ip ≠ ip.toNat ∨ old.port ≠ udp.toNat) →
         exec (.udpCtrlDatagram dt ⟨port, f⟩ ip udp d) s = .next (settle s (ring 2 m
           (mbxPut m { x with cmd := udpSlot d, src := some src, last := { d with words := d.words.drop 1 } } a)))) ∧
       (d.tail = [] → udpSlot d = slotOf ((d.words.drop 1).take 32)) ∧
       (udpOk d = true → x.st = .idle → entryFree 2 a = true → a.ctl.mbxReady = true →
         exec (.udpCtrlDatagram dt ⟨port, f⟩ ip udp d) s = .next (settle s (mbxPut m
           { x with st := .posted, cmd := udpSlot d, src := some src, last := { d with words := d.words.drop 1 } }
           { a with ctl := { a.ctl with queue := a.ctl.queue ++ [m] } })))))

/-- O56. Publication takes the oldest pair not yet published: CFG_EPOCH and CFG_DIGEST together, the digests of the
journal entries of that epoch filled; where the pair is new its confirmation is pending again and CFG_NEW is decided;
where the epoch rises IRQ bit 2 is set in both copies (R314, R320, R394). With nothing to publish it does nothing, and a
pair that is unchanged is taken off without notice. CONS of an enabled host ring is taken modulo its size, and the
records that waited for that read are decided in order, each written where it fits and otherwise dropped and counted
(R361). An interrupt that waits is sent once IRQ_COAL_US has passed since the last (R360). A datagram leaves FLUSH_US
after its first record (R366). Held alerts leave in order while their destination accepts (R362). TELEM_PERIOD_MS after
the one before a telemetry record falls due; one still due is skipped and counted (R371). Model's choices: log entries
2, 41, 48, 123 (records wait for CONS_READ) and 142. -/
def Obligations.PublicationAndQueues : Prop :=
  (∀ (dt : Nat) (s b : State), At dt s b →
     (b.ctl.unpub = [] → exec (.cfgPublish dt) s = .next (settle s b)) ∧
     (∀ e d r, b.ctl.unpub = (e, d) :: r → e ≠ b.ctl.pubEpoch →
       let x := irqBoth 2 { b with ctl := { b.ctl with
         unpub := r, pubEpoch := e, pubDigest := d
         jrnl := b.ctl.jrnl.map (fun j => if j.epoch = e then { j with digestOk := true } else j) } }
       exec (.cfgPublish dt) s = .next (settle s { x with safe := { x.safe with
         confirmPending := true, pubAt := x.up
         todo := x.safe.todo ++ [{ at_ := x.now, up := x.up, bit := 18, obj := 0, detail := b.ctl.jseq }] } })) ∧
     (∀ r, b.ctl.unpub = (b.ctl.pubEpoch, b.ctl.pubDigest) :: r →
       exec (.cfgPublish dt) s = .next (settle s { b with ctl := { b.ctl with
         unpub := r
         jrnl := b.ctl.jrnl.map (fun j => if j.epoch = b.ctl.pubEpoch then { j with digestOk := true } else j) } })) ∧
     (∀ d r, b.ctl.unpub = (b.ctl.pubEpoch, d) :: r → d ≠ b.ctl.pubDigest →
       exec (.cfgPublish dt) s = .next (settle s { b with
         ctl := { b.ctl with
           unpub := r, pubDigest := d
           jrnl := b.ctl.jrnl.map (fun j => if j.epoch = b.ctl.pubEpoch then { j with digestOk := true } else j) }
         safe := { b.safe with
           confirmPending := true, pubAt := b.up
           todo := b.safe.todo ++ [{ at_ := b.now, up := b.up, bit := 18, obj := 0, detail := b.ctl.jseq }] } }))) ∧
  (∀ (dt : Nat) (s b : State), At dt s b →
     (∀ q cons, q < queueCount b → (cfgF b .queue q 0 63 63 = 1 ∨ (qRun b q).wait ≠ []) → cfgF b .queue q 0 60 59 = 0 →
       let x := qUpd q (fun r => { r with wait := [] })
         (qUpd q (fun r => { r with cons := cons % 2 ^ cfgF b .queue q 0 43 39 }) b)
       exec (.consRead dt q cons) s =
         .next (settle s ((qRun b q).wait.foldl (fun a f => ringOffer q f a) x))) ∧
     (∀ q, (qRun b q).irqWait = true → exec (.queueIrqCoal dt q) s =
       .next (settle s (queueIrq q (reachUp ((qRun b q).irqAt.getD 0 + cfgF b .queue q 0 38 32 * fineUs) b)))) ∧
     (∀ q, (qRun b q).irqWait = false → exec (.queueIrqCoal dt q) s = .next (settle s b)) ∧
     (∀ q, (qRun b q).dgram.frags ≠ [] → exec (.datagramFlush dt q) s = .next (settle s (flushQueue q
       (reachUp ((qRun b q).dgram.firstAt + cfgF b .route (cfgF b .queue q 1 7 0) 2 47 40 * fineUs) b)))) ∧
     (∀ (d : Fin 3) q body r, c0Get b d = (q, body) :: r →
       (destAccepts d q body b = false → exec (.c0StoreDrain dt d) s = .next (settle s b)) ∧
       (destAccepts d q body b = true → exec (.c0StoreDrain dt d) s =
         .next (settle s (drainC0 d 255 (deliverAlert d q body (c0Set d r b)))))) ∧
     (cfgF b .port 2 1 30 15 ≠ 0 → b.ctl.fwFault = false → b.ctl.mbxReady = true →
       let r := reachUp (b.outq.telemAt + cfgF b .port 2 1 30 15 * fineMs) b
       exec (.telemetryPeriod dt) s = .next (settle s { r with outq := { r.outq with
         telemAt := r.up, telemDue := true
         telemSkipped := if r.outq.telemDue then satAdd 16 r.outq.telemSkipped 1 else r.outq.telemSkipped } })))

/-- O57. The journal: an entry takes the next JSEQ, the device time and the low half of the frame counter, and stands
as the newest; the ring never exceeds 4,096, and the oldest goes first; an unmirrored entry pushed out is counted lost
and sets IRQ bit 3 (R312, R313, R318). Model's choices: log entry 13. -/
def Obligations.JournalAppends : Prop :=
  ∀ (e : JEntry) (s : State),
    let r := journal e s
    r.ctl.jseq = (s.ctl.jseq + 1) % 2 ^ 32 ∧
    r.ctl.jrnl.getLast? = some { e with jseq := (s.ctl.jseq + 1) % 2 ^ 32, dt := s.now, frameLo := s.pb.frame % 65536 } ∧
    (s.ctl.jrnl.length ≤ 4096 → r.ctl.jrnl.length ≤ 4096) ∧
    (s.ctl.jrnl.length < 4096 → r.ctl.jlost = s.ctl.jlost ∧ r.ctl.jrnl.dropLast = s.ctl.jrnl) ∧
    (4096 ≤ s.ctl.jrnl.length → r.ctl.jrnl.dropLast = s.ctl.jrnl.drop 1) ∧
    (4096 ≤ s.ctl.jrnl.length → s.ctl.jmirr < (s.ctl.jrnl.getD 0 {}).jseq →
      r.ctl.jlost = satAdd 32 s.ctl.jlost 1 ∧ r.ctl.irqPendP = s.ctl.irqPendP ||| 8 ∧ r.ctl.irqPendS = s.ctl.irqPendS ||| 8) ∧
    r.cfg = s.cfg ∧ r.safe = s.safe ∧ r.pb = s.pb

/-! ### Output and the switch (ch. 13) -/

/-- O58. A frame that arrives on a port whose link is up passes its filter and 802.1CB recovery, is learned, and is the
device's, where a datagram that it accepts acts as its bytes spell it, or goes on; on a port that is down nothing
arrives (R364, R366, R368). The frame being sent leaves when its bytes have had their line time, unless hold has
suspended it before (R372), and the next one starts (R370). A link goes down with its port; it comes up on an enabled
port while the NPLL is locked (R368). 802.1AS on a port that runs it: a peer-delay answer gives the propagation delay
and asCapable; of the device's own domain, a sync message gives both ports the offset to gPTP time, an announcement the
grandmaster; what a port knows decides the time scale of the schedules. Its messages leave one interval after the last,
a sync only with a grandmaster behind the other port; a sync that has left is followed by the gPTP time at which it did,
and a peer's delay request is answered with the time at which it came, and then with that at which the answer left
(R364, R367). The gate list that waits becomes operational at its cycle start, and at an interval's end the next entry's
gates take effect, with hold during a C0 window on a port with preemption (R364). RESET_MS after the last frame that it
accepted, a stream's recovery takes the next frame whatever its number (R364, R365). Model's choices: log entries 2, 43,
57, 58, 60 (when hold is asserted and released), 62, 63, 65 and 141. -/
def Obligations.SwitchEvents : Prop :=
  (∀ (dt : Nat) (p : Fin 2) (s b : State), At dt s b →
     (∀ f, wfFrame f = true → (frameRx p f b).1 = false → exec (.ethFrameRx dt p f) s = .next (settle s (frameRx p f b).2)) ∧
     (∀ f, wfFrame f = true → (frameRx p f b).1 = true →
       let a := (frameRx p f b).2
       (f.udp.map (fun u => u.2) = some (cfgF a .ctrlPort 0 0 15 0) →
         exec (.ethFrameRx dt p f) s = .next (settle s (udpCommand (udpSender p f) (udpPayload f) a))) ∧
       (f.udp.map (fun u => u.2) ≠ some (cfgF a .ctrlPort 0 0 15 0) →
         let d := udpPayload f
         exec (.ethFrameRx dt p f) s = .next (settle s (streamData (fld (d.words.getD 0 0) 63 32) (fld (d.words.getD 0 0) 5 0)
           (if d.tail.isEmpty && d.words.length % 4 == 1 then chunks 4 48 (d.words.drop 1) else []) a)))) ∧
     (∀ f, wfFrame f = true → (portGet b p).link = false → exec (.ethFrameRx dt p f) s = .next (settle s b)) ∧
     (∀ f, wfFrame f = true → (portGet b p).link = true → filterOf b p f = none → recoverOf b f = none → f.arpFor = none →
       let x := { b with sw := { b.sw with macs := ((f.srcMac, frameVid f, p.val) ::
         b.sw.macs.filter (fun e => !(e.1 == f.srcMac && e.2.1 == frameVid f))).take 4096 } }
       (f.dstMac ≠ devMac b → f.dstMac = bcast →
         exec (.ethFrameRx dt p f) s = .next (settle s (forward (1 - p.val) f x))) ∧
       (f.dstMac = devMac b → admitP2 x p f = true → devAccepts x p f = true →
         exec (.ethFrameRx dt p f) s = .next (settle s (datagramAct p f x))) ∧
       (f.dstMac = devMac b → admitP2 x p f = true → devAccepts x p f = false →
         exec (.ethFrameRx dt p f) s = .next (settle s (portUpd p (fun y => { y with qciDrops := satAdd 32 y.qciDrops 1 }) x)))) ∧
     (∀ q f, (portGet b p).sending = some (q, f) →
       let r := holdFor p (reachUp ((portGet b p).sendAt + lineTime (f.len - (portGet b p).sentB + 20)) b)
       ((portGet r p).sending = none → exec (.frameTransmitted dt p) s = .next (settle s r)) ∧
       let v := out (.frame p f) (portUpd p (fun x => { x with sending := none, tx := satAdd 64 x.tx 1 }) r)
       let left := v.now - ((v.up : Int) - f.began)
       ((portGet r p).sending.isSome = true →
         ((∀ d, f.info ≠ .sync d) → (∀ n, f.info ≠ .pdelayResp n) →
           exec (.frameTransmitted dt p) s = .next (settle s (portServe p v))) ∧
         (∀ d, f.info = .sync d → exec (.frameTransmitted dt p) s = .next (settle s (portServe p (gptpFrame p
           (.followUp d (rndDiv (left + (portGet v (1 - p.val)).gptpOfs * fineNs) fineNs)) v)))) ∧
         (∀ n, f.info = .pdelayResp n → exec (.frameTransmitted dt p) s =
           .next (settle s (portServe p (gptpFrame p (.pdelayFollow (rndDiv left fineNs)) v)))))) ∧
     ((portGet b p).sending = none → exec (.frameTransmitted dt p) s = .next (settle s b)) ∧
     ((portGet b p).link = false → cfgF b .port p 0 63 62 ≠ 0 → b.tb.npll.lock = true →
       let d := drawBool b
       exec (.portLinkChange dt p true) s = .next (settle s (portServe p (portUpd p (fun x => { x with
         link := true, preempt := cfgF d.2 .port p 0 61 61 == 1 && d.1 }) d.2)))) ∧
     ((portGet b p).link = true → exec (.portLinkChange dt p false) s = .next (settle s (schedBoth
       (portUpd p (fun x => { x with link := false, asCapable := false, gmKnown := false, preempt := false
                                     sending := none, paused := none }) b))))) ∧
  (∀ (dt : Nat) (p : Fin 2) (s b : State), At dt s b →
     let dom := cfgF b .time 2 0 63 56
     (asOn b p = true →
       (∀ ns, exec (.gptpMessageRx dt p (.pdelay ns)) s = .next (settle s (schedBoth (portUpd p (fun x => { x with
         propDelay := ns, asCapable := decide (ns ≤ cfgF b .time p 0 62 47) }) b)))) ∧
       exec (.gptpMessageRx dt p .pdelayReq) s = .next (settle s (gptpFrame p (.pdelayResp (rndDiv b.now fineNs)) b)) ∧
       (∀ t : Nat, (portGet b p).asCapable = true → exec (.gptpMessageRx dt p (.sync dom t)) s =
         .next (settle s (syncOfs t (1 - p.val) (portUpd p (fun x => { x with gptpOfs := rndDiv ((t : Int) * fineNs - b.now) fineNs }) b)))) ∧
       (∀ g, (portGet b p).asCapable = true → exec (.gptpMessageRx dt p (.announce dom g)) s =
         .next (settle s (schedBoth (portUpd p (fun x => { x with gmKnown := g }) b)))) ∧
       (∀ d t g, d ≠ dom → exec (.gptpMessageRx dt p (.sync d t)) s = .next (settle s b) ∧
         exec (.gptpMessageRx dt p (.announce d g)) s = .next (settle s b)) ∧
       (let r := reachUp ((portGet b p).pdelays + logInterval (cfgF b .time p 0 42 39)) b
        exec (.gptpMessageTx dt p true) s =
         .next (settle s (gptpFrame p .pdelay (portUpd p (fun y => { y with pdelays := r.up }) r)))) ∧
       ((portGet b p).asCapable = true → (portGet b (1 - p.val)).asCapable = true → (portGet b (1 - p.val)).gmKnown = true →
         let r := reachUp ((portGet b p).syncs + logInterval (cfgF b .time p 0 46 43)) b
         exec (.gptpMessageTx dt p false) s =
           .next (settle s (gptpFrame p (.sync dom)
             (portUpd p (fun y => { y with syncs := r.up }) r))))) ∧
     (asOn b p = false → (∀ msg, exec (.gptpMessageRx dt p msg) s = .next (settle s b))) ∧
     (∀ l, (portGet b p).admin = some l →
       let start := cycleStart l (schedT b p)
       exec (.gateListApply dt p) s = .next (settle s (gateEnter p l 0 start
         (portUpd p (fun x => { x with oper := some l, admin := none }) (reachSched p start b))))) ∧
     (∀ l, (portGet b p).oper = some l → exec (.gateIntervalEnd dt p) s =
       .next (settle s (gateEnter p l (((portGet b p).gateIdx + 1) % max 1 (gateTimes l).length) (portGet b p).gateEnd
         (reachSched p (portGet b p).gateEnd b)))) ∧
     (∀ l, (portGet b p).oper = some l →
       let i := ((portGet b p).gateIdx + 1) % max 1 (gateTimes l).length
       let r := reachSched p (portGet b p).gateEnd b
       let e := (gateTimes l).getD i (255, 0, 0)
       (portGet r p).sending = none → exec (.gateIntervalEnd dt p) s = .next (settle s (portServe p (portUpd p (fun x => { x with
         gateIdx := i, gateEnd := (portGet b p).gateEnd + e.2.2, gatesOpen := e.1
         hold := x.preempt && e.1 == 128 }) r)))) ∧
     (∀ st : Fin 64,
       let r := reachUp ((tabGet {} b.sw.cb st).at_ + cfgF b .cb st 1 55 40 * fineMs) b
       exec (.cbRecoveryReset dt st) s = .next (settle s { r with sw := { r.sw with
         cb := tabUpd {} r.sw.cb st (fun c => { c with takeAny := true, hist := 0 }) } })))

/-! ### The Umpire (ch. 14) -/

/-- O59. The self-test ends: passed, it is over; failed, SELFTEST is decided with the path and step that failed (R385);
where it was the last step of the boot, that is complete. A lockstep mismatch is LOCKSTEP; a watchdog service earlier
than 32 AON periods after the last, or none within 320, is WATCHDOG (R386, R387). Corrected errors are counted, and more
than CE_LIMIT of them in any 1 s, unless it is zero, wait to be ECC_RATE (R389). A scrub of a granule in order changes
nothing; an uncorrectable one is ECC_UNCORR with its memory and granule and the granule is rewritten, but in controller
memory, where it stays (R389 to R392). The plausibility check compares the inferred temperature with the mean of the
last second: more than 12 °C apart, with the comparison not suspended, is implausible, and a plausible one counts toward
its end, which one without the comparison begins anew (R393). HOST_SILENT is decided HOST_LIVE_MS after the last
confirmation or setting, unless it is off or active (R395). HEARTBEAT comes every HEARTBEAT_MS with the active causes
(R397); both are timed in calibrated AON periods (R376). Model's choices: log entries 2, 53, 55, 86, 91, 128 and 129. -/
def Obligations.Supervision : Prop :=
  (∀ (dt : Nat) (s b : State), At dt s b →
     let also := fun (d : Decision) (x : State) => { x with safe := { x.safe with todo := x.safe.todo ++ [{ d with at_ := x.now, up := x.up }] } }
     (b.safe.selftest = true →
       let x := { b with safe := { b.safe with selftest := false } }
       exec (.selftestDone dt none) s = .next (settle s (bootReady x)) ∧
       ∀ p n, exec (.selftestDone dt (some (p, n))) s = .next (settle s (bootReady (also { bit := 2, obj := p, detail := n } x)))) ∧
     (∀ g : Fin 8, b.ctl.fwFault = false →
       exec (.lockstepMismatch dt g) s = .next (settle s (also { bit := 6, obj := 0, detail := g } b))) ∧
     (∀ a, b.safe.wdAt = some a → b.ctl.fwFault = false →
       let x := { b with safe := { b.safe with wdAt := some b.up } }
       (a + 32 * b.tb.aonCal ≤ b.up → exec (.watchdogService dt) s = .next (settle s x)) ∧
       (b.up < a + 32 * b.tb.aonCal →
         exec (.watchdogService dt) s = .next (settle s (also { bit := 7, obj := 0, detail := 1 } x)))) ∧
     (∀ a, b.safe.wdAt = some a →
       let r := reachUp (a + 320 * b.tb.aonCal) b
       exec (.watchdogTimeout dt) s =
         .next (settle s (also { bit := 7, obj := 0, detail := 0 } { r with safe := { r.safe with wdAt := none } })))) ∧
  (∀ (dt : Nat) (s b : State), At dt s b →
     let also := fun (d : Decision) (x : State) => { x with safe := { x.safe with todo := x.safe.todo ++ [{ d with at_ := x.now, up := x.up }] } }
     let limit := cfgF b .safe 0 1 27 12
     let second := (b.up :: b.safe.ceAt.filter (fun t => decide (b.up < t + 1000 * fineMs))).take 65536
     let corrected := fun mem => { b with safe := { b.safe with
       ceTotal := satAdd 32 b.safe.ceTotal 1, ceAt := second, ceMem := mem
       ceOver := if limit ≠ 0 ∧ limit < second.length then max b.safe.ceOver second.length else b.safe.ceOver } }
     (b.safe.ceOver ≠ 0 → exec (.eccRateWindow dt) s =
       .next (settle s (also { bit := 9, obj := b.safe.ceMem, detail := b.safe.ceOver }
         { b with safe := { b.safe with ceOver := 0 } }))) ∧
     (b.safe.ceOver = 0 → exec (.eccRateWindow dt) s = .next (settle s b)) ∧
     (∀ (ch : Fin 1024) (g : Fin 8192),
       exec (.scrub dt ch g 0) s = .next (settle s b) ∧
       exec (.scrub dt ch g 1) s = .next (settle s (corrected ch.val)) ∧
       exec (.scrub dt ch g 2) s = .next (settle s (eccBank ch g (also { bit := 8, obj := ch, detail := g } b)))) ∧
     (∀ mem g, 0x400 ≤ mem →
       exec (.memoryScrub dt mem g 0) s = .next (settle s b) ∧
       exec (.memoryScrub dt mem g 1) s = .next (settle s (corrected mem)) ∧
       (mem = 0x420 → exec (.memoryScrub dt mem g 2) s = .next (settle s (also { bit := 8, obj := mem, detail := g } b))) ∧
       (mem ≠ 0x420 → exec (.memoryScrub dt mem g 2) s =
         .next (settle s (eccZero mem g (also { bit := 8, obj := mem, detail := g } b)))))) ∧
  (∀ (dt : Nat) (s b : State), At dt s b →
     (∀ t : Int,
       let run := (b.safe.sameCnt, t) :: b.safe.sameInf.filter (fun x => decide (b.safe.sameCnt ≤ x.1 + 1000))
       let x := { b with safe := { b.safe with tempInferred := t, tempSensor := sampleMean b, sameInf := run } }
       let y := { x with safe := { x.safe with plausCnt := x.safe.plausCnt + 1 } }
       let act := exec (.tempPlausibilityCheck dt t) s
       (plausSuspended b = false → 192 < (sampleMean b - t).natAbs → act = .next (settle s (implausible x))) ∧
       (plausSuspended b = false → 1000 ≤ b.safe.sameCnt → (∃ p ∈ run, ∃ q ∈ run, 80 < q.2 - p.2) →
         act = .next (settle s (implausible x))) ∧
       (4 ≤ b.safe.missing → act = .next (settle s (implausible x))) ∧
       (b.safe.missing < 4 → b.pwr.samples.any sampleWild = false →
         (plausSuspended b = true → act = .next (settle s { x with safe := { x.safe with plausCnt := 0 } })) ∧
         (plausSuspended b = false → (sampleMean b - t).natAbs ≤ 192 →
           (b.safe.sameCnt < 1000 ∨ ∀ p ∈ run, ∀ q ∈ run, q.2 - p.2 ≤ 80) →
           act = .next (settle s (if 10 ≤ b.safe.plausCnt + 1 then causeGone 21 y else y))))) ∧
     (cfgF b .safe 0 0 31 16 ≠ 0 → b.safe.active.testBit 17 = false →
       let r := reachUp (max (b.safe.confirmAt.getD 0) b.safe.liveAt + aonSpan b (cfgF b .safe 0 0 31 16 * fineMs)) b
       exec (.hostSilent dt) s = .next (settle s { r with safe := { r.safe with
         todo := r.safe.todo ++ [{ at_ := r.now, up := r.up, bit := 17, obj := 0, detail := msSinceConfirm r }] } })) ∧
     (cfgF b .safe 0 0 31 16 = 0 → exec (.hostSilent dt) s = .next (settle s b)) ∧
     (cfgF b .safe 0 0 47 32 ≠ 0 →
       let r := reachUp (b.safe.heartAt + aonSpan b (cfgF b .safe 0 0 47 32 * fineMs)) b
       exec (.heartbeat dt) s = .next (settle s { r with safe := { r.safe with
         heartAt := r.up, todo := r.safe.todo ++ [{ at_ := r.now, up := r.up, bit := 30, obj := 0, detail := r.safe.active }] } })) ∧
     (cfgF b .safe 0 0 47 32 = 0 → exec (.heartbeat dt) s = .next (settle s b)))

/-- O60. A lockstep mismatch or a watchdog timeout, where nothing else was decided, by a monitor neither, stops the
controller and enters the safe state in the same step: FW_FAULT set, MBX_READY clear, SAFE and SAFE_N low (R386, R387).
-/
def Obligations.StoppedControllerIsSafe : Prop :=
  ∀ (dt : Nat) (s t : State), s.on = true → (begin_ dt s).ctl.fwFault = false → SafeInv s →
    let b := begin_ dt s
    let alone := fun (x : State) => (monCatch x).safe.todo = x.safe.todo
    ((∃ g : Fin 8, alone (decideCause 6 0 g b) ∧ exec (.lockstepMismatch dt g) s = .next t) ∨
     (∃ a, b.safe.wdAt = some a ∧
        alone (decideCause 7 0 0 (safeUpd (fun u => { u with wdAt := none }) (reachUp (a + 320 * b.tb.aonCal) b))) ∧
        exec (.watchdogTimeout dt) s = .next t)) →
    (begin_ dt s).safe.todo = [] → ((begin_ dt s).tb.coast = true → s.tb.coast = true) →
    t.ctl.fwFault = true ∧ t.ctl.mbxReady = false ∧ t.safe.safe = true ∧ t.safe.safeNLow = true
end

