-- ==== Sys2Proof/Laws/Held.lean ====
section
/-! SUPPORT. What no ordinary effect of a command changes. -/

namespace Sys2Proof.Machine

/-- The waiting commands, the factory partition, the safe state and SAFE_N, and whether the controller and the device
run. -/
def State.held (s : State) :
    List Instr × Factory × Bool × Bool × Nat × Nat × Bool × Bool × Bool × Bool × Bool :=
  (s.pending, s.fact, s.safe.safe, s.safe.safeNLow, s.safe.firstCause, s.safe.entries, s.ctl.fwFault, s.ctl.mbxReady,
   s.pwr.inReset, s.pwr.shut, s.pwr.io33)

@[simp] theorem held_mk (p n u f cfg ctl tb sa pw oq sw te em pb rx mo sm cd bq rt tn ch ti en tr pe ca fa ta) :
    State.held (State.mk p n u f cfg ctl tb sa pw oq sw te em pb rx mo sm cd bq rt tn ch ti en tr pe ca fa ta)
      = (p, fa, sa.safe, sa.safeNLow, sa.firstCause, sa.entries, ctl.fwFault, ctl.mbxReady, pw.inReset, pw.shut, pw.io33) := by
  unfold State.held; rfl

@[simp] theorem held_eta (s : State) :
    (s.pending, s.fact, s.safe.safe, s.safe.safeNLow, s.safe.firstCause, s.safe.entries, s.ctl.fwFault, s.ctl.mbxReady,
     s.pwr.inReset, s.pwr.shut, s.pwr.io33) = s.held := by cases s; rfl

@[simp] theorem ite_held (c : Prop) [Decidable c] (x y : State) :
    (if c then x else y).held = if c then x.held else y.held := apply_ite State.held c x y

@[simp] theorem foldl_held {α : Type} (f : State → α → State) (h : ∀ a x, (f a x).held = a.held) (l : List α) (s : State) :
    (l.foldl f s).held = s.held := by
  induction l generalizing s with
  | nil => rfl
  | cons x t ih => simp [ih, h]

@[simp] theorem passTime_held (a) (s : State) : (passTime a s).held = s.held := by
  simp only [passTime]; (repeat' split) <;> simp
@[simp] theorem reach_held (a) (s : State) : (reach a s).held = s.held := by simp [reach]
@[simp] theorem reachUp_held (a) (s : State) : (reachUp a s).held = s.held := by simp [reachUp]
@[simp] theorem drawFree_held (s : State) : (drawFree s).2.held = s.held := by simp [drawFree]
@[simp] theorem drawBool_held (s : State) : (drawBool s).2.held = s.held := by simp [drawBool]
@[simp] theorem decideCause_held (a) (b) (c) (s : State) : (decideCause a b c s).held = s.held := by simp [decideCause]
@[simp] theorem causeGone_held (a) (s : State) : (causeGone a s).held = s.held := by simp [causeGone]
@[simp] theorem irqP_held (a) (s : State) : (irqP a s).held = s.held := by simp [irqP]
@[simp] theorem irqS_held (a) (s : State) : (irqS a s).held = s.held := by simp [irqS]
@[simp] theorem irqBoth_held (a) (s : State) : (irqBoth a s).held = s.held := by simp [irqBoth]
@[simp] theorem journal_held (a) (s : State) : (journal a s).held = s.held := by simp [journal]
@[simp] theorem journalDev_held (a) (s : State) : (journalDev a s).held = s.held := by simp [journalDev]
@[simp] theorem journalCmd_held (a) (b) (c) (s : State) : (journalCmd a b c s).held = s.held := by simp [journalCmd]
@[simp] theorem logRec_held (a) (b) (s : State) : (logRec a b s).held = s.held := by simp [logRec]
@[simp] theorem qUpd_held (a) (b) (s : State) : (qUpd a b s).held = s.held := by simp [qUpd]
@[simp] theorem clsUpd_held (a) (b) (s : State) : (clsUpd a b s).held = s.held := by simp [clsUpd]
@[simp] theorem out_held (a) (s : State) : (out a s).held = s.held := by simp [out]
@[simp] theorem queueIrq_held (a) (s : State) : (queueIrq a s).held = s.held := by simp [queueIrq]
@[simp] theorem ringPlace_held (a) (b) (s : State) : (ringPlace a b s).held = s.held := by simp [ringPlace]
@[simp] theorem ringWrite_held (a) (b) (s : State) : (ringWrite a b s).held = s.held := by simp [ringWrite]
@[simp] theorem portUpd_held (a) (b) (s : State) : (portUpd a b s).held = s.held := by simp [portUpd]
@[simp] theorem reachSched_held (a) (b) (s : State) : (reachSched a b s).held = s.held := by simp [reachSched]
@[simp] theorem schedScale_held (a) (s : State) : (schedScale a s).held = s.held := by
  simp only [schedScale]; (repeat' split) <;> simp
@[simp] theorem schedBoth_held (s : State) : (schedBoth s).held = s.held := by simp [schedBoth]
@[simp] theorem portDown_held (a) (s : State) : (portDown a s).held = s.held := by simp [portDown]
@[simp] theorem startFrame_held (a) (b) (c) (s : State) : (startFrame a b c s).held = s.held := by
  simp only [startFrame]; split <;> simp
@[simp] theorem resumeFrame_held (a) (s : State) : (resumeFrame a s).held = s.held := by simp [resumeFrame]
@[simp] theorem cutFrame_held (a) (b) (s : State) : (cutFrame a b s).held = s.held := by
  simp only [cutFrame]; (repeat' split) <;> simp
@[simp] theorem holdCut_held (a) (b) (s : State) : (holdCut a b s).held = s.held := by
  simp only [holdCut]; (repeat' split) <;> simp
@[simp] theorem holdFor_held (a) (s : State) : (holdFor a s).held = s.held := by simp only [holdFor]; split <;> simp
@[simp] theorem preemptFrame_held (a) (b) (s : State) : (preemptFrame a b s).held = s.held := by simp [preemptFrame]
@[simp] theorem nextFrame_held (s : State) (a) (b) : (nextFrame s a b).held = s.held := by
  simp only [nextFrame]; (repeat' split) <;> simp
@[simp] theorem portServe_held (a) (s : State) : (portServe a s).held = s.held := by simp [portServe]
@[simp] theorem egressPut_held (a) (b) (c) (s : State) : (egressPut a b c s).held = s.held := by
  simp only [egressPut]; (repeat' split) <;> simp
@[simp] theorem sendDatagram_held (a) (b) (c) (d) (e) (f) (s : State) : (sendDatagram a b c d e f s).held = s.held := by
  simp only [sendDatagram]
  rw [foldl_held]
  · split <;> simp
  · intro x p
    (repeat' split) <;> simp

@[simp] theorem flushQueue_held (a) (s : State) : (flushQueue a s).held = s.held := by simp [flushQueue]
@[simp] theorem netFrag_held (a) (b) (s : State) : (netFrag a b s).held = s.held := by simp [netFrag]
@[simp] theorem netWrite_held (a) (b) (c) (s : State) : (netWrite a b c s).held = s.held := by simp [netWrite]
@[simp] theorem ringOffer_held (a) (b) (s : State) : (ringOffer a b s).held = s.held := by simp [ringOffer]
@[simp] theorem ringDecide_held (a) (s : State) : (ringDecide a s).held = s.held := by simp [ringDecide]
@[simp] theorem emitRecord_held (a) (b) (c) (d) (s : State) : (emitRecord a b c d s).held = s.held := by
  simp [emitRecord]
@[simp] theorem c0Set_held (a) (b) (s : State) : (c0Set a b s).held = s.held := by simp [c0Set]
@[simp] theorem deliverAlert_held (a) (b) (c) (s : State) : (deliverAlert a b c s).held = s.held := by
  simp [deliverAlert]
@[simp] theorem drainC0_held (d n) (s : State) : (drainC0 d n s).held = s.held := by
  induction n generalizing s with
  | zero => rfl
  | succ n ih => simp only [drainC0]; (repeat' split) <;> simp [ih]

@[simp] theorem queueAlert_held (a) (b) (c) (s : State) : (queueAlert a b c s).held = s.held := by simp [queueAlert]
@[simp] theorem sendAlert_held (a) (b) (c) (d) (e) (s : State) : (sendAlert a b c d e s).held = s.held := by simp [sendAlert]
@[simp] theorem nvmKick_held (s : State) : (nvmKick s).held = s.held := by
  simp only [nvmKick]; (repeat' split) <;> simp
@[simp] theorem nvmPut_held (a) (s : State) : (nvmPut a s).held = s.held := by simp [nvmPut]
@[simp] theorem mirrorStart_held (s : State) : (mirrorStart s).held = s.held := by simp [mirrorStart]
@[simp] theorem mirrorTick_held (s : State) : (mirrorTick s).held = s.held := by simp [mirrorTick]
@[simp] theorem mirrorGo_held (s : State) : (mirrorGo s).held = s.held := by simp [mirrorGo]
@[simp] theorem mbxPut_held (a) (b) (s : State) : (mbxPut a b s).held = s.held := by simp [mbxPut]
@[simp] theorem udpReply_held (a) (b) (c) (s : State) : (udpReply a b c s).held = s.held := by simp [udpReply]
@[simp] theorem respond_held (a) (b) (c) (d) (e) (f) (s : State) : (respond a b c d e f s).held = s.held := by
  simp only [respond]; (repeat' split) <;> simp
@[simp] theorem bgDone_held (a) (b) (c) (d) (s : State) : (bgDone a b c d s).held = s.held := by
  simp only [bgDone]; split <;> simp
@[simp] theorem aonFreeze_held (a) (s : State) : (aonFreeze a s).held = s.held := by simp [aonFreeze]
@[simp] theorem freezeLoop_held (a) (s : State) : (freezeLoop a s).held = s.held := by
  simp only [freezeLoop]; split <;> simp
@[simp] theorem markOpen_held (a) (s : State) : (markOpen a s).held = s.held := by simp [markOpen]
@[simp] theorem markTeamCoast_held (s : State) : (markTeamCoast s).held = s.held := by simp [markTeamCoast]
@[simp] theorem markTeamStale_held (s : State) : (markTeamStale s).held = s.held := by simp [markTeamStale]
@[simp] theorem markCoast_held (a) (s : State) : (markCoast a s).held = s.held := by simp [markCoast]
@[simp] theorem goCoast_held (a) (b) (s : State) : (goCoast a b s).held = s.held := by simp [goCoast]
@[simp] theorem freqFault_held (a) (s : State) : (freqFault a s).held = s.held := by simp [freqFault]
@[simp] theorem bandSearch_held (s : State) : (bandSearch s).held = s.held := by simp [bandSearch]
@[simp] theorem emUpd_held (a) (b) (s : State) : (emUpd a b s).held = s.held := by simp [emUpd]
@[simp] theorem markRefused_held (a) (s : State) : (markRefused a s).held = s.held := by simp [markRefused]
@[simp] theorem bookWeight_held (a) (b) (c) (s : State) : (bookWeight a b c s).held = s.held := by simp [bookWeight]
@[simp] theorem slideBuckets_held (a) (b) (s : State) : (slideBuckets a b s).held = s.held := by simp [slideBuckets]
@[simp] theorem leaveArmed_held (a) (s : State) : (leaveArmed a s).held = s.held := by
  simp only [leaveArmed]; split <;> simp
@[simp] theorem tripChannel_held (a) (b) (s : State) : (tripChannel a b s).held = s.held := by simp [tripChannel]
@[simp] theorem tripSource_held (a) (s : State) : (tripSource a s).held = s.held := by simp [tripSource]
@[simp] theorem tripLevels_held (ch was) (s : State) : (tripLevels ch was s).held = s.held := by simp [tripLevels]

@[simp] theorem tripGone_held (s : State) : (tripGone s).held = s.held := by simp [tripGone]
@[simp] theorem refusePending_held (a) (s : State) : (refusePending a s).held = s.held := by simp [refusePending]
@[simp] theorem outCtrl_held (a) (b) (s : State) : (outCtrl a b s).held = s.held := by
  simp only [outCtrl]; split <;> simp
@[simp] theorem forceLow_held (a) (s : State) : (forceLow a s).held = s.held := by simp [forceLow]
@[simp] theorem lbFault_held (a) (b) (c) (s : State) : (lbFault a b c s).held = s.held := by simp [lbFault]
@[simp] theorem rxUpd_held (a) (b) (s : State) : (rxUpd a b s).held = s.held := by simp [rxUpd]
@[simp] theorem monUpd_held (a) (b) (s : State) : (monUpd a b s).held = s.held := by simp [monUpd]
@[simp] theorem monSettle_held (a) (s : State) : (monSettle a s).held = s.held := by simp [monSettle]
@[simp] theorem monRestart_held (a) (s : State) : (monRestart a s).held = s.held := by simp [monRestart]
@[simp] theorem monHold_held (a) (s : State) : (monHold a s).held = s.held := by simp [monHold]
@[simp] theorem monSample_held (a) (s : State) (b) : (monSample a s b).held = s.held := by simp [monSample]
@[simp] theorem monEdge_held (a) (s : State) (b) : (monEdge a s b).held = s.held := by simp [monEdge]
@[simp] theorem monRun_held (m a) (s : State) : (monRun m a s).held = s.held := by
  have smp : ∀ (x y : Nat) (t : State), (if fld (monW t m 0) 56 56 = 1 then
      (sampleTimes (monTs t m) x y).foldl (monSample m) t else t).held = t.held := fun x y t => by split <;> simp
  have run : ∀ (l : List Nat) (p : Nat × State), (l.foldl (fun (acc : Nat × State) t => (t, monEdge m
      (if fld (monW acc.2 m 0) 56 56 = 1 then
        (sampleTimes (monTs acc.2 m) acc.1 t).foldl (monSample m) acc.2 else acc.2) t)) p).2.held = p.2.held := by
    intro l
    induction l with
    | nil => intro p; rfl
    | cons x t ih => intro p; rw [List.foldl_cons, ih]; simp [smp]
  simp only [monRun]
  rw [smp, run, monEdge_held]

@[simp] theorem monAdvance_held (s : State) : (monAdvance s).held = s.held := by simp [monAdvance]
@[simp] theorem monBlankEnd_held (a) (s : State) : (monBlankEnd a s).held = s.held := by
  simp only [monBlankEnd]; split <;> simp
@[simp] theorem monFilter_held (a) (s : State) : (monFilter a s).held = s.held := by simp [monFilter]
@[simp] theorem monHoldEnd_held (a) (s : State) : (monHoldEnd a s).held = s.held := by
  simp only [monHoldEnd]; split <;> simp
@[simp] theorem monRelease_held (a) (s : State) : (monRelease a s).held = s.held := by simp [monRelease]
@[simp] theorem resolveSample_held (a) (b) (c) (s : State) : (resolveSample a b c s).held = s.held := by
  simp [resolveSample]
@[simp] theorem monLate_held (a) (s : State) : (monLate a s).held = s.held := by simp [monLate]
@[simp] theorem monInputs_held (a) (b) (c) (s : State) : (monInputs a b c s).held = s.held := by simp [monInputs]
@[simp] theorem rxApply_held (a) (b) (s : State) : (rxApply a b s).held = s.held := by simp [rxApply]
@[simp] theorem rxOutput_held (a) (b) (c) (s : State) : (rxOutput a b c s).held = s.held := by simp [rxOutput]
@[simp] theorem rxSettled_held (a) (b) (s : State) : (rxSettled a b s).held = s.held := by simp [rxSettled]
@[simp] theorem rxTileApply_held (a) (b) (s : State) : (rxTileApply a b s).held = s.held := by simp [rxTileApply]
@[simp] theorem rxMargins_held (s : State) : (rxMargins s).held = s.held := by simp [rxMargins]
@[simp] theorem cmpClear_held (a) (b) (c) (s : State) : (cmpClear a b c s).held = s.held := by simp [cmpClear]
@[simp] theorem tileUpd_held (a) (b) (s : State) : (tileUpd a b s).held = s.held := by simp [tileUpd]
@[simp] theorem chanUpd_held (a) (b) (s : State) : (chanUpd a b s).held = s.held := by simp [chanUpd]
@[simp] theorem engUpd_held (a) (b) (s : State) : (engUpd a b s).held = s.held := by simp [engUpd]
@[simp] theorem recUpd_held (a) (b) (s : State) : (recUpd a b s).held = s.held := by simp [recUpd]
@[simp] theorem countWritten_held (a) (b) (s : State) : (countWritten a b s).held = s.held := by simp [countWritten]
@[simp] theorem recPut_held (a) (b) (c) (d) (e) (s : State) : (recPut a b c d e s).held = s.held := by simp [recPut]
@[simp] theorem recRead_held (a) (b) (s : State) : (recRead a b s).held = s.held := by simp [recRead]
@[simp] theorem recSettle_held (a) (s : State) : (recSettle a s).held = s.held := by
  simp only [recSettle]; (repeat' split) <;> simp
@[simp] theorem recStop_held (a b c) (s : State) : (recStop a b c s).held = s.held := by simp [recStop]
@[simp] theorem recFreeze_held (a) (b) (s : State) : (recFreeze a b s).held = s.held := by
  simp [recFreeze]
@[simp] theorem recFill_held (a t) (s : State) : (recFill a t s).held = s.held := by simp [recFill]
@[simp] theorem markPut_held (a) (b) (s : State) : (markPut a b s).held = s.held := by simp [markPut]
@[simp] theorem recTake_held (a) (b) (c) (d) (s : State) : (recTake a b c d s).held = s.held := by simp [recTake]
@[simp] theorem recBusy_held (a) (b) (c) (d) (s : State) : (recBusy a b c d s).held = s.held := by simp [recBusy]
@[simp] theorem recSend_held (a) (s : State) : (recSend a s).held = s.held := by
  simp only [recSend]; split <;> simp
@[simp] theorem recSends_held (a) (s : State) : (recSends a s).held = s.held := by simp [recSends]
@[simp] theorem recLocal_held (a b t) (s : State) : (recLocal a b t s).held = s.held := by
  simp only [recLocal]; (repeat' split) <;> simp
@[simp] theorem recTrigger_held (a) (b) (c) (d) (s : State) : (recTrigger a b c d s).held = s.held := by
  simp only [recTrigger]; split <;> simp
@[simp] theorem recArm_held (a) (s : State) : (recArm a s).held = s.held := by simp [recArm]
@[simp] theorem recLayout_held (a) (b) (s : State) : (recLayout a b s).held = s.held := by simp [recLayout]
@[simp] theorem recEvent_held (a) (b) (c) (d) (e) (s : State) : (recEvent a b c d e s).held = s.held := by
  simp [recEvent]
@[simp] theorem pixUpd_held (a) (b) (c) (d) (s : State) : (pixUpd a b c d s).held = s.held := by simp [pixUpd]
@[simp] theorem calZeroEvent_held (a) (b) (s : State) : (calZeroEvent a b s).held = s.held := by
  simp [calZeroEvent]
@[simp] theorem eccCorrected_held (a) (s : State) : (eccCorrected a s).held = s.held := by simp [eccCorrected]
@[simp] theorem binRead_held (a b c) (s : State) : (binRead a b c s).held = s.held := by simp [binRead]
@[simp] theorem decideEvent_held (ti e) (s : State) : (decideEvent ti e s).held = s.held := by
  simp only [decideEvent, tileUpd_held, calZeroEvent_held, ite_held, ite_self]
  generalize pixOf _ _ _ _ = o
  cases o with
  | none => simp
  | some p => simp only []; generalize Option.map (binGranule p.wide) _ = hit; cases hit <;> simp

@[simp] theorem decideEvents_held (f ti n) (s : State) : (decideEvents f ti n s).held = s.held := by
  induction n generalizing s with
  | zero => rfl
  | succ n ih =>
    simp only [decideEvents]
    split
    · rw [ih, decideEvent_held]
    · rfl

@[simp] theorem decideTile_held (f ti) (s : State) : (decideTile f ti s).held = s.held := by
  unfold decideTile
  extract_lets s1 x go
  split
  · exact decideEvents_held f ti _ s
  · rw [recSettle_held]
    exact (foldl_held _ (fun a i => by cases i <;> simp [TileItem.take_]) go s1).trans (decideEvents_held f ti _ s)

@[simp] theorem decideAll_held (a) (s : State) : (decideAll a s).held = s.held := by simp [decideAll]
@[simp] theorem xing3_held (a) (s : State) : (xing3 a s).held = s.held := by simp [xing3]
@[simp] theorem closeChan_held (a) (b) (s : State) : (closeChan a b s).held = s.held := by simp [closeChan]
@[simp] theorem closeOpen_held (a) (b) (s : State) : (closeOpen a b s).held = s.held := by simp [closeOpen]
@[simp] theorem closeTile_held (a) (b) (s : State) : (closeTile a b s).held = s.held := by simp [closeTile]
@[simp] theorem haltChan_held (a) (b) (s : State) : (haltChan a b s).held = s.held := by simp [haltChan]
@[simp] theorem closeShot_held (a) (b) (c) (s : State) : (closeShot a b c s).held = s.held := by simp [closeShot]
@[simp] theorem openChan_held (a) (b) (c) (s : State) : (openChan a b c s).held = s.held := by simp [openChan]
@[simp] theorem openTile_held (a) (b) (c) (s : State) : (openTile a b c s).held = s.held := by simp [openTile]
@[simp] theorem takeResets_held (s : State) : (takeResets s).held = s.held := by simp [takeResets]
@[simp] theorem mergeAcq_held (a) (b) (s : State) : (mergeAcq a b s).held = s.held := by simp [mergeAcq]
@[simp] theorem mergeNot_held (a) (b) (s : State) : (mergeNot a b s).held = s.held := by simp [mergeNot]
@[simp] theorem passShot_held (a) (b) (c) (s : State) : (passShot a b c s).held = s.held := by simp [passShot]
@[simp] theorem passDue_held (f ti n) (s : State) : (passDue f ti n s).held = s.held := by
  induction n generalizing s with
  | zero => rfl
  | succ n ih => simp only [passDue]; (repeat' split) <;> simp [ih]

@[simp] theorem startShot_held (a) (b) (s : State) : (startShot a b s).held = s.held := by simp [startShot]
@[simp] theorem endPost_held (a) (s : State) : (endPost a s).held = s.held := by simp only [endPost]; split <;> simp
@[simp] theorem passAll_held (s : State) : (passAll s).held = s.held := by simp [passAll]
@[simp] theorem winApply_held (a) (b) (c) (s : State) : (winApply a b c s).held = s.held := by simp [winApply]
@[simp] theorem coincApply_held (a) (b) (s : State) : (coincApply a b s).held = s.held := by simp [coincApply]
@[simp] theorem haltClose_held (s : State) : (haltClose s).held = s.held := by simp [haltClose]
@[simp] theorem setDiv_held (a) (s : State) : (setDiv a s).held = s.held := by simp [setDiv]
@[simp] theorem sysAdjust_held (s : State) : (sysAdjust s).held = s.held := by simp [sysAdjust]
@[simp] theorem logPages_held (s : State) : (logPages s).held = s.held := by simp [logPages]
@[simp] theorem logEvent_held (a) (b) (s : State) : (logEvent a b s).held = s.held := by simp [logEvent]
@[simp] theorem calUpd_held (a) (s : State) : (calUpd a s).held = s.held := by simp [calUpd]
@[simp] theorem calRest_held (s : State) : (calRest s).held = s.held := by simp [calRest]
@[simp] theorem calSettle_held (s : State) : (calSettle s).held = s.held := by simp [calSettle]
@[simp] theorem calFeed_held (s : State) : (calFeed s).held = s.held := by simp [calFeed]
@[simp] theorem pendUser_held (a) (b) (s : State) : (pendUser a b s).held = s.held := by
  simp only [pendUser]; split <;> simp
@[simp] theorem rejoinTile_held (a) (s : State) : (rejoinTile a s).held = s.held := by simp [rejoinTile]
@[simp] theorem calFailLeft_held (a) (s : State) : (calFailLeft a s).held = s.held := by simp [calFailLeft]
@[simp] theorem tileBack_held (a) (s : State) : (tileBack a s).held = s.held := by simp [tileBack]
@[simp] theorem pendTrim_held (a) (s : State) : (pendTrim a s).held = s.held := by simp only [pendTrim]; split <;> simp
@[simp] theorem calEnd_held (a) (s : State) : (calEnd a s).held = s.held := by simp [calEnd]
@[simp] theorem calAbort_held (a) (s : State) : (calAbort a s).held = s.held := by simp [calAbort]
@[simp] theorem calStepHit_held (s : State) : (calStepHit s).held = s.held := by simp [calStepHit]
@[simp] theorem calStep_held (s : State) : (calStep s).held = s.held := by simp [calStep]
@[simp] theorem pbUpd_held (a) (s : State) : (pbUpd a s).held = s.held := by simp [pbUpd]
@[simp] theorem gridStart_held (a) (b) (c) (s : State) : (gridStart a b c s).held = s.held := by simp [gridStart]
@[simp] theorem gridRestart_held (a) (s : State) : (gridRestart a s).held = s.held := by simp [gridRestart]
@[simp] theorem swapBank_held (a) (b) (c) (s : State) : (swapBank a b c s).1.held = s.held := by
  simp only [swapBank]; (repeat' split) <;> simp
@[simp] theorem tpllHook_held (a) (b) (s : State) : (tpllHook a b s).held = s.held := by
  simp only [tpllHook]; (repeat' split) <;> simp
@[simp] theorem modeHook_held (a) (b) (s : State) : (modeHook a b s).held = s.held := by simp [modeHook]
@[simp] theorem pbHook_held (a) (b) (c) (s : State) : (pbHook a b c s).held = s.held := by simp [pbHook]
@[simp] theorem streamHook_held (s : State) : (streamHook s).held = s.held := by simp [streamHook]
@[simp] theorem deadPrune_held (s : State) : (deadPrune s).held = s.held := by simp [deadPrune]
@[simp] theorem safeHook_held (a) (b) (s : State) : (safeHook a b s).held = s.held := by simp [safeHook]
@[simp] theorem teamHook_held (a) (b) (s : State) : (teamHook a b s).held = s.held := by simp [teamHook]
@[simp] theorem queueHook_held (a) (b) (c) (s : State) : (queueHook a b c s).held = s.held := by simp [queueHook]
@[simp] theorem portHook_held (a) (b) (c) (s : State) : (portHook a b c s).held = s.held := by simp [portHook]
@[simp] theorem timeHook_held (a) (b) (s : State) : (timeHook a b s).held = s.held := by simp [timeHook]
@[simp] theorem gateHook_held (a) (b) (c) (s : State) : (gateHook a b c s).held = s.held := by simp [gateHook]
@[simp] theorem calConfig_held (a) (s : State) : (calConfig a s).held = s.held := by simp [calConfig]
@[simp] theorem bndApply_held (a) (s : State) : (bndApply a s).held = s.held := by simp only [bndApply]; split <;> simp
@[simp] theorem bndTake_held (a) (s : State) : (bndTake a s).held = s.held := by simp [bndTake]
@[simp] theorem bndChange_held (a) (b) (c) (s : State) : (bndChange a b c s).held = s.held := by simp [bndChange]
@[simp] theorem changeHook_held (a) (b) (c) (d) (e) (s : State) : (changeHook a b c d e s).held = s.held := by
  simp only [changeHook]; split <;> simp
@[simp] theorem applyOp_held (a) (s : State) : (applyOp a s).held = s.held := by
  simp only [applyOp]; (repeat' split) <;> simp
@[simp] theorem journalMember_held (a) (b) (c) (d) (s : State) : (journalMember a b c d s).held = s.held := by
  simp [journalMember]
@[simp] theorem applySet_held (a) (b) (s : State) : (applySet a b s).held = s.held := by simp [applySet]
@[simp] theorem applyWaiting_held (a) (s : State) : (applyWaiting a s).held = s.held := by simp [applyWaiting]
@[simp] theorem stepTime_held (a) (s : State) : (stepTime a s).held = s.held := by simp [stepTime]
@[simp] theorem teamAgain_held (s : State) : (teamAgain s).held = s.held := by simp [teamAgain]
@[simp] theorem phaseStep_held (a) (s : State) : (phaseStep a s).held = s.held := by simp [phaseStep]
@[simp] theorem staleOver_held (s : State) : (staleOver s).held = s.held := by simp [staleOver]
@[simp] theorem realignStep_held (s : State) : (realignStep s).held = s.held := by simp [realignStep]
@[simp] theorem captureStep_held (s : State) : (captureStep s).held = s.held := by
  simp only [captureStep]; split <;> simp
@[simp] theorem slewStep_held (s : State) : (slewStep s).held = s.held := by simp [slewStep]
@[simp] theorem restartStep_held (s : State) : (restartStep s).2.held = s.held := by
  simp only [restartStep]; split <;> simp
@[simp] theorem syncReset_held (s : State) : (syncReset s).held = s.held := by simp [syncReset]
@[simp] theorem huddleRelay_held (s : State) : (huddleRelay s).held = s.held := by simp [huddleRelay]
@[simp] theorem huddle_held (s : State) : (huddle s).held = s.held := by simp [huddle]
@[simp] theorem phaseSteps_held (s : State) : (phaseSteps s).held = s.held := by simp [phaseSteps]
@[simp] theorem idleSteps_held (s : State) : (idleSteps s).held = s.held := by simp [idleSteps]
@[simp] theorem pbHalt_held (s : State) : (pbHalt s).held = s.held := by simp [pbHalt]
@[simp] theorem declareLock_held (a) (s : State) : (declareLock a s).held = s.held := by simp [declareLock]
@[simp] theorem takeSeq_held (a) (s : State) : (takeSeq a s).2.held = s.held := by simp [takeSeq]
@[simp] theorem refuse_held (a) (b) (s : State) : (refuse a b s).held = s.held := by simp [refuse]
@[simp] theorem answerUnknown_held (n) (s : State) : (answerUnknown n s).held = s.held := by
  induction n generalizing s with
  | zero => rfl
  | succ n ih => simp only [answerUnknown]; (repeat' split) <;> simp [ih]

@[simp] theorem safeUpd_held (f) (s : State) : (safeUpd f s).held =
    (s.pending, s.fact, (f s.safe).safe, (f s.safe).safeNLow, (f s.safe).firstCause, (f s.safe).entries, s.ctl.fwFault,
     s.ctl.mbxReady, s.pwr.inReset, s.pwr.shut, s.pwr.io33) := by cases s; rfl

@[simp] theorem safetyTrig_held (a) (b) (s : State) : (safetyTrig a b s).held = s.held := by simp [safetyTrig]
@[simp] theorem takeSupp_held (a) (b) (c) (s : State) : (takeSupp a b c s).2.held = s.held := by simp [takeSupp]
@[simp] theorem sendCode_held (a) (b) (c) (d) (e) (f) (s : State) : (sendCode a b c d e f s).held = s.held := by simp [sendCode]
@[simp] theorem sendDecision_held (a) (b) (s : State) : (sendDecision a b s).held = s.held := by simp [sendDecision]
@[simp] theorem safetyAlert_held (a) (s : State) : (safetyAlert a s).held = s.held := by simp [safetyAlert]
@[simp] theorem dropOffers_held (s : State) : (dropOffers s).held = s.held := by simp [dropOffers]
@[simp] theorem dropWords_held (s : State) : (dropWords s).held = s.held := by simp [dropWords]
@[simp] theorem bootGone_held (s : State) : (bootGone s).held = s.held := by simp [bootGone]
@[simp] theorem mergeGone_held (s : State) : (mergeGone s).held = s.held := by simp [mergeGone]
@[simp] theorem causesGone_held (s : State) : (causesGone s).held = s.held := by simp [causesGone]
@[simp] theorem pbClear_held (s : State) : (pbClear s).held = s.held := by simp [pbClear]
@[simp] theorem echoQClear_held (a) (s : State) : (echoQClear a s).held = s.held := by simp [echoQClear]
@[simp] theorem teamClear_held (s : State) : (teamClear s).held = s.held := by simp [teamClear]
@[simp] theorem outPortClear_held (a) (s : State) : (outPortClear a s).held = s.held := by simp [outPortClear]
@[simp] theorem outQClear_held (a) (s : State) : (outQClear a s).held = s.held := by simp [outQClear]
@[simp] theorem outClsClear_held (s : State) : (outClsClear s).held = s.held := by simp [outClsClear]
@[simp] theorem safeClearCnt_held (s : State) : (safeClearCnt s).held = s.held := by simp [safeClearCnt]
@[simp] theorem pwrClear_held (s : State) : (pwrClear s).held = s.held := by simp [pwrClear]
@[simp] theorem calClear_held (s : State) : (calClear s).held = s.held := by simp [calClear]
@[simp] theorem sysClear_held (s : State) : (sysClear s).held = s.held := by simp [sysClear]
@[simp] theorem telemRecord_held (a) (b) (c) (d) (s : State) : (telemRecord a b c d s).held = s.held := by
  simp [telemRecord]
@[simp] theorem telemetry_held (s : State) : (telemetry s).held = s.held := by
  simp only [telemetry]; (repeat' split) <;> simp
@[simp] theorem teamState_held (s0 : State) (s : State) : (teamState s0 s).held = s.held := by simp [teamState]
@[simp] theorem coastEnds_held (s0 : State) (s : State) : (coastEnds s0 s).held = s.held := by simp [coastEnds]
@[simp] theorem xing5_held (s : State) : (xing5 s).held = s.held := by simp [xing5]
@[simp] theorem txnPut_held (a) (b) (s : State) : (txnPut a b s).held = s.held := by simp [txnPut]
@[simp] theorem txnTouch_held (a) (b) (s : State) : (txnTouch a b s).held = s.held := by
  simp only [txnTouch]; split <;> simp
@[simp] theorem txnClose_held (a) (b) (c) (s : State) : (txnClose a b c s).held = s.held := by simp [txnClose]
@[simp] theorem take_held (m op f) (h : ∀ c n t, (f c n t : State).held = t.held) (s : State) :
    (take m op f s).held = s.held := by
  simp only [take]
  split
  · simp [h]
  · rfl

@[simp] theorem deny_held (a) (b) (c) (s : State) : (deny a b c s).held = s.held := by simp [deny]
@[simp] theorem runAct_held (m op row dev eff) (h : ∀ c t, (eff c t).2.held = t.held) (s : State) :
    (runAct m op row dev eff s).held = s.held := by
  unfold runAct
  refine take_held _ _ _ (fun c n t => ?_) s
  simp only []
  (repeat' split) <;> simp [h]

@[simp] theorem runBg_held (m op row dev start) (h : ∀ c t, (start c t).held = t.held) (s : State) :
    (runBg m op row dev start s).held = s.held := by
  unfold runBg
  refine take_held _ _ _ (fun c n t => ?_) s
  simp only []
  (repeat' split) <;> simp [h]

@[simp] theorem stageCmd_held (a) (b) (c) (s : State) : (stageCmd a b c s).held = s.held := by
  simp only [stageCmd]; split <;> simp
@[simp] theorem acceptSet_held (a) (b) (s : State) : (acceptSet a b s).held = s.held := by simp [acceptSet]
@[simp] theorem submitSet_held (a) (b) (c) (d) (e) (s : State) : (submitSet a b c d e s).held = s.held := by
  simp only [submitSet]; (repeat' split) <;> simp
@[simp] theorem runCfg_held (m op) (s : State) : (runCfg m op s).held = s.held := by
  unfold runCfg
  refine take_held _ _ _ (fun c n t => ?_) s
  (repeat' split) <;> simp

@[simp] theorem runClose_held (m) (s : State) : (runClose m s).held = s.held := by
  unfold runClose
  refine take_held _ _ _ (fun c n t => ?_) s
  simp only []
  (repeat' split) <;> simp

@[simp] theorem runStage_held (m op row ops eff) (h : ∀ c t, (eff c t).2.held = t.held) (s : State) :
    (runStage m op row ops eff s).held = s.held := by
  unfold runStage
  refine take_held _ _ _ (fun c n t => ?_) s
  simp only []
  (repeat' split) <;> simp [h]

@[simp] theorem runGet_held (m op) (s : State) : (runGet m op s).held = s.held := by
  unfold runGet
  refine take_held _ _ _ (fun c n t => ?_) s
  (repeat' split) <;> simp

@[simp] theorem runStat_held (m op row words clear) (h : ∀ c t, (clear c t).held = t.held) (s : State) :
    (runStat m op row words clear s).held = s.held := by
  unfold runStat
  refine runAct_held _ _ _ _ _ (fun c t => ?_) s
  simp only []
  split <;> simp [h]

@[simp] theorem runCommit_held (m) (s : State) : (runCommit m s).held = s.held := by
  unfold runCommit
  refine take_held _ _ _ (fun c n t => ?_) s
  simp only []
  (repeat' split) <;> simp

@[simp] theorem dbIgnore_held (s : State) : (dbIgnore s).held = s.held := by simp [dbIgnore]
@[simp] theorem ring_held (a) (b) (s : State) : (ring a b s).held = s.held := by simp [ring]
@[simp] theorem releaseMbx_held (a) (b) (s : State) : (releaseMbx a b s).held = s.held := by simp [releaseMbx]
@[simp] theorem overMask_held (f m) (h : ∀ i t, (f i t : State).held = t.held) (s : State) :
    (overMask f m s).held = s.held := foldl_held _ (fun t i => h i t) _ s

@[simp] theorem slotWrite_held (a) (b) (c) (d) (s : State) : (slotWrite a b c d s).held = s.held := by simp [slotWrite]
@[simp] theorem irqClear_held (a) (b) (s : State) : (irqClear a b s).held = s.held := by simp [irqClear]
@[simp] theorem irqEnable_held (a) (b) (s : State) : (irqEnable a b s).held = s.held := by simp [irqEnable]
@[simp] theorem streamRing_held (a) (s : State) : (streamRing a s).held = s.held := by simp [streamRing]
@[simp] theorem regWrite_held (i o v) (s : State) : (regWrite i o v s).held = s.held := by
  simp only [regWrite]
  (repeat' split) <;> simp

@[simp] theorem regWrite64_held (a) (b) (c) (d) (s : State) : (regWrite64 a b c d s).held = s.held := by
  simp [regWrite64]
@[simp] theorem alertLatch_held (s : State) : (alertLatch s).held = s.held := by simp [alertLatch]
@[simp] theorem spiWord_held (a) (s : State) : (spiWord a s).2.held = s.held := by simp [spiWord]
@[simp] theorem spiWords_held (n a) (s : State) : (spiWords n a s).2.held = s.held := by
  induction n generalizing a s with
  | zero => rfl
  | succ n ih => simp [spiWords, ih]

@[simp] theorem freeBytes_held (n) (s : State) : (freeBytes n s).2.held = s.held := by
  induction n generalizing s with
  | zero => rfl
  | succ n ih => simp [freeBytes, ih]

@[simp] theorem spiStore_held (a l) (s : State) : (spiStore a l s).held = s.held := by
  induction l generalizing a s with
  | nil => rfl
  | cons w r ih => simp [spiStore, ih]

@[simp] theorem udpCommand_held (a) (b) (s : State) : (udpCommand a b s).held = s.held := by simp [udpCommand]
@[simp] theorem publish_held (s : State) : (publish s).held = s.held := by simp only [publish]; split <;> simp
@[simp] theorem emitJournal_held (a) (b) (s : State) : (emitJournal a b s).held = s.held := by simp [emitJournal]
@[simp] theorem highTrig_held (a) (b) (c) (d) (s : State) : (highTrig a b c d s).held = s.held := by simp [highTrig]
@[simp] theorem rateTrig_held (a) (b) (c) (s : State) : (rateTrig a b c s).held = s.held := by simp [rateTrig]
@[simp] theorem notDead_held (a) (s : State) : (notDead a s).held = s.held := by simp [notDead]
@[simp] theorem rxEvent_held (a) (b) (c) (d) (e) (s : State) : (rxEvent a b c d e s).held = s.held := by simp [rxEvent]
@[simp] theorem pileLost_held (a) (s : State) : (pileLost a s).held = s.held := by
  simp only [pileLost]; (repeat' split) <;> simp
@[simp] theorem recDisarm_held (a) (s : State) : (recDisarm a s).held = s.held := by
  simp only [recDisarm]; split <;> simp
@[simp] theorem recCalOff_held (a) (s : State) : (recCalOff a s).held = s.held := by simp [recCalOff]
@[simp] theorem recEpoch_held (a) (s : State) : (recEpoch a s).held = s.held := by simp [recEpoch]
@[simp] theorem recHoldOver_held (a) (s : State) : (recHoldOver a s).held = s.held := by simp [recHoldOver]
@[simp] theorem recTimeout_held (a) (s : State) : (recTimeout a s).held = s.held := by simp [recTimeout]
@[simp] theorem recReadDone_held (a) (s : State) : (recReadDone a s).held = s.held := by simp [recReadDone]
@[simp] theorem recTeamArm_held (s : State) : (recTeamArm s).held = s.held := by simp only [recTeamArm]; split <;> simp
@[simp] theorem recTeamTake_held (a) (b) (c) (d) (e) (s : State) : (recTeamTake a b c d e s).held = s.held := by
  simp [recTeamTake]
@[simp] theorem recTeamFire_held (s : State) : (recTeamFire s).held = s.held := by
  simp only [recTeamFire]; split <;> simp
@[simp] theorem armEff_held (c) (s : State) : (armEff c s).held = s.held := by
  simp only [armEff]
  split
  · simp
  · exact foldl_held _ (fun t i => by split <;> simp) _ s

@[simp] theorem readTile_held (a) (b) (s : State) : (readTile a b s).held = s.held := by
  simp only [readTile]; split <;> simp
@[simp] theorem trigIn_held (a) (s : State) : (trigIn a s).held = s.held := by simp [trigIn]
@[simp] theorem postEnd_held (a) (s : State) : (postEnd a s).held = s.held := by simp only [postEnd]; split <;> simp
@[simp] theorem tileRearm_held (a) (s : State) : (tileRearm a s).held = s.held := by simp [tileRearm]
@[simp] theorem winClear_held (a) (b) (c) (s : State) : (winClear a b c s).held = s.held := by simp [winClear]
@[simp] theorem latchJump_held (a) (s : State) : (latchJump a s).held = s.held := by simp [latchJump]
@[simp] theorem linkPut_held (a) (b) (c) (d) (s : State) : (linkPut a b c d s).held = s.held := by simp [linkPut]
@[simp] theorem steerOne_held (a) (b) (c) (s : State) : (steerOne a b c s).2.held = s.held := by
  simp only [steerOne]; (repeat' split) <;> simp
@[simp] theorem steerAll_held (d t) (s : State) : (steerAll d t s).2.held = s.held := by
  have run : ∀ (l : List Nat) (p : Nat × State), (l.foldl (fun (a : Nat × State) n =>
      let r := steerOne d t n a.2; (a.1 + b2n r.1, r.2)) p).2.held = p.2.held := by
    intro l
    induction l with
    | nil => intro p; rfl
    | cons x r ih => intro p; rw [List.foldl_cons, ih]; simp
  simp only [steerAll]
  exact run _ _

@[simp] theorem steerEdge_held (a) (s : State) : (steerEdge a s).held = s.held := by
  simp only [steerEdge]; split <;> simp
@[simp] theorem enterTile_held (a) (b) (c) (d) (s : State) : (enterTile a b c d s).held = s.held := by simp [enterTile]
@[simp] theorem enterTiles_held (d b j) (s : State) : (enterTiles d b j s).held = s.held := by
  unfold enterTiles
  refine foldl_held _ (fun t i => ?_) _ s
  simp only []
  (repeat' split) <;> simp

@[simp] theorem offerAll_held (a) (b) (c) (d) (s : State) : (offerAll a b c d s).held = s.held := by simp [offerAll]
@[simp] theorem frameReset_held (a) (b) (s : State) : (frameReset a b s).held = s.held := by simp [frameReset]
@[simp] theorem sawClose_held (a) (s : State) : (sawClose a s).held = s.held := by simp [sawClose]
@[simp] theorem passBoundary_held (a) (s : State) : (passBoundary a s).held = s.held := by simp [passBoundary]
@[simp] theorem passBoundaries_held (s : State) : (passBoundaries s).held = s.held := by
  simp only [passBoundaries]
  rw [foldl_held _ (fun t b => by simp)]; simp
@[simp] theorem noteBoundary_held (a) (s : State) : (noteBoundary a s).held = s.held := by
  simp only [noteBoundary]; (repeat' split) <;> simp
@[simp] theorem expandShot_held (a) (b) (s : State) : (expandShot a b s).held = s.held := by
  simp only [expandShot]; (repeat' split) <;> simp
@[simp] theorem deadJudge_held (s : State) (a) : (deadJudge s a).held = s.held := by
  simp only [deadJudge]; (repeat' split) <;> simp
@[simp] theorem deadFrame_held (s : State) : (deadFrame s).held = s.held := by simp [deadFrame]
@[simp] theorem sweepFrame_held (s : State) : (sweepFrame s).held = s.held := by simp [sweepFrame]
@[simp] theorem frameStart_held (s : State) : (frameStart s).2.held = s.held := by
  simp only [frameStart]; split <;> simp
@[simp] theorem pbStopping_held (s : State) : (pbStopping s).held = s.held := by simp [pbStopping]
@[simp] theorem pbFault_held (a) (s : State) : (pbFault a s).held = s.held := by simp [pbFault]
@[simp] theorem enterSeg_held (a) (s : State) : (enterSeg a s).held = s.held := by simp [enterSeg]
@[simp] theorem ringPop_held (s : State) : (ringPop s).held = s.held := by simp [ringPop]
@[simp] theorem walkOn_held (s : State) : (walkOn s).held = s.held := by simp [walkOn]
@[simp] theorem passDesc_held (a) (s : State) : (passDesc a s).held = s.held := by simp [passDesc]
@[simp] theorem skipDesc_held (a) (s : State) : (skipDesc a s).held = s.held := by simp [skipDesc]
@[simp] theorem unstarve_held (s : State) : (unstarve s).held = s.held := by
  simp only [unstarve]; (repeat' split) <;> simp
@[simp] theorem starveNow_held (a) (s : State) : (starveNow a s).held = s.held := by simp [starveNow]
@[simp] theorem mirrorStarve_held (s : State) : (mirrorStarve s).held = s.held := by simp [mirrorStarve]
@[simp] theorem underCheck_held (s : State) : (underCheck s).held = s.held := by simp [underCheck]
@[simp] theorem gapEnd_held (a) (s : State) : (gapEnd a s).held = s.held := by simp [gapEnd]
@[simp] theorem blockTaken_held (a) (s : State) : (blockTaken a s).held = s.held := by
  simp only [blockTaken]; split <;> simp
@[simp] theorem findHeader_held (n) (s : State) : (findHeader n s).held = s.held := by
  induction n generalizing s with
  | zero => rfl
  | succ n ih => simp only [findHeader]; (repeat' split) <;> simp [ih]

@[simp] theorem reachDesc_held (a) (s : State) : (reachDesc a s).held = s.held := by
  simp only [reachDesc]; (repeat' split) <;> simp
@[simp] theorem descFetch_held (s : State) : (descFetch s).held = s.held := by simp [descFetch]
@[simp] theorem shotExpand_held (s : State) : (shotExpand s).held = s.held := by simp only [shotExpand]; split <;> simp
@[simp] theorem loopEnd_held (s : State) : (loopEnd s).held = s.held := by
  simp only [loopEnd]; (repeat' split) <;> simp
@[simp] theorem decisionPoint_held (s : State) : (decisionPoint s).held = s.held := by
  simp only [decisionPoint]; (repeat' split) <;> simp
@[simp] theorem pbStart_held (a) (s : State) : (pbStart a s).held = s.held := by simp [pbStart]
@[simp] theorem haltEvent_held (s : State) : (haltEvent s).held = s.held := by simp [haltEvent]
@[simp] theorem shotOrigin_held (a) (s : State) : (shotOrigin a s).held = s.held := by
  simp only [shotOrigin]; split <;> simp
@[simp] theorem clockEvent_held (s : State) : (clockEvent s).held = s.held := by simp [clockEvent]
@[simp] theorem mirrorLost_held (s : State) : (mirrorLost s).held = s.held := by simp [mirrorLost]
@[simp] theorem mpEdge_held (a) (s : State) : (mpEdge a s).held = s.held := by
  simp only [mpEdge]; (repeat' split) <;> simp
@[simp] theorem mirrorTimeout_held (s : State) : (mirrorTimeout s).held = s.held := by
  simp only [mirrorTimeout]; split <;> simp
@[simp] theorem ringAdd_held (a) (s : State) : (ringAdd a s).held = s.held := by simp [ringAdd]
@[simp] theorem dmaFetch_held (a) (s : State) : (dmaFetch a s).held = s.held := by simp [dmaFetch]
@[simp] theorem streamBad_held (s : State) : (streamBad s).held = s.held := by simp [streamBad]
@[simp] theorem streamData_held (a) (b) (c) (s : State) : (streamData a b c s).held = s.held := by simp [streamData]
@[simp] theorem pwrUpd_held (f) (s : State) : (pwrUpd f s).held =
    (s.pending, s.fact, s.safe.safe, s.safe.safeNLow, s.safe.firstCause, s.safe.entries, s.ctl.fwFault, s.ctl.mbxReady,
     (f s.pwr).inReset, (f s.pwr).shut, (f s.pwr).io33) := by cases s; rfl

@[simp] theorem romStart_held (s : State) : (romStart s).held = s.held := by simp [romStart]
@[simp] theorem romKick_held (s : State) : (romKick s).held = s.held := by simp [romKick]
@[simp] theorem romLocked_held (s : State) : (romLocked s).held = s.held := by simp [romLocked]
@[simp] theorem shutdownDone_held (s : State) : (shutdownDone s).held = s.held := by simp [shutdownDone]
@[simp] theorem coolSample_held (s : State) : (coolSample s).held = s.held := by simp [coolSample]
@[simp] theorem loadUser_held (s : State) : (loadUser s).held = s.held := by simp only [loadUser]; split <;> simp
@[simp] theorem loadImage_held (s : State) : (loadImage s).held = s.held := by
  simp only [loadImage]; (repeat' split) <;> simp
@[simp] theorem logShutdown_held (s : State) : (logShutdown s).held = s.held := by simp [logShutdown]
@[simp] theorem nvmAgain_held (a) (s : State) : (nvmAgain a s).held = s.held := by simp [nvmAgain]
@[simp] theorem pageDone_held (j) (s : State) : (pageDone j s).held = s.held := by
  unfold pageDone
  cases j <;> simp only [] <;> (repeat' split) <;> simp

@[simp] theorem pageFail_held (a) (s : State) : (pageFail a s).held = s.held := by simp only [pageFail]; split <;> simp
@[simp] theorem pageWritten_held (a) (s : State) : (pageWritten a s).held = s.held := by
  simp only [pageWritten]; split <;> simp
@[simp] theorem logFlushAll_held (s : State) : (logFlushAll s).held = s.held := by simp [logFlushAll]
@[simp] theorem bandDecide_held (a) (s : State) : (bandDecide a s).held = s.held := by simp [bandDecide]
@[simp] theorem implausible_held (s : State) : (implausible s).held = s.held := by simp [implausible]
@[simp] theorem sampleTaken_held (a) (s : State) : (sampleTaken a s).held = s.held := by simp [sampleTaken]
@[simp] theorem sampleTemp_held (a) (s : State) : (sampleTemp a s).held = s.held := by
  simp only [sampleTemp]; split <;> simp
@[simp] theorem swUpd_held (a) (s : State) : (swUpd a s).held = s.held := by simp [swUpd]
@[simp] theorem gateEnter_held (a) (b) (c) (d) (s : State) : (gateEnter a b c d s).held = s.held := by simp [gateEnter]
@[simp] theorem gateApply_held (a) (s : State) : (gateApply a s).held = s.held := by
  simp only [gateApply]; split <;> simp
@[simp] theorem gateNext_held (a) (s : State) : (gateNext a s).held = s.held := by simp only [gateNext]; split <;> simp
@[simp] theorem filterPass_held (a) (b) (s : State) : (filterPass a b s).2.held = s.held := by
  simp only [filterPass]; (repeat' split) <;> simp
@[simp] theorem recoverPass_held (a) (s : State) : (recoverPass a s).2.held = s.held := by
  simp only [recoverPass]; split <;> simp
@[simp] theorem learn_held (a) (b) (s : State) : (learn a b s).held = s.held := by simp [learn]
@[simp] theorem forward_held (a) (b) (s : State) : (forward a b s).held = s.held := by simp [forward]
@[simp] theorem cbReset_held (a) (s : State) : (cbReset a s).held = s.held := by simp [cbReset]
@[simp] theorem qciDrop_held (a) (s : State) : (qciDrop a s).held = s.held := by simp [qciDrop]
@[simp] theorem arpReply_held (a) (b) (s : State) : (arpReply a b s).held = s.held := by simp [arpReply]
@[simp] theorem p2Drop_held (s : State) : (p2Drop s).held = s.held := by simp [p2Drop]
@[simp] theorem arpTake_held (a) (b) (s : State) : (arpTake a b s).held = s.held := by simp [arpTake]
@[simp] theorem deliver_held (a) (b) (s : State) : (deliver a b s).2.held = s.held := by
  simp only [deliver]; (repeat' split) <;> simp
@[simp] theorem bridge_held (a) (b) (s : State) : (bridge a b s).held = s.held := by simp [bridge]
@[simp] theorem frameRx_held (a) (b) (s : State) : (frameRx a b s).2.held = s.held := by
  simp only [frameRx]; (repeat' split) <;> simp
@[simp] theorem datagramRx_held (p f port) (act : State → State) (h : ∀ t, (act t).held = t.held) (s : State) :
    (datagramRx p f port act s).held = s.held := by
  simp only [datagramRx]; split <;> simp [h]

@[simp] theorem syncOfs_held (a) (b) (s : State) : (syncOfs a b s).held = s.held := by simp [syncOfs]
@[simp] theorem gptpFrame_held (a) (b) (s : State) : (gptpFrame a b s).held = s.held := by simp [gptpFrame]
@[simp] theorem gptpRx_held (a) (b) (s : State) : (gptpRx a b s).held = s.held := by
  simp only [gptpRx]; (repeat' split) <;> simp
@[simp] theorem gptpTx_held (a) (b) (s : State) : (gptpTx a b s).held = s.held := by simp [gptpTx]
@[simp] theorem followUp_held (a) (b) (s : State) : (followUp a b s).held = s.held := by
  simp only [followUp]; split <;> simp
@[simp] theorem frameSent_held (a) (s : State) : (frameSent a s).held = s.held := by
  simp only [frameSent]; split <;> simp
@[simp] theorem linkChange_held (a) (b) (s : State) : (linkChange a b s).held = s.held := by simp [linkChange]
@[simp] theorem tbUpd_held (a) (s : State) : (tbUpd a s).held = s.held := by simp [tbUpd]
@[simp] theorem teamUpd_held (a) (s : State) : (teamUpd a s).held = s.held := by simp [teamUpd]
@[simp] theorem tpllWindow_held (a) (b) (c) (s : State) : (tpllWindow a b c s).held = s.held := by
  simp only [tpllWindow]; (repeat' split) <;> simp
@[simp] theorem nplLost_held (s : State) : (nplLost s).held = s.held := by simp [nplLost]
@[simp] theorem sdWindow_held (a) (b) (s : State) : (sdWindow a b s).held = s.held := by simp [sdWindow]
@[simp] theorem sdLoss_held (s : State) : (sdLoss s).held = s.held := by simp [sdLoss]
@[simp] theorem refHere_held (s : State) : (refHere s).held = s.held := by simp [refHere]
@[simp] theorem refGone_held (a) (b) (s : State) : (refGone a b s).held = s.held := by
  simp only [refGone]; (repeat' split) <;> simp
@[simp] theorem searchDone_held (a) (b) (s : State) : (searchDone a b s).held = s.held := by simp [searchDone]
@[simp] theorem reacqLate_held (s : State) : (reacqLate s).held = s.held := by simp only [reacqLate]; split <;> simp
@[simp] theorem freqJudge_held (a) (b) (s : State) : (freqJudge a b s).held = s.held := by simp [freqJudge]
@[simp] theorem aonPeriod_held (a) (s : State) : (aonPeriod a s).held = s.held := by simp [aonPeriod]
@[simp] theorem followerJump_held (a) (s : State) : (followerJump a s).held = s.held := by simp [followerJump]
@[simp] theorem phaseJump_held (a) (s : State) : (phaseJump a s).held = s.held := by simp [phaseJump]
@[simp] theorem quietFrame_held (s : State) : (quietFrame s).held = s.held := by simp [quietFrame]
@[simp] theorem quietStart_held (a) (s : State) : (quietStart a s).held = s.held := by simp [quietStart]
@[simp] theorem huddleEdge_held (s : State) : (huddleEdge s).held = s.held := by simp [huddleEdge]
@[simp] theorem huddleDrive_held (s : State) : (huddleDrive s).held = s.held := by
  simp only [huddleDrive]; split <;> simp
@[simp] theorem putTpll_held (a) (s : State) : (putTpll a s).held = s.held := by simp [putTpll]
@[simp] theorem bandStore_held (a) (s : State) : (bandStore a s).held = s.held := by simp [bandStore]
@[simp] theorem bandHop_held (a) (s : State) : (bandHop a s).held = s.held := by simp [bandHop]
@[simp] theorem teamLinkGone_held (s : State) : (teamLinkGone s).held = s.held := by simp [teamLinkGone]
@[simp] theorem hopLost_held (a) (s : State) : (hopLost a s).held = s.held := by simp [hopLost]
@[simp] theorem hopBack_held (a) (s : State) : (hopBack a s).held = s.held := by simp [hopBack]
@[simp] theorem nolgilRelay_held (a) (b) (c) (s : State) : (nolgilRelay a b c s).held = s.held := by simp [nolgilRelay]
@[simp] theorem nolgilIn_held (u k v) (f : State → State) (h : ∀ t, (f t).held = t.held) (s : State) :
    (nolgilIn u k v f s).held = s.held := by
  simp only [nolgilIn]; split <;> simp [h]

@[simp] theorem formMsg_held (a) (b) (c) (s : State) : (formMsg a b c s).held = s.held := by simp [formMsg]
@[simp] theorem stateMsg_held (a) (b) (c) (d) (e) (f) (g) (s : State) : (stateMsg a b c d e f g s).held = s.held := by
  simp [stateMsg]
@[simp] theorem watchHop_held (a) (s : State) : (watchHop a s).held = s.held := by
  simp only [watchHop]; (repeat' split) <;> simp
@[simp] theorem stageEpoch_held (a) (s : State) : (stageEpoch a s).held = s.held := by simp [stageEpoch]
@[simp] theorem calBegin_held (a) (b) (c) (d) (e) (s : State) : (calBegin a b c d e s).held = s.held := by
  simp [calBegin]
@[simp] theorem calFinish_held (s : State) : (calFinish s).held = s.held := by simp [calFinish]
@[simp] theorem leaveService_held (a) (s : State) : (leaveService a s).held = s.held := by simp [leaveService]
@[simp] theorem linTile_held (a) (b) (s : State) : (linTile a b s).held = s.held := by
  simp only [linTile]; (repeat' split) <;> simp
@[simp] theorem linPass_held (a) (s : State) : (linPass a s).held = s.held := by simp [linPass]
@[simp] theorem linTimeout_held (a) (s : State) : (linTimeout a s).held = s.held := by simp [linTimeout]
@[simp] theorem zeroReach_held (s : State) : (zeroReach s).held = s.held := by
  simp only [zeroReach]; split <;> simp
@[simp] theorem zeroShot_held (a) (s : State) : (zeroShot a s).held = s.held := by simp [zeroShot]
@[simp] theorem zeroChannel_held (a) (s : State) : (zeroChannel a s).held = s.held := by simp [zeroChannel]
@[simp] theorem zeroBlock_held (s : State) : (zeroBlock s).held = s.held := by simp [zeroBlock]
@[simp] theorem zeroTimeout_held (s : State) : (zeroTimeout s).held = s.held := by simp [zeroTimeout]
@[simp] theorem teamMeasured_held (a) (b) (s : State) : (teamMeasured a b s).held = s.held := by simp [teamMeasured]
@[simp] theorem teamApply_held (s : State) : (teamApply s).held = s.held := by simp only [teamApply]; split <;> simp
@[simp] theorem teamTimeout_held (s : State) : (teamTimeout s).held = s.held := by simp [teamTimeout]
@[simp] theorem autoCal_held (s : State) : (autoCal s).held = s.held := by simp only [autoCal]; split <;> simp
@[simp] theorem standbyLoaded_held (s : State) : (standbyLoaded s).held = s.held := by simp [standbyLoaded]
@[simp] theorem staleNow_held (s : State) : (staleNow s).held = s.held := by
  unfold staleNow
  (repeat' split) <;> simp

@[simp] theorem saveUser_held (s : State) : (saveUser s).held = s.held := by simp [saveUser]
@[simp] theorem restoreUser_held (a) (s : State) : (restoreUser a s).held = s.held := by simp [restoreUser]
@[simp] theorem beginClosure_held (a) (b) (s : State) : (beginClosure a b s).held = s.held := by simp [beginClosure]
@[simp] theorem trackUpd_held (a) (b) (s : State) : (trackUpd a b s).held = s.held := by simp [trackUpd]
@[simp] theorem freezeBg_held (a) (b) (s : State) : (freezeBg a b s).held = s.held := by simp [freezeBg]
@[simp] theorem dumpPixel_held (a) (s : State) : (dumpPixel a s).held = s.held := by simp [dumpPixel]
@[simp] theorem publishPixel_held (a) (b) (s : State) : (publishPixel a b s).held = s.held := by simp [publishPixel]
@[simp] theorem persUpd_held (a) (b) (s : State) : (persUpd a b s).held = s.held := by simp [persUpd]
@[simp] theorem persPixel_held (a) (s : State) : (persPixel a s).2.held = s.held := by
  simp only [persPixel]; split <;> simp
@[simp] theorem sweepTag_held (a) (b) (s : State) : (sweepTag a b s).held = s.held := by simp [sweepTag]
@[simp] theorem tagsCleared_held (a) (s : State) : (tagsCleared a s).held = s.held := by simp [tagsCleared]
@[simp] theorem readLosses_held (l c) (s : State) : (readLosses l c s).2.held = s.held := by
  have run : ∀ (f : Closed × State → EccHit → Closed) (k g : EccHit → Nat) (p : Closed × State), (l.foldl (fun a i =>
      (f a i, binRead (k i) c.ch (g i) a.2)) p).2.held = p.2.held := by
    intro f k g
    induction l with
    | nil => intro p; rfl
    | cons x r ih => intro p; rw [List.foldl_cons, ih]; simp
  exact run (fun a h => if h.lost then { a.1 with pix := loseBins h.granule a.1.pix } else a.1)
    (fun h => if h.lost then 2 else 1)
    (fun h => h.granule % 1024 + if (chanGet s c.ch).accB = true then 0 else 1024) (c, s)

@[simp] theorem passStart_held (a) (b) (s : State) : (passStart a b s).held = s.held := by
  simp only [passStart]; split <;> simp
@[simp] theorem passDone_held (a) (s : State) : (passDone a s).held = s.held := by simp only [passDone]; split <;> simp
@[simp] theorem publishNext_held (a) (s : State) : (publishNext a s).held = s.held := by
  simp only [publishNext]; split <;> simp
@[simp] theorem haltDeferred_held (a) (s : State) : (haltDeferred a s).held = s.held := by
  simp only [haltDeferred]; (repeat' split) <;> simp
@[simp] theorem histClear_held (a) (b) (c) (s : State) : (histClear a b c s).held = s.held := by simp [histClear]
@[simp] theorem armBy_held (a) (s : State) : (armBy a s).held = s.held := by simp [armBy]
@[simp] theorem refuseVolley_held (a) (b) (s : State) : (refuseVolley a b s).held = s.held := by simp [refuseVolley]
@[simp] theorem refuseEdge_held (a) (b) (c) (s : State) : (refuseEdge a b c s).held = s.held := by simp [refuseEdge]
@[simp] theorem acceptVolley_held (a) (s : State) : (acceptVolley a s).held = s.held := by
  simp only [acceptVolley]; split <;> simp
@[simp] theorem judgeVolley_held (a) (s : State) : (judgeVolley a s).held = s.held := by simp [judgeVolley]
@[simp] theorem dueNow_held (s : State) : (dueNow s).held = s.held := by simp [dueNow]
@[simp] theorem volleyOffer_held (a) (s : State) : (volleyOffer a s).held = s.held := by
  simp only [volleyOffer]; split <;> simp
@[simp] theorem edgeLaunch_held (a) (s : State) : (edgeLaunch a s).held = s.held := by
  simp only [edgeLaunch]; split <;> simp
@[simp] theorem lbCheck_held (a) (b) (c) (s : State) : (lbCheck a b c s).held = s.held := by
  simp only [lbCheck]; (repeat' split) <;> simp
@[simp] theorem tripFall_held (a) (b) (s : State) : (tripFall a b s).held = s.held := by simp [tripFall]
@[simp] theorem clearTrip_held (a) (s : State) : (clearTrip a s).held = s.held := by simp [clearTrip]
@[simp] theorem eccBank_held (a) (b) (s : State) : (eccBank a b s).held = s.held := by simp [eccBank]
@[simp] theorem eccRow_held (a) (b) (c) (d) (s : State) : (eccRow a b c d s).held = s.held := by simp [eccRow]
@[simp] theorem eccQueue_held (a) (b) (s : State) : (eccQueue a b s).held = s.held := by simp [eccQueue]
@[simp] theorem eccDesc_held (a) (b) (s : State) : (eccDesc a b s).held = s.held := by simp [eccDesc]
@[simp] theorem eccLpddr_held (a) (s : State) : (eccLpddr a s).held = s.held := by simp [eccLpddr]
@[simp] theorem eccZero_held (a) (b) (s : State) : (eccZero a b s).held = s.held := by simp [eccZero]
@[simp] theorem eccRead_held (a) (b) (c) (s : State) : (eccRead a b c s).held = s.held := by simp [eccRead]
@[simp] theorem plausCheck_held (a) (s : State) : (plausCheck a s).held = s.held := by simp [plausCheck]

end Sys2Proof.Machine
end

