-- ==== Sys2Proof/Laws/Block.lean ====
section
/-! SUPPORT. What records, alerts, interrupts, the journal and the mailboxes leave alone: every part of the block but the
control unit, the output queues, the switch, the Umpire and the MRAM page writes under way. -/

namespace Sys2Proof.Machine

/-- The power unit but for the MRAM page writes under way. -/
def Pwr.noPage (p : Pwr) : Pwr := { p with nvmQ := [], nvmNow := none, nvmRetry := false }

/-- The parts of the block that no response, record, alert or journal entry changes. -/
def State.block (s : State) :=
  (s.pending, s.now, s.up, s.free, s.cfg, s.tb, s.pwr.noPage, s.team, s.em, s.pb, s.rx, s.mon, s.smpUp, s.cmpDeferred, s.bndQ,
   s.rxTile, s.tripN, s.chan, s.tile, s.eng, s.track, s.pers, s.cal, s.fact, s.tap)

@[simp] theorem block_mk (p n u f cfg ctl tb sa pw oq sw te em pb rx mo sm cd bq rt tn ch ti en tr pe ca fa ta) :
    State.block (State.mk p n u f cfg ctl tb sa pw oq sw te em pb rx mo sm cd bq rt tn ch ti en tr pe ca fa ta)
      = (p, n, u, f, cfg, tb, pw.noPage, te, em, pb, rx, mo, sm, cd, bq, rt, tn, ch, ti, en, tr, pe, ca, fa, ta) := by
  unfold State.block; rfl

@[simp] theorem block_eta (s : State) :
    (s.pending, s.now, s.up, s.free, s.cfg, s.tb, s.pwr.noPage, s.team, s.em, s.pb, s.rx, s.mon, s.smpUp, s.cmpDeferred, s.bndQ,
     s.rxTile, s.tripN, s.chan, s.tile, s.eng, s.track, s.pers, s.cal, s.fact, s.tap) = s.block := by cases s; rfl

@[simp] theorem ite_block (c : Prop) [Decidable c] (x y : State) :
    (if c then x else y).block = if c then x.block else y.block := apply_ite State.block c x y

@[simp] theorem foldl_block {α : Type} (f : State → α → State) (h : ∀ a x, (f a x).block = a.block) (l : List α)
    (s : State) : (l.foldl f s).block = s.block := by
  induction l generalizing s with
  | nil => rfl
  | cons x t ih => simp [ih, h]

@[simp] theorem decideCause_block (a) (b) (c) (s : State) : (decideCause a b c s).block = s.block := by
  simp [decideCause]
@[simp] theorem causeGone_block (a) (s : State) : (causeGone a s).block = s.block := by simp [causeGone]
@[simp] theorem irqP_block (a) (s : State) : (irqP a s).block = s.block := by simp [irqP]
@[simp] theorem irqS_block (a) (s : State) : (irqS a s).block = s.block := by simp [irqS]
@[simp] theorem irqBoth_block (a) (s : State) : (irqBoth a s).block = s.block := by simp [irqBoth]
@[simp] theorem journal_block (a) (s : State) : (journal a s).block = s.block := by simp [journal]
@[simp] theorem journalDev_block (a) (s : State) : (journalDev a s).block = s.block := by simp [journalDev]
@[simp] theorem journalCmd_block (a) (b) (c) (s : State) : (journalCmd a b c s).block = s.block := by simp [journalCmd]
@[simp] theorem qUpd_block (a) (b) (s : State) : (qUpd a b s).block = s.block := by simp [qUpd]
@[simp] theorem clsUpd_block (a) (b) (s : State) : (clsUpd a b s).block = s.block := by simp [clsUpd]
@[simp] theorem out_block (a) (s : State) : (out a s).block = s.block := by simp [out]
@[simp] theorem queueIrq_block (a) (s : State) : (queueIrq a s).block = s.block := by simp [queueIrq]
@[simp] theorem ringPlace_block (a) (b) (s : State) : (ringPlace a b s).block = s.block := by simp [ringPlace]
@[simp] theorem ringWrite_block (a) (b) (s : State) : (ringWrite a b s).block = s.block := by simp [ringWrite]
@[simp] theorem portUpd_block (a) (b) (s : State) : (portUpd a b s).block = s.block := by simp [portUpd]
@[simp] theorem schedScale_block (a) (s : State) : (schedScale a s).block = s.block := by
  simp only [schedScale]; (repeat' split) <;> simp
@[simp] theorem schedBoth_block (s : State) : (schedBoth s).block = s.block := by simp [schedBoth]
@[simp] theorem portDown_block (a) (s : State) : (portDown a s).block = s.block := by simp [portDown]
@[simp] theorem startFrame_block (a) (b) (c) (s : State) : (startFrame a b c s).block = s.block := by
  simp only [startFrame]; split <;> simp
@[simp] theorem resumeFrame_block (a) (s : State) : (resumeFrame a s).block = s.block := by simp [resumeFrame]
@[simp] theorem cutFrame_block (a) (b) (s : State) : (cutFrame a b s).block = s.block := by
  simp only [cutFrame]; (repeat' split) <;> simp
@[simp] theorem holdCut_block (a) (b) (s : State) : (holdCut a b s).block = s.block := by
  simp only [holdCut]; (repeat' split) <;> simp
@[simp] theorem holdFor_block (a) (s : State) : (holdFor a s).block = s.block := by simp only [holdFor]; split <;> simp
@[simp] theorem preemptFrame_block (a) (b) (s : State) : (preemptFrame a b s).block = s.block := by simp [preemptFrame]
@[simp] theorem nextFrame_block (s : State) (a) (b) : (nextFrame s a b).block = s.block := by
  simp only [nextFrame]; (repeat' split) <;> simp
@[simp] theorem portServe_block (a) (s : State) : (portServe a s).block = s.block := by simp [portServe]
@[simp] theorem egressPut_block (a) (b) (c) (s : State) : (egressPut a b c s).block = s.block := by
  simp only [egressPut]; (repeat' split) <;> simp
@[simp] theorem sendDatagram_block (a) (b) (c) (d) (e) (f) (s : State) : (sendDatagram a b c d e f s).block = s.block := by
  simp only [sendDatagram]
  rw [foldl_block]
  · split <;> simp
  · intro x p
    (repeat' split) <;> simp

@[simp] theorem flushQueue_block (a) (s : State) : (flushQueue a s).block = s.block := by simp [flushQueue]
@[simp] theorem netFrag_block (a) (b) (s : State) : (netFrag a b s).block = s.block := by simp [netFrag]
@[simp] theorem netWrite_block (a) (b) (c) (s : State) : (netWrite a b c s).block = s.block := by simp [netWrite]
@[simp] theorem ringOffer_block (a) (b) (s : State) : (ringOffer a b s).block = s.block := by simp [ringOffer]
@[simp] theorem ringDecide_block (a) (s : State) : (ringDecide a s).block = s.block := by simp [ringDecide]
@[simp] theorem emitRecord_block (a) (b) (c) (d) (s : State) : (emitRecord a b c d s).block = s.block := by
  simp [emitRecord]
@[simp] theorem c0Set_block (a) (b) (s : State) : (c0Set a b s).block = s.block := by simp [c0Set]
@[simp] theorem deliverAlert_block (a) (b) (c) (s : State) : (deliverAlert a b c s).block = s.block := by
  simp [deliverAlert]
@[simp] theorem drainC0_block (d n) (s : State) : (drainC0 d n s).block = s.block := by
  induction n generalizing s with
  | zero => rfl
  | succ n ih => simp only [drainC0]; (repeat' split) <;> simp [ih]

@[simp] theorem queueAlert_block (a) (b) (c) (s : State) : (queueAlert a b c s).block = s.block := by simp [queueAlert]
@[simp] theorem sendAlert_block (a) (b) (c) (d) (e) (s : State) : (sendAlert a b c d e s).block = s.block := by
  simp [sendAlert]
@[simp] theorem nvmKick_block (s : State) : (nvmKick s).block = s.block := by
  simp only [nvmKick]; (repeat' split) <;> simp [State.block, Pwr.noPage]

@[simp] theorem nvmPut_block (j) (s : State) : (nvmPut j s).block = s.block := by
  rw [nvmPut, nvmKick_block]; simp [State.block, Pwr.noPage]

@[simp] theorem mirrorStart_block (s : State) : (mirrorStart s).block = s.block := by simp [mirrorStart]
@[simp] theorem mirrorTick_block (s : State) : (mirrorTick s).block = s.block := by simp [mirrorTick]
@[simp] theorem mirrorGo_block (s : State) : (mirrorGo s).block = s.block := by simp [mirrorGo]
@[simp] theorem mbxPut_block (a) (b) (s : State) : (mbxPut a b s).block = s.block := by simp [mbxPut]
@[simp] theorem udpReply_block (a) (b) (c) (s : State) : (udpReply a b c s).block = s.block := by simp [udpReply]
@[simp] theorem respond_block (a) (b) (c) (d) (e) (f) (s : State) : (respond a b c d e f s).block = s.block := by
  simp only [respond]; (repeat' split) <;> simp
@[simp] theorem bgDone_block (a) (b) (c) (d) (s : State) : (bgDone a b c d s).block = s.block := by
  simp only [bgDone]; split <;> simp
@[simp] theorem takeSeq_block (a) (s : State) : (takeSeq a s).2.block = s.block := by simp [takeSeq]
@[simp] theorem refuse_block (a) (b) (s : State) : (refuse a b s).block = s.block := by simp [refuse]
@[simp] theorem answerUnknown_block (n) (s : State) : (answerUnknown n s).block = s.block := by
  induction n generalizing s with
  | zero => rfl
  | succ n ih => simp only [answerUnknown]; (repeat' split) <;> simp [ih]

@[simp] theorem safeUpd_block (f) (s : State) : (safeUpd f s).block = s.block := by unfold safeUpd; simp

@[simp] theorem takeSupp_block (a) (b) (c) (s : State) : (takeSupp a b c s).2.block = s.block := by simp [takeSupp]
@[simp] theorem sendCode_block (a) (b) (c) (d) (e) (f) (s : State) : (sendCode a b c d e f s).block = s.block := by simp [sendCode]
@[simp] theorem sendDecision_block (a) (b) (s : State) : (sendDecision a b s).block = s.block := by simp [sendDecision]
@[simp] theorem safetyAlert_block (a) (s : State) : (safetyAlert a s).block = s.block := by simp [safetyAlert]
@[simp] theorem bootGone_block (s : State) : (bootGone s).block = s.block := by simp [bootGone]
@[simp] theorem mergeGone_block (s : State) : (mergeGone s).block = s.block := by simp [mergeGone]
@[simp] theorem causesGone_block (s : State) : (causesGone s).block = s.block := by simp [causesGone]
@[simp] theorem outPortClear_block (a) (s : State) : (outPortClear a s).block = s.block := by simp [outPortClear]
@[simp] theorem outQClear_block (a) (s : State) : (outQClear a s).block = s.block := by simp [outQClear]
@[simp] theorem outClsClear_block (s : State) : (outClsClear s).block = s.block := by simp [outClsClear]
@[simp] theorem safeClearCnt_block (s : State) : (safeClearCnt s).block = s.block := by simp [safeClearCnt]
@[simp] theorem sysClear_block (s : State) : (sysClear s).block = s.block := by simp [sysClear]
@[simp] theorem telemRecord_block (a) (b) (c) (d) (s : State) : (telemRecord a b c d s).block = s.block := by
  simp [telemRecord]
@[simp] theorem telemetry_block (s : State) : (telemetry s).block = s.block := by
  simp only [telemetry]; (repeat' split) <;> simp
@[simp] theorem teamState_block (s0 : State) (s : State) : (teamState s0 s).block = s.block := by simp [teamState]
@[simp] theorem xing5_block (s : State) : (xing5 s).block = s.block := by simp [xing5]
@[simp] theorem txnPut_block (a) (b) (s : State) : (txnPut a b s).block = s.block := by simp [txnPut]
@[simp] theorem txnTouch_block (a) (b) (s : State) : (txnTouch a b s).block = s.block := by
  simp only [txnTouch]; split <;> simp
@[simp] theorem txnClose_block (a) (b) (c) (s : State) : (txnClose a b c s).block = s.block := by simp [txnClose]
@[simp] theorem deny_block (a) (b) (c) (s : State) : (deny a b c s).block = s.block := by simp [deny]
@[simp] theorem stageCmd_block (a) (b) (c) (s : State) : (stageCmd a b c s).block = s.block := by
  simp only [stageCmd]; split <;> simp

end Sys2Proof.Machine
end

