-- ==== Sys2Proof/Laws/Tab.lean ====
section
/-! SUPPORT. Sparse tables: reading after writing, and that every write keeps the canonical form. -/

namespace Sys2Proof.Machine

variable {α : Type}

@[simp] theorem tabGet_nil (d : α) (i : Nat) : tabGet d [] i = d := rfl

theorem tabGet_tabPut_same (d : α) (t : Tab α) (i : Nat) (x : α) : tabGet d (tabPut t i x) i = x := by
  induction t with
  | nil => simp [tabPut, tabGet]
  | cons p t ih =>
    obtain ⟨k, v⟩ := p
    simp only [tabPut]
    split
    · simp [tabGet]
    · next h => split <;> simp [tabGet, h, ih]

theorem tabGet_tabPut_other (d : α) (t : Tab α) {i j : Nat} (x : α) (h : j ≠ i) : tabGet d (tabPut t i x) j = tabGet d t j := by
  have h' : i ≠ j := fun e => h e.symm
  induction t with
  | nil => simp [tabPut, tabGet, h']
  | cons p t ih =>
    obtain ⟨k, v⟩ := p
    simp only [tabPut]
    split
    · next e => subst e; simp [tabGet, h']
    · split
      · simp [tabGet, h']
      · simp only [tabGet, ih]

theorem tabGet_tabDel_same (d : α) (t : Tab α) (i : Nat) : tabGet d (tabDel t i) i = d := by
  unfold tabDel
  induction t with
  | nil => rfl
  | cons p t ih =>
    by_cases h : p.1 = i
    · simp [h, ih]
    · simp [tabGet, h, ih]

theorem tabGet_tabDel_other (d : α) (t : Tab α) {i j : Nat} (h : j ≠ i) : tabGet d (tabDel t i) j = tabGet d t j := by
  unfold tabDel
  induction t with
  | nil => rfl
  | cons p t ih =>
    by_cases g : p.1 = i
    · simp [tabGet, g, ih]
      intro e; exact absurd e.symm h
    · simp [tabGet, g, ih]

variable [DecidableEq α]

@[simp] theorem tabGet_tabSet_same (d : α) (t : Tab α) (i : Nat) (x : α) : tabGet d (tabSet d t i x) i = x := by
  unfold tabSet
  split
  · next h => rw [tabGet_tabDel_same, h]
  · exact tabGet_tabPut_same d t i x

theorem tabGet_tabSet_other (d : α) (t : Tab α) {i j : Nat} (x : α) (h : j ≠ i) : tabGet d (tabSet d t i x) j = tabGet d t j := by
  unfold tabSet
  split
  · exact tabGet_tabDel_other d t h
  · exact tabGet_tabPut_other d t x h

@[simp] theorem tabGet_tabUpd_same (d : α) (t : Tab α) (i : Nat) (f : α → α) :
    tabGet d (tabUpd d t i f) i = f (tabGet d t i) := tabGet_tabSet_same d t i _

theorem tabGet_tabUpd_other (d : α) (t : Tab α) {i j : Nat} (f : α → α) (h : j ≠ i) :
    tabGet d (tabUpd d t i f) j = tabGet d t j := tabGet_tabSet_other d t _ h

/-! ### The canonical form -/

theorem tabWf_cons {d : α} {k : Nat} {v : α} {t : Tab α} :
    tabWf d ((k, v) :: t) = true ↔ v ≠ d ∧ (∀ p ∈ t, k < p.1) ∧ tabWf d t = true := by
  simp [tabWf, and_assoc]

theorem tabWf_tabDel {d : α} {t : Tab α} (h : tabWf d t = true) (i : Nat) : tabWf d (tabDel t i) = true := by
  unfold tabDel
  induction t with
  | nil => rfl
  | cons p t ih =>
    obtain ⟨k, v⟩ := p
    obtain ⟨a, b, c⟩ := tabWf_cons.mp h
    by_cases g : k = i
    · simp [g, ih c]
    · rw [List.filter_cons, if_pos (by simpa using g), tabWf_cons]
      exact ⟨a, fun p hp => b p (List.mem_filter.mp hp).1, ih c⟩

omit [DecidableEq α] in
theorem mem_tabPut {t : Tab α} {i : Nat} {x : α} {p : Nat × α} (h : p ∈ tabPut t i x) : p = (i, x) ∨ p ∈ t := by
  induction t with
  | nil => simpa [tabPut] using h
  | cons q t ih =>
    obtain ⟨k, v⟩ := q
    simp only [tabPut] at h
    split at h
    · simp at h ⊢; rcases h with h | h <;> simp [h]
    · split at h
      · simpa using h
      · rcases List.mem_cons.mp h with h | h
        · simp [h]
        · rcases ih h with h | h <;> simp [h]

theorem tabWf_tabPut {d : α} {t : Tab α} (h : tabWf d t = true) (i : Nat) {x : α} (n : x ≠ d) : tabWf d (tabPut t i x) = true := by
  induction t with
  | nil => simp [tabPut, tabWf, n]
  | cons q t ih =>
    obtain ⟨k, v⟩ := q
    obtain ⟨a, b, c⟩ := tabWf_cons.mp h
    simp only [tabPut]
    split
    · next e => subst e; exact tabWf_cons.mpr ⟨n, b, c⟩
    · next e =>
      split
      · next g =>
        refine tabWf_cons.mpr ⟨n, fun p hp => ?_, h⟩
        rcases List.mem_cons.mp hp with hp | hp
        · rw [hp]; exact g
        · exact Nat.lt_trans g (b p hp)
      · next g =>
        refine tabWf_cons.mpr ⟨a, fun p hp => ?_, ih c⟩
        rcases mem_tabPut hp with hp | hp
        · rw [hp]; show k < i; omega
        · exact b p hp

/-- Every write to a sparse table keeps its canonical form. -/
theorem tabWf_tabSet {d : α} {t : Tab α} (h : tabWf d t = true) (i : Nat) (x : α) : tabWf d (tabSet d t i x) = true := by
  unfold tabSet
  split
  · exact tabWf_tabDel h i
  · next n => exact tabWf_tabPut h i n

theorem tabWf_tabUpd {d : α} {t : Tab α} (h : tabWf d t = true) (i : Nat) (f : α → α) : tabWf d (tabUpd d t i f) = true :=
  tabWf_tabSet h i _

end Sys2Proof.Machine
end

