-- ==== Sys2Proof/Laws/State.lean ====
section
/-! SUPPORT. One lemma per field per update: what each named update of the state writes, and that it writes nothing
else; and reading a table entry of the state after it is changed. -/

namespace Sys2Proof.Machine

/-! ### pbUpd -/

@[simp] theorem pbUpd_pending (f : Pb → Pb) (s : State) : (pbUpd f s).pending = s.pending := rfl
@[simp] theorem pbUpd_now (f : Pb → Pb) (s : State) : (pbUpd f s).now = s.now := rfl
@[simp] theorem pbUpd_up (f : Pb → Pb) (s : State) : (pbUpd f s).up = s.up := rfl
@[simp] theorem pbUpd_free (f : Pb → Pb) (s : State) : (pbUpd f s).free = s.free := rfl
@[simp] theorem pbUpd_cfg (f : Pb → Pb) (s : State) : (pbUpd f s).cfg = s.cfg := rfl
@[simp] theorem pbUpd_ctl (f : Pb → Pb) (s : State) : (pbUpd f s).ctl = s.ctl := rfl
@[simp] theorem pbUpd_tb (f : Pb → Pb) (s : State) : (pbUpd f s).tb = s.tb := rfl
@[simp] theorem pbUpd_safe (f : Pb → Pb) (s : State) : (pbUpd f s).safe = s.safe := rfl
@[simp] theorem pbUpd_pwr (f : Pb → Pb) (s : State) : (pbUpd f s).pwr = s.pwr := rfl
@[simp] theorem pbUpd_outq (f : Pb → Pb) (s : State) : (pbUpd f s).outq = s.outq := rfl
@[simp] theorem pbUpd_sw (f : Pb → Pb) (s : State) : (pbUpd f s).sw = s.sw := rfl
@[simp] theorem pbUpd_team (f : Pb → Pb) (s : State) : (pbUpd f s).team = s.team := rfl
@[simp] theorem pbUpd_em (f : Pb → Pb) (s : State) : (pbUpd f s).em = s.em := rfl
@[simp] theorem pbUpd_pb (f : Pb → Pb) (s : State) : (pbUpd f s).pb = f s.pb := rfl
@[simp] theorem pbUpd_rx (f : Pb → Pb) (s : State) : (pbUpd f s).rx = s.rx := rfl
@[simp] theorem pbUpd_mon (f : Pb → Pb) (s : State) : (pbUpd f s).mon = s.mon := rfl
@[simp] theorem pbUpd_smpUp (f : Pb → Pb) (s : State) : (pbUpd f s).smpUp = s.smpUp := rfl
@[simp] theorem pbUpd_cmpDeferred (f : Pb → Pb) (s : State) : (pbUpd f s).cmpDeferred = s.cmpDeferred := rfl
@[simp] theorem pbUpd_bndQ (f : Pb → Pb) (s : State) : (pbUpd f s).bndQ = s.bndQ := rfl
@[simp] theorem pbUpd_rxTile (f : Pb → Pb) (s : State) : (pbUpd f s).rxTile = s.rxTile := rfl
@[simp] theorem pbUpd_tripN (f : Pb → Pb) (s : State) : (pbUpd f s).tripN = s.tripN := rfl
@[simp] theorem pbUpd_chan (f : Pb → Pb) (s : State) : (pbUpd f s).chan = s.chan := rfl
@[simp] theorem pbUpd_tile (f : Pb → Pb) (s : State) : (pbUpd f s).tile = s.tile := rfl
@[simp] theorem pbUpd_eng (f : Pb → Pb) (s : State) : (pbUpd f s).eng = s.eng := rfl
@[simp] theorem pbUpd_track (f : Pb → Pb) (s : State) : (pbUpd f s).track = s.track := rfl
@[simp] theorem pbUpd_pers (f : Pb → Pb) (s : State) : (pbUpd f s).pers = s.pers := rfl
@[simp] theorem pbUpd_cal (f : Pb → Pb) (s : State) : (pbUpd f s).cal = s.cal := rfl
@[simp] theorem pbUpd_fact (f : Pb → Pb) (s : State) : (pbUpd f s).fact = s.fact := rfl
@[simp] theorem pbUpd_tap (f : Pb → Pb) (s : State) : (pbUpd f s).tap = s.tap := rfl

/-! ### pwrUpd -/

@[simp] theorem pwrUpd_pending (f : Pwr → Pwr) (s : State) : (pwrUpd f s).pending = s.pending := rfl
@[simp] theorem pwrUpd_now (f : Pwr → Pwr) (s : State) : (pwrUpd f s).now = s.now := rfl
@[simp] theorem pwrUpd_up (f : Pwr → Pwr) (s : State) : (pwrUpd f s).up = s.up := rfl
@[simp] theorem pwrUpd_free (f : Pwr → Pwr) (s : State) : (pwrUpd f s).free = s.free := rfl
@[simp] theorem pwrUpd_cfg (f : Pwr → Pwr) (s : State) : (pwrUpd f s).cfg = s.cfg := rfl
@[simp] theorem pwrUpd_ctl (f : Pwr → Pwr) (s : State) : (pwrUpd f s).ctl = s.ctl := rfl
@[simp] theorem pwrUpd_tb (f : Pwr → Pwr) (s : State) : (pwrUpd f s).tb = s.tb := rfl
@[simp] theorem pwrUpd_safe (f : Pwr → Pwr) (s : State) : (pwrUpd f s).safe = s.safe := rfl
@[simp] theorem pwrUpd_pwr (f : Pwr → Pwr) (s : State) : (pwrUpd f s).pwr = f s.pwr := rfl
@[simp] theorem pwrUpd_outq (f : Pwr → Pwr) (s : State) : (pwrUpd f s).outq = s.outq := rfl
@[simp] theorem pwrUpd_sw (f : Pwr → Pwr) (s : State) : (pwrUpd f s).sw = s.sw := rfl
@[simp] theorem pwrUpd_team (f : Pwr → Pwr) (s : State) : (pwrUpd f s).team = s.team := rfl
@[simp] theorem pwrUpd_em (f : Pwr → Pwr) (s : State) : (pwrUpd f s).em = s.em := rfl
@[simp] theorem pwrUpd_pb (f : Pwr → Pwr) (s : State) : (pwrUpd f s).pb = s.pb := rfl
@[simp] theorem pwrUpd_rx (f : Pwr → Pwr) (s : State) : (pwrUpd f s).rx = s.rx := rfl
@[simp] theorem pwrUpd_mon (f : Pwr → Pwr) (s : State) : (pwrUpd f s).mon = s.mon := rfl
@[simp] theorem pwrUpd_smpUp (f : Pwr → Pwr) (s : State) : (pwrUpd f s).smpUp = s.smpUp := rfl
@[simp] theorem pwrUpd_cmpDeferred (f : Pwr → Pwr) (s : State) : (pwrUpd f s).cmpDeferred = s.cmpDeferred := rfl
@[simp] theorem pwrUpd_bndQ (f : Pwr → Pwr) (s : State) : (pwrUpd f s).bndQ = s.bndQ := rfl
@[simp] theorem pwrUpd_rxTile (f : Pwr → Pwr) (s : State) : (pwrUpd f s).rxTile = s.rxTile := rfl
@[simp] theorem pwrUpd_tripN (f : Pwr → Pwr) (s : State) : (pwrUpd f s).tripN = s.tripN := rfl
@[simp] theorem pwrUpd_chan (f : Pwr → Pwr) (s : State) : (pwrUpd f s).chan = s.chan := rfl
@[simp] theorem pwrUpd_tile (f : Pwr → Pwr) (s : State) : (pwrUpd f s).tile = s.tile := rfl
@[simp] theorem pwrUpd_eng (f : Pwr → Pwr) (s : State) : (pwrUpd f s).eng = s.eng := rfl
@[simp] theorem pwrUpd_track (f : Pwr → Pwr) (s : State) : (pwrUpd f s).track = s.track := rfl
@[simp] theorem pwrUpd_pers (f : Pwr → Pwr) (s : State) : (pwrUpd f s).pers = s.pers := rfl
@[simp] theorem pwrUpd_cal (f : Pwr → Pwr) (s : State) : (pwrUpd f s).cal = s.cal := rfl
@[simp] theorem pwrUpd_fact (f : Pwr → Pwr) (s : State) : (pwrUpd f s).fact = s.fact := rfl
@[simp] theorem pwrUpd_tap (f : Pwr → Pwr) (s : State) : (pwrUpd f s).tap = s.tap := rfl

/-! ### calUpd -/

@[simp] theorem calUpd_pending (f : Cal → Cal) (s : State) : (calUpd f s).pending = s.pending := rfl
@[simp] theorem calUpd_now (f : Cal → Cal) (s : State) : (calUpd f s).now = s.now := rfl
@[simp] theorem calUpd_up (f : Cal → Cal) (s : State) : (calUpd f s).up = s.up := rfl
@[simp] theorem calUpd_free (f : Cal → Cal) (s : State) : (calUpd f s).free = s.free := rfl
@[simp] theorem calUpd_cfg (f : Cal → Cal) (s : State) : (calUpd f s).cfg = s.cfg := rfl
@[simp] theorem calUpd_ctl (f : Cal → Cal) (s : State) : (calUpd f s).ctl = s.ctl := rfl
@[simp] theorem calUpd_tb (f : Cal → Cal) (s : State) : (calUpd f s).tb = s.tb := rfl
@[simp] theorem calUpd_safe (f : Cal → Cal) (s : State) : (calUpd f s).safe = s.safe := rfl
@[simp] theorem calUpd_pwr (f : Cal → Cal) (s : State) : (calUpd f s).pwr = s.pwr := rfl
@[simp] theorem calUpd_outq (f : Cal → Cal) (s : State) : (calUpd f s).outq = s.outq := rfl
@[simp] theorem calUpd_sw (f : Cal → Cal) (s : State) : (calUpd f s).sw = s.sw := rfl
@[simp] theorem calUpd_team (f : Cal → Cal) (s : State) : (calUpd f s).team = s.team := rfl
@[simp] theorem calUpd_em (f : Cal → Cal) (s : State) : (calUpd f s).em = s.em := rfl
@[simp] theorem calUpd_pb (f : Cal → Cal) (s : State) : (calUpd f s).pb = s.pb := rfl
@[simp] theorem calUpd_rx (f : Cal → Cal) (s : State) : (calUpd f s).rx = s.rx := rfl
@[simp] theorem calUpd_mon (f : Cal → Cal) (s : State) : (calUpd f s).mon = s.mon := rfl
@[simp] theorem calUpd_smpUp (f : Cal → Cal) (s : State) : (calUpd f s).smpUp = s.smpUp := rfl
@[simp] theorem calUpd_cmpDeferred (f : Cal → Cal) (s : State) : (calUpd f s).cmpDeferred = s.cmpDeferred := rfl
@[simp] theorem calUpd_bndQ (f : Cal → Cal) (s : State) : (calUpd f s).bndQ = s.bndQ := rfl
@[simp] theorem calUpd_rxTile (f : Cal → Cal) (s : State) : (calUpd f s).rxTile = s.rxTile := rfl
@[simp] theorem calUpd_tripN (f : Cal → Cal) (s : State) : (calUpd f s).tripN = s.tripN := rfl
@[simp] theorem calUpd_chan (f : Cal → Cal) (s : State) : (calUpd f s).chan = s.chan := rfl
@[simp] theorem calUpd_tile (f : Cal → Cal) (s : State) : (calUpd f s).tile = s.tile := rfl
@[simp] theorem calUpd_eng (f : Cal → Cal) (s : State) : (calUpd f s).eng = s.eng := rfl
@[simp] theorem calUpd_track (f : Cal → Cal) (s : State) : (calUpd f s).track = s.track := rfl
@[simp] theorem calUpd_pers (f : Cal → Cal) (s : State) : (calUpd f s).pers = s.pers := rfl
@[simp] theorem calUpd_cal (f : Cal → Cal) (s : State) : (calUpd f s).cal = f s.cal := rfl
@[simp] theorem calUpd_fact (f : Cal → Cal) (s : State) : (calUpd f s).fact = s.fact := rfl
@[simp] theorem calUpd_tap (f : Cal → Cal) (s : State) : (calUpd f s).tap = s.tap := rfl

/-! ### tbUpd -/

@[simp] theorem tbUpd_pending (f : Tb → Tb) (s : State) : (tbUpd f s).pending = s.pending := rfl
@[simp] theorem tbUpd_now (f : Tb → Tb) (s : State) : (tbUpd f s).now = s.now := rfl
@[simp] theorem tbUpd_up (f : Tb → Tb) (s : State) : (tbUpd f s).up = s.up := rfl
@[simp] theorem tbUpd_free (f : Tb → Tb) (s : State) : (tbUpd f s).free = s.free := rfl
@[simp] theorem tbUpd_cfg (f : Tb → Tb) (s : State) : (tbUpd f s).cfg = s.cfg := rfl
@[simp] theorem tbUpd_ctl (f : Tb → Tb) (s : State) : (tbUpd f s).ctl = s.ctl := rfl
@[simp] theorem tbUpd_tb (f : Tb → Tb) (s : State) : (tbUpd f s).tb = f s.tb := rfl
@[simp] theorem tbUpd_safe (f : Tb → Tb) (s : State) : (tbUpd f s).safe = s.safe := rfl
@[simp] theorem tbUpd_pwr (f : Tb → Tb) (s : State) : (tbUpd f s).pwr = s.pwr := rfl
@[simp] theorem tbUpd_outq (f : Tb → Tb) (s : State) : (tbUpd f s).outq = s.outq := rfl
@[simp] theorem tbUpd_sw (f : Tb → Tb) (s : State) : (tbUpd f s).sw = s.sw := rfl
@[simp] theorem tbUpd_team (f : Tb → Tb) (s : State) : (tbUpd f s).team = s.team := rfl
@[simp] theorem tbUpd_em (f : Tb → Tb) (s : State) : (tbUpd f s).em = s.em := rfl
@[simp] theorem tbUpd_pb (f : Tb → Tb) (s : State) : (tbUpd f s).pb = s.pb := rfl
@[simp] theorem tbUpd_rx (f : Tb → Tb) (s : State) : (tbUpd f s).rx = s.rx := rfl
@[simp] theorem tbUpd_mon (f : Tb → Tb) (s : State) : (tbUpd f s).mon = s.mon := rfl
@[simp] theorem tbUpd_smpUp (f : Tb → Tb) (s : State) : (tbUpd f s).smpUp = s.smpUp := rfl
@[simp] theorem tbUpd_cmpDeferred (f : Tb → Tb) (s : State) : (tbUpd f s).cmpDeferred = s.cmpDeferred := rfl
@[simp] theorem tbUpd_bndQ (f : Tb → Tb) (s : State) : (tbUpd f s).bndQ = s.bndQ := rfl
@[simp] theorem tbUpd_rxTile (f : Tb → Tb) (s : State) : (tbUpd f s).rxTile = s.rxTile := rfl
@[simp] theorem tbUpd_tripN (f : Tb → Tb) (s : State) : (tbUpd f s).tripN = s.tripN := rfl
@[simp] theorem tbUpd_chan (f : Tb → Tb) (s : State) : (tbUpd f s).chan = s.chan := rfl
@[simp] theorem tbUpd_tile (f : Tb → Tb) (s : State) : (tbUpd f s).tile = s.tile := rfl
@[simp] theorem tbUpd_eng (f : Tb → Tb) (s : State) : (tbUpd f s).eng = s.eng := rfl
@[simp] theorem tbUpd_track (f : Tb → Tb) (s : State) : (tbUpd f s).track = s.track := rfl
@[simp] theorem tbUpd_pers (f : Tb → Tb) (s : State) : (tbUpd f s).pers = s.pers := rfl
@[simp] theorem tbUpd_cal (f : Tb → Tb) (s : State) : (tbUpd f s).cal = s.cal := rfl
@[simp] theorem tbUpd_fact (f : Tb → Tb) (s : State) : (tbUpd f s).fact = s.fact := rfl
@[simp] theorem tbUpd_tap (f : Tb → Tb) (s : State) : (tbUpd f s).tap = s.tap := rfl

/-! ### teamUpd -/

@[simp] theorem teamUpd_pending (f : Team → Team) (s : State) : (teamUpd f s).pending = s.pending := rfl
@[simp] theorem teamUpd_now (f : Team → Team) (s : State) : (teamUpd f s).now = s.now := rfl
@[simp] theorem teamUpd_up (f : Team → Team) (s : State) : (teamUpd f s).up = s.up := rfl
@[simp] theorem teamUpd_free (f : Team → Team) (s : State) : (teamUpd f s).free = s.free := rfl
@[simp] theorem teamUpd_cfg (f : Team → Team) (s : State) : (teamUpd f s).cfg = s.cfg := rfl
@[simp] theorem teamUpd_ctl (f : Team → Team) (s : State) : (teamUpd f s).ctl = s.ctl := rfl
@[simp] theorem teamUpd_tb (f : Team → Team) (s : State) : (teamUpd f s).tb = s.tb := rfl
@[simp] theorem teamUpd_safe (f : Team → Team) (s : State) : (teamUpd f s).safe = s.safe := rfl
@[simp] theorem teamUpd_pwr (f : Team → Team) (s : State) : (teamUpd f s).pwr = s.pwr := rfl
@[simp] theorem teamUpd_outq (f : Team → Team) (s : State) : (teamUpd f s).outq = s.outq := rfl
@[simp] theorem teamUpd_sw (f : Team → Team) (s : State) : (teamUpd f s).sw = s.sw := rfl
@[simp] theorem teamUpd_team (f : Team → Team) (s : State) : (teamUpd f s).team = f s.team := rfl
@[simp] theorem teamUpd_em (f : Team → Team) (s : State) : (teamUpd f s).em = s.em := rfl
@[simp] theorem teamUpd_pb (f : Team → Team) (s : State) : (teamUpd f s).pb = s.pb := rfl
@[simp] theorem teamUpd_rx (f : Team → Team) (s : State) : (teamUpd f s).rx = s.rx := rfl
@[simp] theorem teamUpd_mon (f : Team → Team) (s : State) : (teamUpd f s).mon = s.mon := rfl
@[simp] theorem teamUpd_smpUp (f : Team → Team) (s : State) : (teamUpd f s).smpUp = s.smpUp := rfl
@[simp] theorem teamUpd_cmpDeferred (f : Team → Team) (s : State) : (teamUpd f s).cmpDeferred = s.cmpDeferred := rfl
@[simp] theorem teamUpd_bndQ (f : Team → Team) (s : State) : (teamUpd f s).bndQ = s.bndQ := rfl
@[simp] theorem teamUpd_rxTile (f : Team → Team) (s : State) : (teamUpd f s).rxTile = s.rxTile := rfl
@[simp] theorem teamUpd_tripN (f : Team → Team) (s : State) : (teamUpd f s).tripN = s.tripN := rfl
@[simp] theorem teamUpd_chan (f : Team → Team) (s : State) : (teamUpd f s).chan = s.chan := rfl
@[simp] theorem teamUpd_tile (f : Team → Team) (s : State) : (teamUpd f s).tile = s.tile := rfl
@[simp] theorem teamUpd_eng (f : Team → Team) (s : State) : (teamUpd f s).eng = s.eng := rfl
@[simp] theorem teamUpd_track (f : Team → Team) (s : State) : (teamUpd f s).track = s.track := rfl
@[simp] theorem teamUpd_pers (f : Team → Team) (s : State) : (teamUpd f s).pers = s.pers := rfl
@[simp] theorem teamUpd_cal (f : Team → Team) (s : State) : (teamUpd f s).cal = s.cal := rfl
@[simp] theorem teamUpd_fact (f : Team → Team) (s : State) : (teamUpd f s).fact = s.fact := rfl
@[simp] theorem teamUpd_tap (f : Team → Team) (s : State) : (teamUpd f s).tap = s.tap := rfl

/-! ### safeUpd -/

@[simp] theorem safeUpd_pending (f : Safe → Safe) (s : State) : (safeUpd f s).pending = s.pending := rfl
@[simp] theorem safeUpd_now (f : Safe → Safe) (s : State) : (safeUpd f s).now = s.now := rfl
@[simp] theorem safeUpd_up (f : Safe → Safe) (s : State) : (safeUpd f s).up = s.up := rfl
@[simp] theorem safeUpd_free (f : Safe → Safe) (s : State) : (safeUpd f s).free = s.free := rfl
@[simp] theorem safeUpd_cfg (f : Safe → Safe) (s : State) : (safeUpd f s).cfg = s.cfg := rfl
@[simp] theorem safeUpd_ctl (f : Safe → Safe) (s : State) : (safeUpd f s).ctl = s.ctl := rfl
@[simp] theorem safeUpd_tb (f : Safe → Safe) (s : State) : (safeUpd f s).tb = s.tb := rfl
@[simp] theorem safeUpd_safe (f : Safe → Safe) (s : State) : (safeUpd f s).safe = f s.safe := rfl
@[simp] theorem safeUpd_pwr (f : Safe → Safe) (s : State) : (safeUpd f s).pwr = s.pwr := rfl
@[simp] theorem safeUpd_outq (f : Safe → Safe) (s : State) : (safeUpd f s).outq = s.outq := rfl
@[simp] theorem safeUpd_sw (f : Safe → Safe) (s : State) : (safeUpd f s).sw = s.sw := rfl
@[simp] theorem safeUpd_team (f : Safe → Safe) (s : State) : (safeUpd f s).team = s.team := rfl
@[simp] theorem safeUpd_em (f : Safe → Safe) (s : State) : (safeUpd f s).em = s.em := rfl
@[simp] theorem safeUpd_pb (f : Safe → Safe) (s : State) : (safeUpd f s).pb = s.pb := rfl
@[simp] theorem safeUpd_rx (f : Safe → Safe) (s : State) : (safeUpd f s).rx = s.rx := rfl
@[simp] theorem safeUpd_mon (f : Safe → Safe) (s : State) : (safeUpd f s).mon = s.mon := rfl
@[simp] theorem safeUpd_smpUp (f : Safe → Safe) (s : State) : (safeUpd f s).smpUp = s.smpUp := rfl
@[simp] theorem safeUpd_cmpDeferred (f : Safe → Safe) (s : State) : (safeUpd f s).cmpDeferred = s.cmpDeferred := rfl
@[simp] theorem safeUpd_bndQ (f : Safe → Safe) (s : State) : (safeUpd f s).bndQ = s.bndQ := rfl
@[simp] theorem safeUpd_rxTile (f : Safe → Safe) (s : State) : (safeUpd f s).rxTile = s.rxTile := rfl
@[simp] theorem safeUpd_tripN (f : Safe → Safe) (s : State) : (safeUpd f s).tripN = s.tripN := rfl
@[simp] theorem safeUpd_chan (f : Safe → Safe) (s : State) : (safeUpd f s).chan = s.chan := rfl
@[simp] theorem safeUpd_tile (f : Safe → Safe) (s : State) : (safeUpd f s).tile = s.tile := rfl
@[simp] theorem safeUpd_eng (f : Safe → Safe) (s : State) : (safeUpd f s).eng = s.eng := rfl
@[simp] theorem safeUpd_track (f : Safe → Safe) (s : State) : (safeUpd f s).track = s.track := rfl
@[simp] theorem safeUpd_pers (f : Safe → Safe) (s : State) : (safeUpd f s).pers = s.pers := rfl
@[simp] theorem safeUpd_cal (f : Safe → Safe) (s : State) : (safeUpd f s).cal = s.cal := rfl
@[simp] theorem safeUpd_fact (f : Safe → Safe) (s : State) : (safeUpd f s).fact = s.fact := rfl
@[simp] theorem safeUpd_tap (f : Safe → Safe) (s : State) : (safeUpd f s).tap = s.tap := rfl

/-! ### swUpd -/

@[simp] theorem swUpd_pending (f : Sw → Sw) (s : State) : (swUpd f s).pending = s.pending := rfl
@[simp] theorem swUpd_now (f : Sw → Sw) (s : State) : (swUpd f s).now = s.now := rfl
@[simp] theorem swUpd_up (f : Sw → Sw) (s : State) : (swUpd f s).up = s.up := rfl
@[simp] theorem swUpd_free (f : Sw → Sw) (s : State) : (swUpd f s).free = s.free := rfl
@[simp] theorem swUpd_cfg (f : Sw → Sw) (s : State) : (swUpd f s).cfg = s.cfg := rfl
@[simp] theorem swUpd_ctl (f : Sw → Sw) (s : State) : (swUpd f s).ctl = s.ctl := rfl
@[simp] theorem swUpd_tb (f : Sw → Sw) (s : State) : (swUpd f s).tb = s.tb := rfl
@[simp] theorem swUpd_safe (f : Sw → Sw) (s : State) : (swUpd f s).safe = s.safe := rfl
@[simp] theorem swUpd_pwr (f : Sw → Sw) (s : State) : (swUpd f s).pwr = s.pwr := rfl
@[simp] theorem swUpd_outq (f : Sw → Sw) (s : State) : (swUpd f s).outq = s.outq := rfl
@[simp] theorem swUpd_sw (f : Sw → Sw) (s : State) : (swUpd f s).sw = f s.sw := rfl
@[simp] theorem swUpd_team (f : Sw → Sw) (s : State) : (swUpd f s).team = s.team := rfl
@[simp] theorem swUpd_em (f : Sw → Sw) (s : State) : (swUpd f s).em = s.em := rfl
@[simp] theorem swUpd_pb (f : Sw → Sw) (s : State) : (swUpd f s).pb = s.pb := rfl
@[simp] theorem swUpd_rx (f : Sw → Sw) (s : State) : (swUpd f s).rx = s.rx := rfl
@[simp] theorem swUpd_mon (f : Sw → Sw) (s : State) : (swUpd f s).mon = s.mon := rfl
@[simp] theorem swUpd_smpUp (f : Sw → Sw) (s : State) : (swUpd f s).smpUp = s.smpUp := rfl
@[simp] theorem swUpd_cmpDeferred (f : Sw → Sw) (s : State) : (swUpd f s).cmpDeferred = s.cmpDeferred := rfl
@[simp] theorem swUpd_bndQ (f : Sw → Sw) (s : State) : (swUpd f s).bndQ = s.bndQ := rfl
@[simp] theorem swUpd_rxTile (f : Sw → Sw) (s : State) : (swUpd f s).rxTile = s.rxTile := rfl
@[simp] theorem swUpd_tripN (f : Sw → Sw) (s : State) : (swUpd f s).tripN = s.tripN := rfl
@[simp] theorem swUpd_chan (f : Sw → Sw) (s : State) : (swUpd f s).chan = s.chan := rfl
@[simp] theorem swUpd_tile (f : Sw → Sw) (s : State) : (swUpd f s).tile = s.tile := rfl
@[simp] theorem swUpd_eng (f : Sw → Sw) (s : State) : (swUpd f s).eng = s.eng := rfl
@[simp] theorem swUpd_track (f : Sw → Sw) (s : State) : (swUpd f s).track = s.track := rfl
@[simp] theorem swUpd_pers (f : Sw → Sw) (s : State) : (swUpd f s).pers = s.pers := rfl
@[simp] theorem swUpd_cal (f : Sw → Sw) (s : State) : (swUpd f s).cal = s.cal := rfl
@[simp] theorem swUpd_fact (f : Sw → Sw) (s : State) : (swUpd f s).fact = s.fact := rfl
@[simp] theorem swUpd_tap (f : Sw → Sw) (s : State) : (swUpd f s).tap = s.tap := rfl

/-! ### rxUpd -/

@[simp] theorem rxUpd_pending (i : Nat) (f : Rx → Rx) (s : State) : (rxUpd i f s).pending = s.pending := rfl
@[simp] theorem rxUpd_now (i : Nat) (f : Rx → Rx) (s : State) : (rxUpd i f s).now = s.now := rfl
@[simp] theorem rxUpd_up (i : Nat) (f : Rx → Rx) (s : State) : (rxUpd i f s).up = s.up := rfl
@[simp] theorem rxUpd_free (i : Nat) (f : Rx → Rx) (s : State) : (rxUpd i f s).free = s.free := rfl
@[simp] theorem rxUpd_cfg (i : Nat) (f : Rx → Rx) (s : State) : (rxUpd i f s).cfg = s.cfg := rfl
@[simp] theorem rxUpd_ctl (i : Nat) (f : Rx → Rx) (s : State) : (rxUpd i f s).ctl = s.ctl := rfl
@[simp] theorem rxUpd_tb (i : Nat) (f : Rx → Rx) (s : State) : (rxUpd i f s).tb = s.tb := rfl
@[simp] theorem rxUpd_safe (i : Nat) (f : Rx → Rx) (s : State) : (rxUpd i f s).safe = s.safe := rfl
@[simp] theorem rxUpd_pwr (i : Nat) (f : Rx → Rx) (s : State) : (rxUpd i f s).pwr = s.pwr := rfl
@[simp] theorem rxUpd_outq (i : Nat) (f : Rx → Rx) (s : State) : (rxUpd i f s).outq = s.outq := rfl
@[simp] theorem rxUpd_sw (i : Nat) (f : Rx → Rx) (s : State) : (rxUpd i f s).sw = s.sw := rfl
@[simp] theorem rxUpd_team (i : Nat) (f : Rx → Rx) (s : State) : (rxUpd i f s).team = s.team := rfl
@[simp] theorem rxUpd_em (i : Nat) (f : Rx → Rx) (s : State) : (rxUpd i f s).em = s.em := rfl
@[simp] theorem rxUpd_pb (i : Nat) (f : Rx → Rx) (s : State) : (rxUpd i f s).pb = s.pb := rfl
@[simp] theorem rxUpd_rx (i : Nat) (f : Rx → Rx) (s : State) : (rxUpd i f s).rx = tabUpd {} s.rx i f := rfl
@[simp] theorem rxUpd_mon (i : Nat) (f : Rx → Rx) (s : State) : (rxUpd i f s).mon = s.mon := rfl
@[simp] theorem rxUpd_smpUp (i : Nat) (f : Rx → Rx) (s : State) : (rxUpd i f s).smpUp = s.smpUp := rfl
@[simp] theorem rxUpd_cmpDeferred (i : Nat) (f : Rx → Rx) (s : State) : (rxUpd i f s).cmpDeferred = s.cmpDeferred := rfl
@[simp] theorem rxUpd_bndQ (i : Nat) (f : Rx → Rx) (s : State) : (rxUpd i f s).bndQ = s.bndQ := rfl
@[simp] theorem rxUpd_rxTile (i : Nat) (f : Rx → Rx) (s : State) : (rxUpd i f s).rxTile = s.rxTile := rfl
@[simp] theorem rxUpd_tripN (i : Nat) (f : Rx → Rx) (s : State) : (rxUpd i f s).tripN = s.tripN := rfl
@[simp] theorem rxUpd_chan (i : Nat) (f : Rx → Rx) (s : State) : (rxUpd i f s).chan = s.chan := rfl
@[simp] theorem rxUpd_tile (i : Nat) (f : Rx → Rx) (s : State) : (rxUpd i f s).tile = s.tile := rfl
@[simp] theorem rxUpd_eng (i : Nat) (f : Rx → Rx) (s : State) : (rxUpd i f s).eng = s.eng := rfl
@[simp] theorem rxUpd_track (i : Nat) (f : Rx → Rx) (s : State) : (rxUpd i f s).track = s.track := rfl
@[simp] theorem rxUpd_pers (i : Nat) (f : Rx → Rx) (s : State) : (rxUpd i f s).pers = s.pers := rfl
@[simp] theorem rxUpd_cal (i : Nat) (f : Rx → Rx) (s : State) : (rxUpd i f s).cal = s.cal := rfl
@[simp] theorem rxUpd_fact (i : Nat) (f : Rx → Rx) (s : State) : (rxUpd i f s).fact = s.fact := rfl
@[simp] theorem rxUpd_tap (i : Nat) (f : Rx → Rx) (s : State) : (rxUpd i f s).tap = s.tap := rfl

/-! ### monUpd -/

@[simp] theorem monUpd_pending (i : Nat) (f : Mon → Mon) (s : State) : (monUpd i f s).pending = s.pending := rfl
@[simp] theorem monUpd_now (i : Nat) (f : Mon → Mon) (s : State) : (monUpd i f s).now = s.now := rfl
@[simp] theorem monUpd_up (i : Nat) (f : Mon → Mon) (s : State) : (monUpd i f s).up = s.up := rfl
@[simp] theorem monUpd_free (i : Nat) (f : Mon → Mon) (s : State) : (monUpd i f s).free = s.free := rfl
@[simp] theorem monUpd_cfg (i : Nat) (f : Mon → Mon) (s : State) : (monUpd i f s).cfg = s.cfg := rfl
@[simp] theorem monUpd_ctl (i : Nat) (f : Mon → Mon) (s : State) : (monUpd i f s).ctl = s.ctl := rfl
@[simp] theorem monUpd_tb (i : Nat) (f : Mon → Mon) (s : State) : (monUpd i f s).tb = s.tb := rfl
@[simp] theorem monUpd_safe (i : Nat) (f : Mon → Mon) (s : State) : (monUpd i f s).safe = s.safe := rfl
@[simp] theorem monUpd_pwr (i : Nat) (f : Mon → Mon) (s : State) : (monUpd i f s).pwr = s.pwr := rfl
@[simp] theorem monUpd_outq (i : Nat) (f : Mon → Mon) (s : State) : (monUpd i f s).outq = s.outq := rfl
@[simp] theorem monUpd_sw (i : Nat) (f : Mon → Mon) (s : State) : (monUpd i f s).sw = s.sw := rfl
@[simp] theorem monUpd_team (i : Nat) (f : Mon → Mon) (s : State) : (monUpd i f s).team = s.team := rfl
@[simp] theorem monUpd_em (i : Nat) (f : Mon → Mon) (s : State) : (monUpd i f s).em = s.em := rfl
@[simp] theorem monUpd_pb (i : Nat) (f : Mon → Mon) (s : State) : (monUpd i f s).pb = s.pb := rfl
@[simp] theorem monUpd_rx (i : Nat) (f : Mon → Mon) (s : State) : (monUpd i f s).rx = s.rx := rfl
@[simp] theorem monUpd_mon (i : Nat) (f : Mon → Mon) (s : State) : (monUpd i f s).mon = tabUpd {} s.mon i f := rfl
@[simp] theorem monUpd_smpUp (i : Nat) (f : Mon → Mon) (s : State) : (monUpd i f s).smpUp = s.smpUp := rfl
@[simp] theorem monUpd_cmpDeferred (i : Nat) (f : Mon → Mon) (s : State) :
    (monUpd i f s).cmpDeferred = s.cmpDeferred := rfl
@[simp] theorem monUpd_bndQ (i : Nat) (f : Mon → Mon) (s : State) : (monUpd i f s).bndQ = s.bndQ := rfl
@[simp] theorem monUpd_rxTile (i : Nat) (f : Mon → Mon) (s : State) : (monUpd i f s).rxTile = s.rxTile := rfl
@[simp] theorem monUpd_tripN (i : Nat) (f : Mon → Mon) (s : State) : (monUpd i f s).tripN = s.tripN := rfl
@[simp] theorem monUpd_chan (i : Nat) (f : Mon → Mon) (s : State) : (monUpd i f s).chan = s.chan := rfl
@[simp] theorem monUpd_tile (i : Nat) (f : Mon → Mon) (s : State) : (monUpd i f s).tile = s.tile := rfl
@[simp] theorem monUpd_eng (i : Nat) (f : Mon → Mon) (s : State) : (monUpd i f s).eng = s.eng := rfl
@[simp] theorem monUpd_track (i : Nat) (f : Mon → Mon) (s : State) : (monUpd i f s).track = s.track := rfl
@[simp] theorem monUpd_pers (i : Nat) (f : Mon → Mon) (s : State) : (monUpd i f s).pers = s.pers := rfl
@[simp] theorem monUpd_cal (i : Nat) (f : Mon → Mon) (s : State) : (monUpd i f s).cal = s.cal := rfl
@[simp] theorem monUpd_fact (i : Nat) (f : Mon → Mon) (s : State) : (monUpd i f s).fact = s.fact := rfl
@[simp] theorem monUpd_tap (i : Nat) (f : Mon → Mon) (s : State) : (monUpd i f s).tap = s.tap := rfl

/-! ### trackUpd -/

@[simp] theorem trackUpd_pending (i : Nat) (f : Track → Track) (s : State) : (trackUpd i f s).pending = s.pending := rfl
@[simp] theorem trackUpd_now (i : Nat) (f : Track → Track) (s : State) : (trackUpd i f s).now = s.now := rfl
@[simp] theorem trackUpd_up (i : Nat) (f : Track → Track) (s : State) : (trackUpd i f s).up = s.up := rfl
@[simp] theorem trackUpd_free (i : Nat) (f : Track → Track) (s : State) : (trackUpd i f s).free = s.free := rfl
@[simp] theorem trackUpd_cfg (i : Nat) (f : Track → Track) (s : State) : (trackUpd i f s).cfg = s.cfg := rfl
@[simp] theorem trackUpd_ctl (i : Nat) (f : Track → Track) (s : State) : (trackUpd i f s).ctl = s.ctl := rfl
@[simp] theorem trackUpd_tb (i : Nat) (f : Track → Track) (s : State) : (trackUpd i f s).tb = s.tb := rfl
@[simp] theorem trackUpd_safe (i : Nat) (f : Track → Track) (s : State) : (trackUpd i f s).safe = s.safe := rfl
@[simp] theorem trackUpd_pwr (i : Nat) (f : Track → Track) (s : State) : (trackUpd i f s).pwr = s.pwr := rfl
@[simp] theorem trackUpd_outq (i : Nat) (f : Track → Track) (s : State) : (trackUpd i f s).outq = s.outq := rfl
@[simp] theorem trackUpd_sw (i : Nat) (f : Track → Track) (s : State) : (trackUpd i f s).sw = s.sw := rfl
@[simp] theorem trackUpd_team (i : Nat) (f : Track → Track) (s : State) : (trackUpd i f s).team = s.team := rfl
@[simp] theorem trackUpd_em (i : Nat) (f : Track → Track) (s : State) : (trackUpd i f s).em = s.em := rfl
@[simp] theorem trackUpd_pb (i : Nat) (f : Track → Track) (s : State) : (trackUpd i f s).pb = s.pb := rfl
@[simp] theorem trackUpd_rx (i : Nat) (f : Track → Track) (s : State) : (trackUpd i f s).rx = s.rx := rfl
@[simp] theorem trackUpd_mon (i : Nat) (f : Track → Track) (s : State) : (trackUpd i f s).mon = s.mon := rfl
@[simp] theorem trackUpd_smpUp (i : Nat) (f : Track → Track) (s : State) : (trackUpd i f s).smpUp = s.smpUp := rfl
@[simp] theorem trackUpd_cmpDeferred (i : Nat) (f : Track → Track) (s : State) :
    (trackUpd i f s).cmpDeferred = s.cmpDeferred := rfl
@[simp] theorem trackUpd_bndQ (i : Nat) (f : Track → Track) (s : State) : (trackUpd i f s).bndQ = s.bndQ := rfl
@[simp] theorem trackUpd_rxTile (i : Nat) (f : Track → Track) (s : State) : (trackUpd i f s).rxTile = s.rxTile := rfl
@[simp] theorem trackUpd_tripN (i : Nat) (f : Track → Track) (s : State) : (trackUpd i f s).tripN = s.tripN := rfl
@[simp] theorem trackUpd_chan (i : Nat) (f : Track → Track) (s : State) : (trackUpd i f s).chan = s.chan := rfl
@[simp] theorem trackUpd_tile (i : Nat) (f : Track → Track) (s : State) : (trackUpd i f s).tile = s.tile := rfl
@[simp] theorem trackUpd_eng (i : Nat) (f : Track → Track) (s : State) : (trackUpd i f s).eng = s.eng := rfl
@[simp] theorem trackUpd_track (i : Nat) (f : Track → Track) (s : State) :
    (trackUpd i f s).track = tabUpd {} s.track i f := rfl
@[simp] theorem trackUpd_pers (i : Nat) (f : Track → Track) (s : State) : (trackUpd i f s).pers = s.pers := rfl
@[simp] theorem trackUpd_cal (i : Nat) (f : Track → Track) (s : State) : (trackUpd i f s).cal = s.cal := rfl
@[simp] theorem trackUpd_fact (i : Nat) (f : Track → Track) (s : State) : (trackUpd i f s).fact = s.fact := rfl
@[simp] theorem trackUpd_tap (i : Nat) (f : Track → Track) (s : State) : (trackUpd i f s).tap = s.tap := rfl

/-! ### persUpd -/

@[simp] theorem persUpd_pending (i : Nat) (f : Pers → Pers) (s : State) : (persUpd i f s).pending = s.pending := rfl
@[simp] theorem persUpd_now (i : Nat) (f : Pers → Pers) (s : State) : (persUpd i f s).now = s.now := rfl
@[simp] theorem persUpd_up (i : Nat) (f : Pers → Pers) (s : State) : (persUpd i f s).up = s.up := rfl
@[simp] theorem persUpd_free (i : Nat) (f : Pers → Pers) (s : State) : (persUpd i f s).free = s.free := rfl
@[simp] theorem persUpd_cfg (i : Nat) (f : Pers → Pers) (s : State) : (persUpd i f s).cfg = s.cfg := rfl
@[simp] theorem persUpd_ctl (i : Nat) (f : Pers → Pers) (s : State) : (persUpd i f s).ctl = s.ctl := rfl
@[simp] theorem persUpd_tb (i : Nat) (f : Pers → Pers) (s : State) : (persUpd i f s).tb = s.tb := rfl
@[simp] theorem persUpd_safe (i : Nat) (f : Pers → Pers) (s : State) : (persUpd i f s).safe = s.safe := rfl
@[simp] theorem persUpd_pwr (i : Nat) (f : Pers → Pers) (s : State) : (persUpd i f s).pwr = s.pwr := rfl
@[simp] theorem persUpd_outq (i : Nat) (f : Pers → Pers) (s : State) : (persUpd i f s).outq = s.outq := rfl
@[simp] theorem persUpd_sw (i : Nat) (f : Pers → Pers) (s : State) : (persUpd i f s).sw = s.sw := rfl
@[simp] theorem persUpd_team (i : Nat) (f : Pers → Pers) (s : State) : (persUpd i f s).team = s.team := rfl
@[simp] theorem persUpd_em (i : Nat) (f : Pers → Pers) (s : State) : (persUpd i f s).em = s.em := rfl
@[simp] theorem persUpd_pb (i : Nat) (f : Pers → Pers) (s : State) : (persUpd i f s).pb = s.pb := rfl
@[simp] theorem persUpd_rx (i : Nat) (f : Pers → Pers) (s : State) : (persUpd i f s).rx = s.rx := rfl
@[simp] theorem persUpd_mon (i : Nat) (f : Pers → Pers) (s : State) : (persUpd i f s).mon = s.mon := rfl
@[simp] theorem persUpd_smpUp (i : Nat) (f : Pers → Pers) (s : State) : (persUpd i f s).smpUp = s.smpUp := rfl
@[simp] theorem persUpd_cmpDeferred (i : Nat) (f : Pers → Pers) (s : State) :
    (persUpd i f s).cmpDeferred = s.cmpDeferred := rfl
@[simp] theorem persUpd_bndQ (i : Nat) (f : Pers → Pers) (s : State) : (persUpd i f s).bndQ = s.bndQ := rfl
@[simp] theorem persUpd_rxTile (i : Nat) (f : Pers → Pers) (s : State) : (persUpd i f s).rxTile = s.rxTile := rfl
@[simp] theorem persUpd_tripN (i : Nat) (f : Pers → Pers) (s : State) : (persUpd i f s).tripN = s.tripN := rfl
@[simp] theorem persUpd_chan (i : Nat) (f : Pers → Pers) (s : State) : (persUpd i f s).chan = s.chan := rfl
@[simp] theorem persUpd_tile (i : Nat) (f : Pers → Pers) (s : State) : (persUpd i f s).tile = s.tile := rfl
@[simp] theorem persUpd_eng (i : Nat) (f : Pers → Pers) (s : State) : (persUpd i f s).eng = s.eng := rfl
@[simp] theorem persUpd_track (i : Nat) (f : Pers → Pers) (s : State) : (persUpd i f s).track = s.track := rfl
@[simp] theorem persUpd_pers (i : Nat) (f : Pers → Pers) (s : State) :
    (persUpd i f s).pers = tabUpd {} s.pers i f := rfl
@[simp] theorem persUpd_cal (i : Nat) (f : Pers → Pers) (s : State) : (persUpd i f s).cal = s.cal := rfl
@[simp] theorem persUpd_fact (i : Nat) (f : Pers → Pers) (s : State) : (persUpd i f s).fact = s.fact := rfl
@[simp] theorem persUpd_tap (i : Nat) (f : Pers → Pers) (s : State) : (persUpd i f s).tap = s.tap := rfl

/-! ### emUpd -/

@[simp] theorem emUpd_pending (i : Nat) (f : EmCh → EmCh) (s : State) : (emUpd i f s).pending = s.pending := rfl
@[simp] theorem emUpd_now (i : Nat) (f : EmCh → EmCh) (s : State) : (emUpd i f s).now = s.now := rfl
@[simp] theorem emUpd_up (i : Nat) (f : EmCh → EmCh) (s : State) : (emUpd i f s).up = s.up := rfl
@[simp] theorem emUpd_free (i : Nat) (f : EmCh → EmCh) (s : State) : (emUpd i f s).free = s.free := rfl
@[simp] theorem emUpd_cfg (i : Nat) (f : EmCh → EmCh) (s : State) : (emUpd i f s).cfg = s.cfg := rfl
@[simp] theorem emUpd_ctl (i : Nat) (f : EmCh → EmCh) (s : State) : (emUpd i f s).ctl = s.ctl := rfl
@[simp] theorem emUpd_tb (i : Nat) (f : EmCh → EmCh) (s : State) : (emUpd i f s).tb = s.tb := rfl
@[simp] theorem emUpd_safe (i : Nat) (f : EmCh → EmCh) (s : State) : (emUpd i f s).safe = s.safe := rfl
@[simp] theorem emUpd_pwr (i : Nat) (f : EmCh → EmCh) (s : State) : (emUpd i f s).pwr = s.pwr := rfl
@[simp] theorem emUpd_outq (i : Nat) (f : EmCh → EmCh) (s : State) : (emUpd i f s).outq = s.outq := rfl
@[simp] theorem emUpd_sw (i : Nat) (f : EmCh → EmCh) (s : State) : (emUpd i f s).sw = s.sw := rfl
@[simp] theorem emUpd_team (i : Nat) (f : EmCh → EmCh) (s : State) : (emUpd i f s).team = s.team := rfl
@[simp] theorem emUpd_em (i : Nat) (f : EmCh → EmCh) (s : State) : (emUpd i f s).em = tabUpd {} s.em i f := rfl
@[simp] theorem emUpd_pb (i : Nat) (f : EmCh → EmCh) (s : State) : (emUpd i f s).pb = s.pb := rfl
@[simp] theorem emUpd_rx (i : Nat) (f : EmCh → EmCh) (s : State) : (emUpd i f s).rx = s.rx := rfl
@[simp] theorem emUpd_mon (i : Nat) (f : EmCh → EmCh) (s : State) : (emUpd i f s).mon = s.mon := rfl
@[simp] theorem emUpd_smpUp (i : Nat) (f : EmCh → EmCh) (s : State) : (emUpd i f s).smpUp = s.smpUp := rfl
@[simp] theorem emUpd_cmpDeferred (i : Nat) (f : EmCh → EmCh) (s : State) :
    (emUpd i f s).cmpDeferred = s.cmpDeferred := rfl
@[simp] theorem emUpd_bndQ (i : Nat) (f : EmCh → EmCh) (s : State) : (emUpd i f s).bndQ = s.bndQ := rfl
@[simp] theorem emUpd_rxTile (i : Nat) (f : EmCh → EmCh) (s : State) : (emUpd i f s).rxTile = s.rxTile := rfl
@[simp] theorem emUpd_tripN (i : Nat) (f : EmCh → EmCh) (s : State) : (emUpd i f s).tripN = s.tripN := rfl
@[simp] theorem emUpd_chan (i : Nat) (f : EmCh → EmCh) (s : State) : (emUpd i f s).chan = s.chan := rfl
@[simp] theorem emUpd_tile (i : Nat) (f : EmCh → EmCh) (s : State) : (emUpd i f s).tile = s.tile := rfl
@[simp] theorem emUpd_eng (i : Nat) (f : EmCh → EmCh) (s : State) : (emUpd i f s).eng = s.eng := rfl
@[simp] theorem emUpd_track (i : Nat) (f : EmCh → EmCh) (s : State) : (emUpd i f s).track = s.track := rfl
@[simp] theorem emUpd_pers (i : Nat) (f : EmCh → EmCh) (s : State) : (emUpd i f s).pers = s.pers := rfl
@[simp] theorem emUpd_cal (i : Nat) (f : EmCh → EmCh) (s : State) : (emUpd i f s).cal = s.cal := rfl
@[simp] theorem emUpd_fact (i : Nat) (f : EmCh → EmCh) (s : State) : (emUpd i f s).fact = s.fact := rfl
@[simp] theorem emUpd_tap (i : Nat) (f : EmCh → EmCh) (s : State) : (emUpd i f s).tap = s.tap := rfl

/-! ### tileUpd -/

@[simp] theorem tileUpd_pending (i : Nat) (f : Tile → Tile) (s : State) : (tileUpd i f s).pending = s.pending := rfl
@[simp] theorem tileUpd_now (i : Nat) (f : Tile → Tile) (s : State) : (tileUpd i f s).now = s.now := rfl
@[simp] theorem tileUpd_up (i : Nat) (f : Tile → Tile) (s : State) : (tileUpd i f s).up = s.up := rfl
@[simp] theorem tileUpd_free (i : Nat) (f : Tile → Tile) (s : State) : (tileUpd i f s).free = s.free := rfl
@[simp] theorem tileUpd_cfg (i : Nat) (f : Tile → Tile) (s : State) : (tileUpd i f s).cfg = s.cfg := rfl
@[simp] theorem tileUpd_ctl (i : Nat) (f : Tile → Tile) (s : State) : (tileUpd i f s).ctl = s.ctl := rfl
@[simp] theorem tileUpd_tb (i : Nat) (f : Tile → Tile) (s : State) : (tileUpd i f s).tb = s.tb := rfl
@[simp] theorem tileUpd_safe (i : Nat) (f : Tile → Tile) (s : State) : (tileUpd i f s).safe = s.safe := rfl
@[simp] theorem tileUpd_pwr (i : Nat) (f : Tile → Tile) (s : State) : (tileUpd i f s).pwr = s.pwr := rfl
@[simp] theorem tileUpd_outq (i : Nat) (f : Tile → Tile) (s : State) : (tileUpd i f s).outq = s.outq := rfl
@[simp] theorem tileUpd_sw (i : Nat) (f : Tile → Tile) (s : State) : (tileUpd i f s).sw = s.sw := rfl
@[simp] theorem tileUpd_team (i : Nat) (f : Tile → Tile) (s : State) : (tileUpd i f s).team = s.team := rfl
@[simp] theorem tileUpd_em (i : Nat) (f : Tile → Tile) (s : State) : (tileUpd i f s).em = s.em := rfl
@[simp] theorem tileUpd_pb (i : Nat) (f : Tile → Tile) (s : State) : (tileUpd i f s).pb = s.pb := rfl
@[simp] theorem tileUpd_rx (i : Nat) (f : Tile → Tile) (s : State) : (tileUpd i f s).rx = s.rx := rfl
@[simp] theorem tileUpd_mon (i : Nat) (f : Tile → Tile) (s : State) : (tileUpd i f s).mon = s.mon := rfl
@[simp] theorem tileUpd_smpUp (i : Nat) (f : Tile → Tile) (s : State) : (tileUpd i f s).smpUp = s.smpUp := rfl
@[simp] theorem tileUpd_cmpDeferred (i : Nat) (f : Tile → Tile) (s : State) :
    (tileUpd i f s).cmpDeferred = s.cmpDeferred := rfl
@[simp] theorem tileUpd_bndQ (i : Nat) (f : Tile → Tile) (s : State) : (tileUpd i f s).bndQ = s.bndQ := rfl
@[simp] theorem tileUpd_rxTile (i : Nat) (f : Tile → Tile) (s : State) : (tileUpd i f s).rxTile = s.rxTile := rfl
@[simp] theorem tileUpd_tripN (i : Nat) (f : Tile → Tile) (s : State) : (tileUpd i f s).tripN = s.tripN := rfl
@[simp] theorem tileUpd_chan (i : Nat) (f : Tile → Tile) (s : State) : (tileUpd i f s).chan = s.chan := rfl
@[simp] theorem tileUpd_tile (i : Nat) (f : Tile → Tile) (s : State) :
    (tileUpd i f s).tile = tabUpd {} s.tile i f := rfl
@[simp] theorem tileUpd_eng (i : Nat) (f : Tile → Tile) (s : State) : (tileUpd i f s).eng = s.eng := rfl
@[simp] theorem tileUpd_track (i : Nat) (f : Tile → Tile) (s : State) : (tileUpd i f s).track = s.track := rfl
@[simp] theorem tileUpd_pers (i : Nat) (f : Tile → Tile) (s : State) : (tileUpd i f s).pers = s.pers := rfl
@[simp] theorem tileUpd_cal (i : Nat) (f : Tile → Tile) (s : State) : (tileUpd i f s).cal = s.cal := rfl
@[simp] theorem tileUpd_fact (i : Nat) (f : Tile → Tile) (s : State) : (tileUpd i f s).fact = s.fact := rfl
@[simp] theorem tileUpd_tap (i : Nat) (f : Tile → Tile) (s : State) : (tileUpd i f s).tap = s.tap := rfl

/-! ### chanUpd -/

@[simp] theorem chanUpd_pending (i : Nat) (f : Chan → Chan) (s : State) : (chanUpd i f s).pending = s.pending := rfl
@[simp] theorem chanUpd_now (i : Nat) (f : Chan → Chan) (s : State) : (chanUpd i f s).now = s.now := rfl
@[simp] theorem chanUpd_up (i : Nat) (f : Chan → Chan) (s : State) : (chanUpd i f s).up = s.up := rfl
@[simp] theorem chanUpd_free (i : Nat) (f : Chan → Chan) (s : State) : (chanUpd i f s).free = s.free := rfl
@[simp] theorem chanUpd_cfg (i : Nat) (f : Chan → Chan) (s : State) : (chanUpd i f s).cfg = s.cfg := rfl
@[simp] theorem chanUpd_ctl (i : Nat) (f : Chan → Chan) (s : State) : (chanUpd i f s).ctl = s.ctl := rfl
@[simp] theorem chanUpd_tb (i : Nat) (f : Chan → Chan) (s : State) : (chanUpd i f s).tb = s.tb := rfl
@[simp] theorem chanUpd_safe (i : Nat) (f : Chan → Chan) (s : State) : (chanUpd i f s).safe = s.safe := rfl
@[simp] theorem chanUpd_pwr (i : Nat) (f : Chan → Chan) (s : State) : (chanUpd i f s).pwr = s.pwr := rfl
@[simp] theorem chanUpd_outq (i : Nat) (f : Chan → Chan) (s : State) : (chanUpd i f s).outq = s.outq := rfl
@[simp] theorem chanUpd_sw (i : Nat) (f : Chan → Chan) (s : State) : (chanUpd i f s).sw = s.sw := rfl
@[simp] theorem chanUpd_team (i : Nat) (f : Chan → Chan) (s : State) : (chanUpd i f s).team = s.team := rfl
@[simp] theorem chanUpd_em (i : Nat) (f : Chan → Chan) (s : State) : (chanUpd i f s).em = s.em := rfl
@[simp] theorem chanUpd_pb (i : Nat) (f : Chan → Chan) (s : State) : (chanUpd i f s).pb = s.pb := rfl
@[simp] theorem chanUpd_rx (i : Nat) (f : Chan → Chan) (s : State) : (chanUpd i f s).rx = s.rx := rfl
@[simp] theorem chanUpd_mon (i : Nat) (f : Chan → Chan) (s : State) : (chanUpd i f s).mon = s.mon := rfl
@[simp] theorem chanUpd_smpUp (i : Nat) (f : Chan → Chan) (s : State) : (chanUpd i f s).smpUp = s.smpUp := rfl
@[simp] theorem chanUpd_cmpDeferred (i : Nat) (f : Chan → Chan) (s : State) :
    (chanUpd i f s).cmpDeferred = s.cmpDeferred := rfl
@[simp] theorem chanUpd_bndQ (i : Nat) (f : Chan → Chan) (s : State) : (chanUpd i f s).bndQ = s.bndQ := rfl
@[simp] theorem chanUpd_rxTile (i : Nat) (f : Chan → Chan) (s : State) : (chanUpd i f s).rxTile = s.rxTile := rfl
@[simp] theorem chanUpd_tripN (i : Nat) (f : Chan → Chan) (s : State) : (chanUpd i f s).tripN = s.tripN := rfl
@[simp] theorem chanUpd_chan (i : Nat) (f : Chan → Chan) (s : State) :
    (chanUpd i f s).chan = tabUpd {} s.chan i f := rfl
@[simp] theorem chanUpd_tile (i : Nat) (f : Chan → Chan) (s : State) : (chanUpd i f s).tile = s.tile := rfl
@[simp] theorem chanUpd_eng (i : Nat) (f : Chan → Chan) (s : State) : (chanUpd i f s).eng = s.eng := rfl
@[simp] theorem chanUpd_track (i : Nat) (f : Chan → Chan) (s : State) : (chanUpd i f s).track = s.track := rfl
@[simp] theorem chanUpd_pers (i : Nat) (f : Chan → Chan) (s : State) : (chanUpd i f s).pers = s.pers := rfl
@[simp] theorem chanUpd_cal (i : Nat) (f : Chan → Chan) (s : State) : (chanUpd i f s).cal = s.cal := rfl
@[simp] theorem chanUpd_fact (i : Nat) (f : Chan → Chan) (s : State) : (chanUpd i f s).fact = s.fact := rfl
@[simp] theorem chanUpd_tap (i : Nat) (f : Chan → Chan) (s : State) : (chanUpd i f s).tap = s.tap := rfl

/-! ### engUpd -/

@[simp] theorem engUpd_pending (i : Nat) (f : Eng → Eng) (s : State) : (engUpd i f s).pending = s.pending := rfl
@[simp] theorem engUpd_now (i : Nat) (f : Eng → Eng) (s : State) : (engUpd i f s).now = s.now := rfl
@[simp] theorem engUpd_up (i : Nat) (f : Eng → Eng) (s : State) : (engUpd i f s).up = s.up := rfl
@[simp] theorem engUpd_free (i : Nat) (f : Eng → Eng) (s : State) : (engUpd i f s).free = s.free := rfl
@[simp] theorem engUpd_cfg (i : Nat) (f : Eng → Eng) (s : State) : (engUpd i f s).cfg = s.cfg := rfl
@[simp] theorem engUpd_ctl (i : Nat) (f : Eng → Eng) (s : State) : (engUpd i f s).ctl = s.ctl := rfl
@[simp] theorem engUpd_tb (i : Nat) (f : Eng → Eng) (s : State) : (engUpd i f s).tb = s.tb := rfl
@[simp] theorem engUpd_safe (i : Nat) (f : Eng → Eng) (s : State) : (engUpd i f s).safe = s.safe := rfl
@[simp] theorem engUpd_pwr (i : Nat) (f : Eng → Eng) (s : State) : (engUpd i f s).pwr = s.pwr := rfl
@[simp] theorem engUpd_outq (i : Nat) (f : Eng → Eng) (s : State) : (engUpd i f s).outq = s.outq := rfl
@[simp] theorem engUpd_sw (i : Nat) (f : Eng → Eng) (s : State) : (engUpd i f s).sw = s.sw := rfl
@[simp] theorem engUpd_team (i : Nat) (f : Eng → Eng) (s : State) : (engUpd i f s).team = s.team := rfl
@[simp] theorem engUpd_em (i : Nat) (f : Eng → Eng) (s : State) : (engUpd i f s).em = s.em := rfl
@[simp] theorem engUpd_pb (i : Nat) (f : Eng → Eng) (s : State) : (engUpd i f s).pb = s.pb := rfl
@[simp] theorem engUpd_rx (i : Nat) (f : Eng → Eng) (s : State) : (engUpd i f s).rx = s.rx := rfl
@[simp] theorem engUpd_mon (i : Nat) (f : Eng → Eng) (s : State) : (engUpd i f s).mon = s.mon := rfl
@[simp] theorem engUpd_smpUp (i : Nat) (f : Eng → Eng) (s : State) : (engUpd i f s).smpUp = s.smpUp := rfl
@[simp] theorem engUpd_cmpDeferred (i : Nat) (f : Eng → Eng) (s : State) :
    (engUpd i f s).cmpDeferred = s.cmpDeferred := rfl
@[simp] theorem engUpd_bndQ (i : Nat) (f : Eng → Eng) (s : State) : (engUpd i f s).bndQ = s.bndQ := rfl
@[simp] theorem engUpd_rxTile (i : Nat) (f : Eng → Eng) (s : State) : (engUpd i f s).rxTile = s.rxTile := rfl
@[simp] theorem engUpd_tripN (i : Nat) (f : Eng → Eng) (s : State) : (engUpd i f s).tripN = s.tripN := rfl
@[simp] theorem engUpd_chan (i : Nat) (f : Eng → Eng) (s : State) : (engUpd i f s).chan = s.chan := rfl
@[simp] theorem engUpd_tile (i : Nat) (f : Eng → Eng) (s : State) : (engUpd i f s).tile = s.tile := rfl
@[simp] theorem engUpd_eng (i : Nat) (f : Eng → Eng) (s : State) : (engUpd i f s).eng = tabUpd {} s.eng i f := rfl
@[simp] theorem engUpd_track (i : Nat) (f : Eng → Eng) (s : State) : (engUpd i f s).track = s.track := rfl
@[simp] theorem engUpd_pers (i : Nat) (f : Eng → Eng) (s : State) : (engUpd i f s).pers = s.pers := rfl
@[simp] theorem engUpd_cal (i : Nat) (f : Eng → Eng) (s : State) : (engUpd i f s).cal = s.cal := rfl
@[simp] theorem engUpd_fact (i : Nat) (f : Eng → Eng) (s : State) : (engUpd i f s).fact = s.fact := rfl
@[simp] theorem engUpd_tap (i : Nat) (f : Eng → Eng) (s : State) : (engUpd i f s).tap = s.tap := rfl

/-! ### qUpd -/

@[simp] theorem qUpd_pending (i : Nat) (f : QRun → QRun) (s : State) : (qUpd i f s).pending = s.pending := rfl
@[simp] theorem qUpd_now (i : Nat) (f : QRun → QRun) (s : State) : (qUpd i f s).now = s.now := rfl
@[simp] theorem qUpd_up (i : Nat) (f : QRun → QRun) (s : State) : (qUpd i f s).up = s.up := rfl
@[simp] theorem qUpd_free (i : Nat) (f : QRun → QRun) (s : State) : (qUpd i f s).free = s.free := rfl
@[simp] theorem qUpd_cfg (i : Nat) (f : QRun → QRun) (s : State) : (qUpd i f s).cfg = s.cfg := rfl
@[simp] theorem qUpd_ctl (i : Nat) (f : QRun → QRun) (s : State) : (qUpd i f s).ctl = s.ctl := rfl
@[simp] theorem qUpd_tb (i : Nat) (f : QRun → QRun) (s : State) : (qUpd i f s).tb = s.tb := rfl
@[simp] theorem qUpd_safe (i : Nat) (f : QRun → QRun) (s : State) : (qUpd i f s).safe = s.safe := rfl
@[simp] theorem qUpd_pwr (i : Nat) (f : QRun → QRun) (s : State) : (qUpd i f s).pwr = s.pwr := rfl
@[simp] theorem qUpd_sw (i : Nat) (f : QRun → QRun) (s : State) : (qUpd i f s).sw = s.sw := rfl
@[simp] theorem qUpd_team (i : Nat) (f : QRun → QRun) (s : State) : (qUpd i f s).team = s.team := rfl
@[simp] theorem qUpd_em (i : Nat) (f : QRun → QRun) (s : State) : (qUpd i f s).em = s.em := rfl
@[simp] theorem qUpd_pb (i : Nat) (f : QRun → QRun) (s : State) : (qUpd i f s).pb = s.pb := rfl
@[simp] theorem qUpd_rx (i : Nat) (f : QRun → QRun) (s : State) : (qUpd i f s).rx = s.rx := rfl
@[simp] theorem qUpd_mon (i : Nat) (f : QRun → QRun) (s : State) : (qUpd i f s).mon = s.mon := rfl
@[simp] theorem qUpd_smpUp (i : Nat) (f : QRun → QRun) (s : State) : (qUpd i f s).smpUp = s.smpUp := rfl
@[simp] theorem qUpd_cmpDeferred (i : Nat) (f : QRun → QRun) (s : State) :
    (qUpd i f s).cmpDeferred = s.cmpDeferred := rfl
@[simp] theorem qUpd_bndQ (i : Nat) (f : QRun → QRun) (s : State) : (qUpd i f s).bndQ = s.bndQ := rfl
@[simp] theorem qUpd_rxTile (i : Nat) (f : QRun → QRun) (s : State) : (qUpd i f s).rxTile = s.rxTile := rfl
@[simp] theorem qUpd_tripN (i : Nat) (f : QRun → QRun) (s : State) : (qUpd i f s).tripN = s.tripN := rfl
@[simp] theorem qUpd_chan (i : Nat) (f : QRun → QRun) (s : State) : (qUpd i f s).chan = s.chan := rfl
@[simp] theorem qUpd_tile (i : Nat) (f : QRun → QRun) (s : State) : (qUpd i f s).tile = s.tile := rfl
@[simp] theorem qUpd_eng (i : Nat) (f : QRun → QRun) (s : State) : (qUpd i f s).eng = s.eng := rfl
@[simp] theorem qUpd_track (i : Nat) (f : QRun → QRun) (s : State) : (qUpd i f s).track = s.track := rfl
@[simp] theorem qUpd_pers (i : Nat) (f : QRun → QRun) (s : State) : (qUpd i f s).pers = s.pers := rfl
@[simp] theorem qUpd_cal (i : Nat) (f : QRun → QRun) (s : State) : (qUpd i f s).cal = s.cal := rfl
@[simp] theorem qUpd_fact (i : Nat) (f : QRun → QRun) (s : State) : (qUpd i f s).fact = s.fact := rfl
@[simp] theorem qUpd_tap (i : Nat) (f : QRun → QRun) (s : State) : (qUpd i f s).tap = s.tap := rfl

/-! ### clsUpd -/

@[simp] theorem clsUpd_pending (i : Nat) (f : ClsCnt → ClsCnt) (s : State) : (clsUpd i f s).pending = s.pending := rfl
@[simp] theorem clsUpd_now (i : Nat) (f : ClsCnt → ClsCnt) (s : State) : (clsUpd i f s).now = s.now := rfl
@[simp] theorem clsUpd_up (i : Nat) (f : ClsCnt → ClsCnt) (s : State) : (clsUpd i f s).up = s.up := rfl
@[simp] theorem clsUpd_free (i : Nat) (f : ClsCnt → ClsCnt) (s : State) : (clsUpd i f s).free = s.free := rfl
@[simp] theorem clsUpd_cfg (i : Nat) (f : ClsCnt → ClsCnt) (s : State) : (clsUpd i f s).cfg = s.cfg := rfl
@[simp] theorem clsUpd_ctl (i : Nat) (f : ClsCnt → ClsCnt) (s : State) : (clsUpd i f s).ctl = s.ctl := rfl
@[simp] theorem clsUpd_tb (i : Nat) (f : ClsCnt → ClsCnt) (s : State) : (clsUpd i f s).tb = s.tb := rfl
@[simp] theorem clsUpd_safe (i : Nat) (f : ClsCnt → ClsCnt) (s : State) : (clsUpd i f s).safe = s.safe := rfl
@[simp] theorem clsUpd_pwr (i : Nat) (f : ClsCnt → ClsCnt) (s : State) : (clsUpd i f s).pwr = s.pwr := rfl
@[simp] theorem clsUpd_sw (i : Nat) (f : ClsCnt → ClsCnt) (s : State) : (clsUpd i f s).sw = s.sw := rfl
@[simp] theorem clsUpd_team (i : Nat) (f : ClsCnt → ClsCnt) (s : State) : (clsUpd i f s).team = s.team := rfl
@[simp] theorem clsUpd_em (i : Nat) (f : ClsCnt → ClsCnt) (s : State) : (clsUpd i f s).em = s.em := rfl
@[simp] theorem clsUpd_pb (i : Nat) (f : ClsCnt → ClsCnt) (s : State) : (clsUpd i f s).pb = s.pb := rfl
@[simp] theorem clsUpd_rx (i : Nat) (f : ClsCnt → ClsCnt) (s : State) : (clsUpd i f s).rx = s.rx := rfl
@[simp] theorem clsUpd_mon (i : Nat) (f : ClsCnt → ClsCnt) (s : State) : (clsUpd i f s).mon = s.mon := rfl
@[simp] theorem clsUpd_smpUp (i : Nat) (f : ClsCnt → ClsCnt) (s : State) : (clsUpd i f s).smpUp = s.smpUp := rfl
@[simp] theorem clsUpd_cmpDeferred (i : Nat) (f : ClsCnt → ClsCnt) (s : State) :
    (clsUpd i f s).cmpDeferred = s.cmpDeferred := rfl
@[simp] theorem clsUpd_bndQ (i : Nat) (f : ClsCnt → ClsCnt) (s : State) : (clsUpd i f s).bndQ = s.bndQ := rfl
@[simp] theorem clsUpd_rxTile (i : Nat) (f : ClsCnt → ClsCnt) (s : State) : (clsUpd i f s).rxTile = s.rxTile := rfl
@[simp] theorem clsUpd_tripN (i : Nat) (f : ClsCnt → ClsCnt) (s : State) : (clsUpd i f s).tripN = s.tripN := rfl
@[simp] theorem clsUpd_chan (i : Nat) (f : ClsCnt → ClsCnt) (s : State) : (clsUpd i f s).chan = s.chan := rfl
@[simp] theorem clsUpd_tile (i : Nat) (f : ClsCnt → ClsCnt) (s : State) : (clsUpd i f s).tile = s.tile := rfl
@[simp] theorem clsUpd_eng (i : Nat) (f : ClsCnt → ClsCnt) (s : State) : (clsUpd i f s).eng = s.eng := rfl
@[simp] theorem clsUpd_track (i : Nat) (f : ClsCnt → ClsCnt) (s : State) : (clsUpd i f s).track = s.track := rfl
@[simp] theorem clsUpd_pers (i : Nat) (f : ClsCnt → ClsCnt) (s : State) : (clsUpd i f s).pers = s.pers := rfl
@[simp] theorem clsUpd_cal (i : Nat) (f : ClsCnt → ClsCnt) (s : State) : (clsUpd i f s).cal = s.cal := rfl
@[simp] theorem clsUpd_fact (i : Nat) (f : ClsCnt → ClsCnt) (s : State) : (clsUpd i f s).fact = s.fact := rfl
@[simp] theorem clsUpd_tap (i : Nat) (f : ClsCnt → ClsCnt) (s : State) : (clsUpd i f s).tap = s.tap := rfl

/-! ### portUpd -/

@[simp] theorem portUpd_pending (i : Nat) (f : Port → Port) (s : State) : (portUpd i f s).pending = s.pending := rfl
@[simp] theorem portUpd_now (i : Nat) (f : Port → Port) (s : State) : (portUpd i f s).now = s.now := rfl
@[simp] theorem portUpd_up (i : Nat) (f : Port → Port) (s : State) : (portUpd i f s).up = s.up := rfl
@[simp] theorem portUpd_free (i : Nat) (f : Port → Port) (s : State) : (portUpd i f s).free = s.free := rfl
@[simp] theorem portUpd_cfg (i : Nat) (f : Port → Port) (s : State) : (portUpd i f s).cfg = s.cfg := rfl
@[simp] theorem portUpd_ctl (i : Nat) (f : Port → Port) (s : State) : (portUpd i f s).ctl = s.ctl := rfl
@[simp] theorem portUpd_tb (i : Nat) (f : Port → Port) (s : State) : (portUpd i f s).tb = s.tb := rfl
@[simp] theorem portUpd_safe (i : Nat) (f : Port → Port) (s : State) : (portUpd i f s).safe = s.safe := rfl
@[simp] theorem portUpd_pwr (i : Nat) (f : Port → Port) (s : State) : (portUpd i f s).pwr = s.pwr := rfl
@[simp] theorem portUpd_outq (i : Nat) (f : Port → Port) (s : State) : (portUpd i f s).outq = s.outq := rfl
@[simp] theorem portUpd_team (i : Nat) (f : Port → Port) (s : State) : (portUpd i f s).team = s.team := rfl
@[simp] theorem portUpd_em (i : Nat) (f : Port → Port) (s : State) : (portUpd i f s).em = s.em := rfl
@[simp] theorem portUpd_pb (i : Nat) (f : Port → Port) (s : State) : (portUpd i f s).pb = s.pb := rfl
@[simp] theorem portUpd_rx (i : Nat) (f : Port → Port) (s : State) : (portUpd i f s).rx = s.rx := rfl
@[simp] theorem portUpd_mon (i : Nat) (f : Port → Port) (s : State) : (portUpd i f s).mon = s.mon := rfl
@[simp] theorem portUpd_smpUp (i : Nat) (f : Port → Port) (s : State) : (portUpd i f s).smpUp = s.smpUp := rfl
@[simp] theorem portUpd_cmpDeferred (i : Nat) (f : Port → Port) (s : State) :
    (portUpd i f s).cmpDeferred = s.cmpDeferred := rfl
@[simp] theorem portUpd_bndQ (i : Nat) (f : Port → Port) (s : State) : (portUpd i f s).bndQ = s.bndQ := rfl
@[simp] theorem portUpd_rxTile (i : Nat) (f : Port → Port) (s : State) : (portUpd i f s).rxTile = s.rxTile := rfl
@[simp] theorem portUpd_tripN (i : Nat) (f : Port → Port) (s : State) : (portUpd i f s).tripN = s.tripN := rfl
@[simp] theorem portUpd_chan (i : Nat) (f : Port → Port) (s : State) : (portUpd i f s).chan = s.chan := rfl
@[simp] theorem portUpd_tile (i : Nat) (f : Port → Port) (s : State) : (portUpd i f s).tile = s.tile := rfl
@[simp] theorem portUpd_eng (i : Nat) (f : Port → Port) (s : State) : (portUpd i f s).eng = s.eng := rfl
@[simp] theorem portUpd_track (i : Nat) (f : Port → Port) (s : State) : (portUpd i f s).track = s.track := rfl
@[simp] theorem portUpd_pers (i : Nat) (f : Port → Port) (s : State) : (portUpd i f s).pers = s.pers := rfl
@[simp] theorem portUpd_cal (i : Nat) (f : Port → Port) (s : State) : (portUpd i f s).cal = s.cal := rfl
@[simp] theorem portUpd_fact (i : Nat) (f : Port → Port) (s : State) : (portUpd i f s).fact = s.fact := rfl
@[simp] theorem portUpd_tap (i : Nat) (f : Port → Port) (s : State) : (portUpd i f s).tap = s.tap := rfl

/-! ### out -/

@[simp] theorem out_pending (o : Out) (s : State) : (out o s).pending = s.pending := rfl
@[simp] theorem out_now (o : Out) (s : State) : (out o s).now = s.now := rfl
@[simp] theorem out_up (o : Out) (s : State) : (out o s).up = s.up := rfl
@[simp] theorem out_free (o : Out) (s : State) : (out o s).free = s.free := rfl
@[simp] theorem out_cfg (o : Out) (s : State) : (out o s).cfg = s.cfg := rfl
@[simp] theorem out_ctl (o : Out) (s : State) : (out o s).ctl = s.ctl := rfl
@[simp] theorem out_tb (o : Out) (s : State) : (out o s).tb = s.tb := rfl
@[simp] theorem out_safe (o : Out) (s : State) : (out o s).safe = s.safe := rfl
@[simp] theorem out_pwr (o : Out) (s : State) : (out o s).pwr = s.pwr := rfl
@[simp] theorem out_outq (o : Out) (s : State) : (out o s).outq = { s.outq with outs := s.outq.outs ++ [o] } := rfl
@[simp] theorem out_sw (o : Out) (s : State) : (out o s).sw = s.sw := rfl
@[simp] theorem out_team (o : Out) (s : State) : (out o s).team = s.team := rfl
@[simp] theorem out_em (o : Out) (s : State) : (out o s).em = s.em := rfl
@[simp] theorem out_pb (o : Out) (s : State) : (out o s).pb = s.pb := rfl
@[simp] theorem out_rx (o : Out) (s : State) : (out o s).rx = s.rx := rfl
@[simp] theorem out_mon (o : Out) (s : State) : (out o s).mon = s.mon := rfl
@[simp] theorem out_smpUp (o : Out) (s : State) : (out o s).smpUp = s.smpUp := rfl
@[simp] theorem out_cmpDeferred (o : Out) (s : State) : (out o s).cmpDeferred = s.cmpDeferred := rfl
@[simp] theorem out_bndQ (o : Out) (s : State) : (out o s).bndQ = s.bndQ := rfl
@[simp] theorem out_rxTile (o : Out) (s : State) : (out o s).rxTile = s.rxTile := rfl
@[simp] theorem out_tripN (o : Out) (s : State) : (out o s).tripN = s.tripN := rfl
@[simp] theorem out_chan (o : Out) (s : State) : (out o s).chan = s.chan := rfl
@[simp] theorem out_tile (o : Out) (s : State) : (out o s).tile = s.tile := rfl
@[simp] theorem out_eng (o : Out) (s : State) : (out o s).eng = s.eng := rfl
@[simp] theorem out_track (o : Out) (s : State) : (out o s).track = s.track := rfl
@[simp] theorem out_pers (o : Out) (s : State) : (out o s).pers = s.pers := rfl
@[simp] theorem out_cal (o : Out) (s : State) : (out o s).cal = s.cal := rfl
@[simp] theorem out_fact (o : Out) (s : State) : (out o s).fact = s.fact := rfl
@[simp] theorem out_tap (o : Out) (s : State) : (out o s).tap = s.tap := rfl

/-! ### c0Set -/

@[simp] theorem c0Set_pending (d : Nat) (l : List (Nat × List Word)) (s : State) :
    (c0Set d l s).pending = s.pending := rfl
@[simp] theorem c0Set_now (d : Nat) (l : List (Nat × List Word)) (s : State) : (c0Set d l s).now = s.now := rfl
@[simp] theorem c0Set_up (d : Nat) (l : List (Nat × List Word)) (s : State) : (c0Set d l s).up = s.up := rfl
@[simp] theorem c0Set_free (d : Nat) (l : List (Nat × List Word)) (s : State) : (c0Set d l s).free = s.free := rfl
@[simp] theorem c0Set_cfg (d : Nat) (l : List (Nat × List Word)) (s : State) : (c0Set d l s).cfg = s.cfg := rfl
@[simp] theorem c0Set_ctl (d : Nat) (l : List (Nat × List Word)) (s : State) : (c0Set d l s).ctl = s.ctl := rfl
@[simp] theorem c0Set_tb (d : Nat) (l : List (Nat × List Word)) (s : State) : (c0Set d l s).tb = s.tb := rfl
@[simp] theorem c0Set_safe (d : Nat) (l : List (Nat × List Word)) (s : State) : (c0Set d l s).safe = s.safe := rfl
@[simp] theorem c0Set_pwr (d : Nat) (l : List (Nat × List Word)) (s : State) : (c0Set d l s).pwr = s.pwr := rfl
@[simp] theorem c0Set_sw (d : Nat) (l : List (Nat × List Word)) (s : State) : (c0Set d l s).sw = s.sw := rfl
@[simp] theorem c0Set_team (d : Nat) (l : List (Nat × List Word)) (s : State) : (c0Set d l s).team = s.team := rfl
@[simp] theorem c0Set_em (d : Nat) (l : List (Nat × List Word)) (s : State) : (c0Set d l s).em = s.em := rfl
@[simp] theorem c0Set_pb (d : Nat) (l : List (Nat × List Word)) (s : State) : (c0Set d l s).pb = s.pb := rfl
@[simp] theorem c0Set_rx (d : Nat) (l : List (Nat × List Word)) (s : State) : (c0Set d l s).rx = s.rx := rfl
@[simp] theorem c0Set_mon (d : Nat) (l : List (Nat × List Word)) (s : State) : (c0Set d l s).mon = s.mon := rfl
@[simp] theorem c0Set_smpUp (d : Nat) (l : List (Nat × List Word)) (s : State) : (c0Set d l s).smpUp = s.smpUp := rfl
@[simp] theorem c0Set_cmpDeferred (d : Nat) (l : List (Nat × List Word)) (s : State) :
    (c0Set d l s).cmpDeferred = s.cmpDeferred := rfl
@[simp] theorem c0Set_bndQ (d : Nat) (l : List (Nat × List Word)) (s : State) : (c0Set d l s).bndQ = s.bndQ := rfl
@[simp] theorem c0Set_rxTile (d : Nat) (l : List (Nat × List Word)) (s : State) : (c0Set d l s).rxTile = s.rxTile := rfl
@[simp] theorem c0Set_tripN (d : Nat) (l : List (Nat × List Word)) (s : State) : (c0Set d l s).tripN = s.tripN := rfl
@[simp] theorem c0Set_chan (d : Nat) (l : List (Nat × List Word)) (s : State) : (c0Set d l s).chan = s.chan := rfl
@[simp] theorem c0Set_tile (d : Nat) (l : List (Nat × List Word)) (s : State) : (c0Set d l s).tile = s.tile := rfl
@[simp] theorem c0Set_eng (d : Nat) (l : List (Nat × List Word)) (s : State) : (c0Set d l s).eng = s.eng := rfl
@[simp] theorem c0Set_track (d : Nat) (l : List (Nat × List Word)) (s : State) : (c0Set d l s).track = s.track := rfl
@[simp] theorem c0Set_pers (d : Nat) (l : List (Nat × List Word)) (s : State) : (c0Set d l s).pers = s.pers := rfl
@[simp] theorem c0Set_cal (d : Nat) (l : List (Nat × List Word)) (s : State) : (c0Set d l s).cal = s.cal := rfl
@[simp] theorem c0Set_fact (d : Nat) (l : List (Nat × List Word)) (s : State) : (c0Set d l s).fact = s.fact := rfl
@[simp] theorem c0Set_tap (d : Nat) (l : List (Nat × List Word)) (s : State) : (c0Set d l s).tap = s.tap := rfl

/-! ### mbxPut -/

@[simp] theorem mbxPut_pending (m : Nat) (b : Mbx) (s : State) : (mbxPut m b s).pending = s.pending := rfl
@[simp] theorem mbxPut_now (m : Nat) (b : Mbx) (s : State) : (mbxPut m b s).now = s.now := rfl
@[simp] theorem mbxPut_up (m : Nat) (b : Mbx) (s : State) : (mbxPut m b s).up = s.up := rfl
@[simp] theorem mbxPut_free (m : Nat) (b : Mbx) (s : State) : (mbxPut m b s).free = s.free := rfl
@[simp] theorem mbxPut_cfg (m : Nat) (b : Mbx) (s : State) : (mbxPut m b s).cfg = s.cfg := rfl
@[simp] theorem mbxPut_ctl (m : Nat) (b : Mbx) (s : State) :
    (mbxPut m b s).ctl = { s.ctl with mbx := tabSet {} s.ctl.mbx m b } := rfl
@[simp] theorem mbxPut_tb (m : Nat) (b : Mbx) (s : State) : (mbxPut m b s).tb = s.tb := rfl
@[simp] theorem mbxPut_safe (m : Nat) (b : Mbx) (s : State) : (mbxPut m b s).safe = s.safe := rfl
@[simp] theorem mbxPut_pwr (m : Nat) (b : Mbx) (s : State) : (mbxPut m b s).pwr = s.pwr := rfl
@[simp] theorem mbxPut_outq (m : Nat) (b : Mbx) (s : State) : (mbxPut m b s).outq = s.outq := rfl
@[simp] theorem mbxPut_sw (m : Nat) (b : Mbx) (s : State) : (mbxPut m b s).sw = s.sw := rfl
@[simp] theorem mbxPut_team (m : Nat) (b : Mbx) (s : State) : (mbxPut m b s).team = s.team := rfl
@[simp] theorem mbxPut_em (m : Nat) (b : Mbx) (s : State) : (mbxPut m b s).em = s.em := rfl
@[simp] theorem mbxPut_pb (m : Nat) (b : Mbx) (s : State) : (mbxPut m b s).pb = s.pb := rfl
@[simp] theorem mbxPut_rx (m : Nat) (b : Mbx) (s : State) : (mbxPut m b s).rx = s.rx := rfl
@[simp] theorem mbxPut_mon (m : Nat) (b : Mbx) (s : State) : (mbxPut m b s).mon = s.mon := rfl
@[simp] theorem mbxPut_smpUp (m : Nat) (b : Mbx) (s : State) : (mbxPut m b s).smpUp = s.smpUp := rfl
@[simp] theorem mbxPut_cmpDeferred (m : Nat) (b : Mbx) (s : State) : (mbxPut m b s).cmpDeferred = s.cmpDeferred := rfl
@[simp] theorem mbxPut_bndQ (m : Nat) (b : Mbx) (s : State) : (mbxPut m b s).bndQ = s.bndQ := rfl
@[simp] theorem mbxPut_rxTile (m : Nat) (b : Mbx) (s : State) : (mbxPut m b s).rxTile = s.rxTile := rfl
@[simp] theorem mbxPut_tripN (m : Nat) (b : Mbx) (s : State) : (mbxPut m b s).tripN = s.tripN := rfl
@[simp] theorem mbxPut_chan (m : Nat) (b : Mbx) (s : State) : (mbxPut m b s).chan = s.chan := rfl
@[simp] theorem mbxPut_tile (m : Nat) (b : Mbx) (s : State) : (mbxPut m b s).tile = s.tile := rfl
@[simp] theorem mbxPut_eng (m : Nat) (b : Mbx) (s : State) : (mbxPut m b s).eng = s.eng := rfl
@[simp] theorem mbxPut_track (m : Nat) (b : Mbx) (s : State) : (mbxPut m b s).track = s.track := rfl
@[simp] theorem mbxPut_pers (m : Nat) (b : Mbx) (s : State) : (mbxPut m b s).pers = s.pers := rfl
@[simp] theorem mbxPut_cal (m : Nat) (b : Mbx) (s : State) : (mbxPut m b s).cal = s.cal := rfl
@[simp] theorem mbxPut_fact (m : Nat) (b : Mbx) (s : State) : (mbxPut m b s).fact = s.fact := rfl
@[simp] theorem mbxPut_tap (m : Nat) (b : Mbx) (s : State) : (mbxPut m b s).tap = s.tap := rfl

/-! ### txnPut -/

@[simp] theorem txnPut_pending (id : Nat) (t : Txn) (s : State) : (txnPut id t s).pending = s.pending := rfl
@[simp] theorem txnPut_now (id : Nat) (t : Txn) (s : State) : (txnPut id t s).now = s.now := rfl
@[simp] theorem txnPut_up (id : Nat) (t : Txn) (s : State) : (txnPut id t s).up = s.up := rfl
@[simp] theorem txnPut_free (id : Nat) (t : Txn) (s : State) : (txnPut id t s).free = s.free := rfl
@[simp] theorem txnPut_cfg (id : Nat) (t : Txn) (s : State) : (txnPut id t s).cfg = s.cfg := rfl
@[simp] theorem txnPut_ctl (id : Nat) (t : Txn) (s : State) :
    (txnPut id t s).ctl = { s.ctl with txns := tabPut s.ctl.txns id t } := rfl
@[simp] theorem txnPut_tb (id : Nat) (t : Txn) (s : State) : (txnPut id t s).tb = s.tb := rfl
@[simp] theorem txnPut_safe (id : Nat) (t : Txn) (s : State) : (txnPut id t s).safe = s.safe := rfl
@[simp] theorem txnPut_pwr (id : Nat) (t : Txn) (s : State) : (txnPut id t s).pwr = s.pwr := rfl
@[simp] theorem txnPut_outq (id : Nat) (t : Txn) (s : State) : (txnPut id t s).outq = s.outq := rfl
@[simp] theorem txnPut_sw (id : Nat) (t : Txn) (s : State) : (txnPut id t s).sw = s.sw := rfl
@[simp] theorem txnPut_team (id : Nat) (t : Txn) (s : State) : (txnPut id t s).team = s.team := rfl
@[simp] theorem txnPut_em (id : Nat) (t : Txn) (s : State) : (txnPut id t s).em = s.em := rfl
@[simp] theorem txnPut_pb (id : Nat) (t : Txn) (s : State) : (txnPut id t s).pb = s.pb := rfl
@[simp] theorem txnPut_rx (id : Nat) (t : Txn) (s : State) : (txnPut id t s).rx = s.rx := rfl
@[simp] theorem txnPut_mon (id : Nat) (t : Txn) (s : State) : (txnPut id t s).mon = s.mon := rfl
@[simp] theorem txnPut_smpUp (id : Nat) (t : Txn) (s : State) : (txnPut id t s).smpUp = s.smpUp := rfl
@[simp] theorem txnPut_cmpDeferred (id : Nat) (t : Txn) (s : State) : (txnPut id t s).cmpDeferred = s.cmpDeferred := rfl
@[simp] theorem txnPut_bndQ (id : Nat) (t : Txn) (s : State) : (txnPut id t s).bndQ = s.bndQ := rfl
@[simp] theorem txnPut_rxTile (id : Nat) (t : Txn) (s : State) : (txnPut id t s).rxTile = s.rxTile := rfl
@[simp] theorem txnPut_tripN (id : Nat) (t : Txn) (s : State) : (txnPut id t s).tripN = s.tripN := rfl
@[simp] theorem txnPut_chan (id : Nat) (t : Txn) (s : State) : (txnPut id t s).chan = s.chan := rfl
@[simp] theorem txnPut_tile (id : Nat) (t : Txn) (s : State) : (txnPut id t s).tile = s.tile := rfl
@[simp] theorem txnPut_eng (id : Nat) (t : Txn) (s : State) : (txnPut id t s).eng = s.eng := rfl
@[simp] theorem txnPut_track (id : Nat) (t : Txn) (s : State) : (txnPut id t s).track = s.track := rfl
@[simp] theorem txnPut_pers (id : Nat) (t : Txn) (s : State) : (txnPut id t s).pers = s.pers := rfl
@[simp] theorem txnPut_cal (id : Nat) (t : Txn) (s : State) : (txnPut id t s).cal = s.cal := rfl
@[simp] theorem txnPut_fact (id : Nat) (t : Txn) (s : State) : (txnPut id t s).fact = s.fact := rfl
@[simp] theorem txnPut_tap (id : Nat) (t : Txn) (s : State) : (txnPut id t s).tap = s.tap := rfl

/-! ### decideCause -/

@[simp] theorem decideCause_pending (bit obj detail : Nat) (s : State) :
    (decideCause bit obj detail s).pending = s.pending := rfl
@[simp] theorem decideCause_now (bit obj detail : Nat) (s : State) : (decideCause bit obj detail s).now = s.now := rfl
@[simp] theorem decideCause_up (bit obj detail : Nat) (s : State) : (decideCause bit obj detail s).up = s.up := rfl
@[simp] theorem decideCause_free (bit obj detail : Nat) (s : State) :
    (decideCause bit obj detail s).free = s.free := rfl
@[simp] theorem decideCause_cfg (bit obj detail : Nat) (s : State) : (decideCause bit obj detail s).cfg = s.cfg := rfl
@[simp] theorem decideCause_ctl (bit obj detail : Nat) (s : State) : (decideCause bit obj detail s).ctl = s.ctl := rfl
@[simp] theorem decideCause_tb (bit obj detail : Nat) (s : State) : (decideCause bit obj detail s).tb = s.tb := rfl
@[simp] theorem decideCause_pwr (bit obj detail : Nat) (s : State) : (decideCause bit obj detail s).pwr = s.pwr := rfl
@[simp] theorem decideCause_outq (bit obj detail : Nat) (s : State) :
    (decideCause bit obj detail s).outq = s.outq := rfl
@[simp] theorem decideCause_sw (bit obj detail : Nat) (s : State) : (decideCause bit obj detail s).sw = s.sw := rfl
@[simp] theorem decideCause_team (bit obj detail : Nat) (s : State) :
    (decideCause bit obj detail s).team = s.team := rfl
@[simp] theorem decideCause_em (bit obj detail : Nat) (s : State) : (decideCause bit obj detail s).em = s.em := rfl
@[simp] theorem decideCause_pb (bit obj detail : Nat) (s : State) : (decideCause bit obj detail s).pb = s.pb := rfl
@[simp] theorem decideCause_rx (bit obj detail : Nat) (s : State) : (decideCause bit obj detail s).rx = s.rx := rfl
@[simp] theorem decideCause_mon (bit obj detail : Nat) (s : State) : (decideCause bit obj detail s).mon = s.mon := rfl
@[simp] theorem decideCause_smpUp (bit obj detail : Nat) (s : State) :
    (decideCause bit obj detail s).smpUp = s.smpUp := rfl
@[simp] theorem decideCause_cmpDeferred (bit obj detail : Nat) (s : State) :
    (decideCause bit obj detail s).cmpDeferred = s.cmpDeferred := rfl
@[simp] theorem decideCause_bndQ (bit obj detail : Nat) (s : State) :
    (decideCause bit obj detail s).bndQ = s.bndQ := rfl
@[simp] theorem decideCause_rxTile (bit obj detail : Nat) (s : State) :
    (decideCause bit obj detail s).rxTile = s.rxTile := rfl
@[simp] theorem decideCause_tripN (bit obj detail : Nat) (s : State) :
    (decideCause bit obj detail s).tripN = s.tripN := rfl
@[simp] theorem decideCause_chan (bit obj detail : Nat) (s : State) :
    (decideCause bit obj detail s).chan = s.chan := rfl
@[simp] theorem decideCause_tile (bit obj detail : Nat) (s : State) :
    (decideCause bit obj detail s).tile = s.tile := rfl
@[simp] theorem decideCause_eng (bit obj detail : Nat) (s : State) : (decideCause bit obj detail s).eng = s.eng := rfl
@[simp] theorem decideCause_track (bit obj detail : Nat) (s : State) :
    (decideCause bit obj detail s).track = s.track := rfl
@[simp] theorem decideCause_pers (bit obj detail : Nat) (s : State) :
    (decideCause bit obj detail s).pers = s.pers := rfl
@[simp] theorem decideCause_cal (bit obj detail : Nat) (s : State) : (decideCause bit obj detail s).cal = s.cal := rfl
@[simp] theorem decideCause_fact (bit obj detail : Nat) (s : State) :
    (decideCause bit obj detail s).fact = s.fact := rfl
@[simp] theorem decideCause_tap (bit obj detail : Nat) (s : State) : (decideCause bit obj detail s).tap = s.tap := rfl

/-! ### dbIgnore -/

@[simp] theorem dbIgnore_pending (s : State) : (dbIgnore s).pending = s.pending := rfl
@[simp] theorem dbIgnore_now (s : State) : (dbIgnore s).now = s.now := rfl
@[simp] theorem dbIgnore_up (s : State) : (dbIgnore s).up = s.up := rfl
@[simp] theorem dbIgnore_free (s : State) : (dbIgnore s).free = s.free := rfl
@[simp] theorem dbIgnore_cfg (s : State) : (dbIgnore s).cfg = s.cfg := rfl
@[simp] theorem dbIgnore_ctl (s : State) :
    (dbIgnore s).ctl = { s.ctl with dbIgnored := satAdd 8 s.ctl.dbIgnored 1 } := rfl
@[simp] theorem dbIgnore_tb (s : State) : (dbIgnore s).tb = s.tb := rfl
@[simp] theorem dbIgnore_safe (s : State) : (dbIgnore s).safe = s.safe := rfl
@[simp] theorem dbIgnore_pwr (s : State) : (dbIgnore s).pwr = s.pwr := rfl
@[simp] theorem dbIgnore_outq (s : State) : (dbIgnore s).outq = s.outq := rfl
@[simp] theorem dbIgnore_sw (s : State) : (dbIgnore s).sw = s.sw := rfl
@[simp] theorem dbIgnore_team (s : State) : (dbIgnore s).team = s.team := rfl
@[simp] theorem dbIgnore_em (s : State) : (dbIgnore s).em = s.em := rfl
@[simp] theorem dbIgnore_pb (s : State) : (dbIgnore s).pb = s.pb := rfl
@[simp] theorem dbIgnore_rx (s : State) : (dbIgnore s).rx = s.rx := rfl
@[simp] theorem dbIgnore_mon (s : State) : (dbIgnore s).mon = s.mon := rfl
@[simp] theorem dbIgnore_smpUp (s : State) : (dbIgnore s).smpUp = s.smpUp := rfl
@[simp] theorem dbIgnore_cmpDeferred (s : State) : (dbIgnore s).cmpDeferred = s.cmpDeferred := rfl
@[simp] theorem dbIgnore_bndQ (s : State) : (dbIgnore s).bndQ = s.bndQ := rfl
@[simp] theorem dbIgnore_rxTile (s : State) : (dbIgnore s).rxTile = s.rxTile := rfl
@[simp] theorem dbIgnore_tripN (s : State) : (dbIgnore s).tripN = s.tripN := rfl
@[simp] theorem dbIgnore_chan (s : State) : (dbIgnore s).chan = s.chan := rfl
@[simp] theorem dbIgnore_tile (s : State) : (dbIgnore s).tile = s.tile := rfl
@[simp] theorem dbIgnore_eng (s : State) : (dbIgnore s).eng = s.eng := rfl
@[simp] theorem dbIgnore_track (s : State) : (dbIgnore s).track = s.track := rfl
@[simp] theorem dbIgnore_pers (s : State) : (dbIgnore s).pers = s.pers := rfl
@[simp] theorem dbIgnore_cal (s : State) : (dbIgnore s).cal = s.cal := rfl
@[simp] theorem dbIgnore_fact (s : State) : (dbIgnore s).fact = s.fact := rfl
@[simp] theorem dbIgnore_tap (s : State) : (dbIgnore s).tap = s.tap := rfl

/-! ### recUpd -/

@[simp] theorem recUpd_pending (i : Nat) (f : Rec → Rec) (s : State) : (recUpd i f s).pending = s.pending := rfl
@[simp] theorem recUpd_now (i : Nat) (f : Rec → Rec) (s : State) : (recUpd i f s).now = s.now := rfl
@[simp] theorem recUpd_up (i : Nat) (f : Rec → Rec) (s : State) : (recUpd i f s).up = s.up := rfl
@[simp] theorem recUpd_free (i : Nat) (f : Rec → Rec) (s : State) : (recUpd i f s).free = s.free := rfl
@[simp] theorem recUpd_cfg (i : Nat) (f : Rec → Rec) (s : State) : (recUpd i f s).cfg = s.cfg := rfl
@[simp] theorem recUpd_ctl (i : Nat) (f : Rec → Rec) (s : State) : (recUpd i f s).ctl = s.ctl := rfl
@[simp] theorem recUpd_tb (i : Nat) (f : Rec → Rec) (s : State) : (recUpd i f s).tb = s.tb := rfl
@[simp] theorem recUpd_safe (i : Nat) (f : Rec → Rec) (s : State) : (recUpd i f s).safe = s.safe := rfl
@[simp] theorem recUpd_pwr (i : Nat) (f : Rec → Rec) (s : State) : (recUpd i f s).pwr = s.pwr := rfl
@[simp] theorem recUpd_outq (i : Nat) (f : Rec → Rec) (s : State) : (recUpd i f s).outq = s.outq := rfl
@[simp] theorem recUpd_sw (i : Nat) (f : Rec → Rec) (s : State) : (recUpd i f s).sw = s.sw := rfl
@[simp] theorem recUpd_team (i : Nat) (f : Rec → Rec) (s : State) : (recUpd i f s).team = s.team := rfl
@[simp] theorem recUpd_em (i : Nat) (f : Rec → Rec) (s : State) : (recUpd i f s).em = s.em := rfl
@[simp] theorem recUpd_pb (i : Nat) (f : Rec → Rec) (s : State) : (recUpd i f s).pb = s.pb := rfl
@[simp] theorem recUpd_rx (i : Nat) (f : Rec → Rec) (s : State) : (recUpd i f s).rx = s.rx := rfl
@[simp] theorem recUpd_mon (i : Nat) (f : Rec → Rec) (s : State) : (recUpd i f s).mon = s.mon := rfl
@[simp] theorem recUpd_smpUp (i : Nat) (f : Rec → Rec) (s : State) : (recUpd i f s).smpUp = s.smpUp := rfl
@[simp] theorem recUpd_cmpDeferred (i : Nat) (f : Rec → Rec) (s : State) :
    (recUpd i f s).cmpDeferred = s.cmpDeferred := rfl
@[simp] theorem recUpd_bndQ (i : Nat) (f : Rec → Rec) (s : State) : (recUpd i f s).bndQ = s.bndQ := rfl
@[simp] theorem recUpd_rxTile (i : Nat) (f : Rec → Rec) (s : State) : (recUpd i f s).rxTile = s.rxTile := rfl
@[simp] theorem recUpd_tripN (i : Nat) (f : Rec → Rec) (s : State) : (recUpd i f s).tripN = s.tripN := rfl
@[simp] theorem recUpd_chan (i : Nat) (f : Rec → Rec) (s : State) : (recUpd i f s).chan = s.chan := rfl
@[simp] theorem recUpd_eng (i : Nat) (f : Rec → Rec) (s : State) : (recUpd i f s).eng = s.eng := rfl
@[simp] theorem recUpd_track (i : Nat) (f : Rec → Rec) (s : State) : (recUpd i f s).track = s.track := rfl
@[simp] theorem recUpd_pers (i : Nat) (f : Rec → Rec) (s : State) : (recUpd i f s).pers = s.pers := rfl
@[simp] theorem recUpd_cal (i : Nat) (f : Rec → Rec) (s : State) : (recUpd i f s).cal = s.cal := rfl
@[simp] theorem recUpd_fact (i : Nat) (f : Rec → Rec) (s : State) : (recUpd i f s).fact = s.fact := rfl
@[simp] theorem recUpd_tap (i : Nat) (f : Rec → Rec) (s : State) : (recUpd i f s).tap = s.tap := rfl

/-! ### causeGone -/

@[simp] theorem causeGone_pending (bit : Nat) (s : State) :
    (causeGone bit s).pending = s.pending := by unfold causeGone; split <;> rfl
@[simp] theorem causeGone_now (bit : Nat) (s : State) :
    (causeGone bit s).now = s.now := by unfold causeGone; split <;> rfl
@[simp] theorem causeGone_up (bit : Nat) (s : State) : (causeGone bit s).up = s.up := by unfold causeGone; split <;> rfl
@[simp] theorem causeGone_free (bit : Nat) (s : State) :
    (causeGone bit s).free = s.free := by unfold causeGone; split <;> rfl
@[simp] theorem causeGone_cfg (bit : Nat) (s : State) :
    (causeGone bit s).cfg = s.cfg := by unfold causeGone; split <;> rfl
@[simp] theorem causeGone_ctl (bit : Nat) (s : State) :
    (causeGone bit s).ctl = s.ctl := by unfold causeGone; split <;> rfl
@[simp] theorem causeGone_tb (bit : Nat) (s : State) : (causeGone bit s).tb = s.tb := by unfold causeGone; split <;> rfl
@[simp] theorem causeGone_pwr (bit : Nat) (s : State) :
    (causeGone bit s).pwr = s.pwr := by unfold causeGone; split <;> rfl
@[simp] theorem causeGone_outq (bit : Nat) (s : State) :
    (causeGone bit s).outq = s.outq := by unfold causeGone; split <;> rfl
@[simp] theorem causeGone_sw (bit : Nat) (s : State) : (causeGone bit s).sw = s.sw := by unfold causeGone; split <;> rfl
@[simp] theorem causeGone_team (bit : Nat) (s : State) :
    (causeGone bit s).team = s.team := by unfold causeGone; split <;> rfl
@[simp] theorem causeGone_em (bit : Nat) (s : State) : (causeGone bit s).em = s.em := by unfold causeGone; split <;> rfl
@[simp] theorem causeGone_pb (bit : Nat) (s : State) : (causeGone bit s).pb = s.pb := by unfold causeGone; split <;> rfl
@[simp] theorem causeGone_rx (bit : Nat) (s : State) : (causeGone bit s).rx = s.rx := by unfold causeGone; split <;> rfl
@[simp] theorem causeGone_mon (bit : Nat) (s : State) :
    (causeGone bit s).mon = s.mon := by unfold causeGone; split <;> rfl
@[simp] theorem causeGone_smpUp (bit : Nat) (s : State) :
    (causeGone bit s).smpUp = s.smpUp := by unfold causeGone; split <;> rfl
@[simp] theorem causeGone_cmpDeferred (bit : Nat) (s : State) :
    (causeGone bit s).cmpDeferred = s.cmpDeferred := by unfold causeGone; split <;> rfl
@[simp] theorem causeGone_bndQ (bit : Nat) (s : State) :
    (causeGone bit s).bndQ = s.bndQ := by unfold causeGone; split <;> rfl
@[simp] theorem causeGone_rxTile (bit : Nat) (s : State) :
    (causeGone bit s).rxTile = s.rxTile := by unfold causeGone; split <;> rfl
@[simp] theorem causeGone_tripN (bit : Nat) (s : State) :
    (causeGone bit s).tripN = s.tripN := by unfold causeGone; split <;> rfl
@[simp] theorem causeGone_chan (bit : Nat) (s : State) :
    (causeGone bit s).chan = s.chan := by unfold causeGone; split <;> rfl
@[simp] theorem causeGone_tile (bit : Nat) (s : State) :
    (causeGone bit s).tile = s.tile := by unfold causeGone; split <;> rfl
@[simp] theorem causeGone_eng (bit : Nat) (s : State) :
    (causeGone bit s).eng = s.eng := by unfold causeGone; split <;> rfl
@[simp] theorem causeGone_track (bit : Nat) (s : State) :
    (causeGone bit s).track = s.track := by unfold causeGone; split <;> rfl
@[simp] theorem causeGone_pers (bit : Nat) (s : State) :
    (causeGone bit s).pers = s.pers := by unfold causeGone; split <;> rfl
@[simp] theorem causeGone_cal (bit : Nat) (s : State) :
    (causeGone bit s).cal = s.cal := by unfold causeGone; split <;> rfl
@[simp] theorem causeGone_fact (bit : Nat) (s : State) :
    (causeGone bit s).fact = s.fact := by unfold causeGone; split <;> rfl
@[simp] theorem causeGone_tap (bit : Nat) (s : State) :
    (causeGone bit s).tap = s.tap := by unfold causeGone; split <;> rfl

/-! ### passTime -/

@[simp] theorem passTime_pending (d : Nat) (s : State) : (passTime d s).pending = s.pending := rfl
@[simp] theorem passTime_up (d : Nat) (s : State) : (passTime d s).up = s.up + d := rfl
@[simp] theorem passTime_free (d : Nat) (s : State) : (passTime d s).free = s.free := rfl
@[simp] theorem passTime_cfg (d : Nat) (s : State) : (passTime d s).cfg = s.cfg := rfl
@[simp] theorem passTime_ctl (d : Nat) (s : State) : (passTime d s).ctl = s.ctl := rfl
@[simp] theorem passTime_tb (d : Nat) (s : State) : (passTime d s).tb = s.tb := rfl
@[simp] theorem passTime_safe (d : Nat) (s : State) : (passTime d s).safe = s.safe := rfl
@[simp] theorem passTime_outq (d : Nat) (s : State) : (passTime d s).outq = s.outq := rfl
@[simp] theorem passTime_sw (d : Nat) (s : State) : (passTime d s).sw = s.sw := rfl
@[simp] theorem passTime_team (d : Nat) (s : State) : (passTime d s).team = s.team := rfl
@[simp] theorem passTime_em (d : Nat) (s : State) : (passTime d s).em = s.em := rfl
@[simp] theorem passTime_pb (d : Nat) (s : State) : (passTime d s).pb = s.pb := rfl
@[simp] theorem passTime_rx (d : Nat) (s : State) : (passTime d s).rx = s.rx := rfl
@[simp] theorem passTime_mon (d : Nat) (s : State) : (passTime d s).mon = s.mon := rfl
@[simp] theorem passTime_smpUp (d : Nat) (s : State) : (passTime d s).smpUp = s.smpUp := rfl
@[simp] theorem passTime_cmpDeferred (d : Nat) (s : State) : (passTime d s).cmpDeferred = s.cmpDeferred := rfl
@[simp] theorem passTime_bndQ (d : Nat) (s : State) : (passTime d s).bndQ = s.bndQ := rfl
@[simp] theorem passTime_rxTile (d : Nat) (s : State) : (passTime d s).rxTile = s.rxTile := rfl
@[simp] theorem passTime_tripN (d : Nat) (s : State) : (passTime d s).tripN = s.tripN := rfl
@[simp] theorem passTime_chan (d : Nat) (s : State) : (passTime d s).chan = s.chan := rfl
@[simp] theorem passTime_tile (d : Nat) (s : State) : (passTime d s).tile = s.tile := rfl
@[simp] theorem passTime_eng (d : Nat) (s : State) : (passTime d s).eng = s.eng := rfl
@[simp] theorem passTime_track (d : Nat) (s : State) : (passTime d s).track = s.track := rfl
@[simp] theorem passTime_pers (d : Nat) (s : State) : (passTime d s).pers = s.pers := rfl
@[simp] theorem passTime_cal (d : Nat) (s : State) : (passTime d s).cal = s.cal := rfl
@[simp] theorem passTime_fact (d : Nat) (s : State) : (passTime d s).fact = s.fact := rfl
@[simp] theorem passTime_tap (d : Nat) (s : State) : (passTime d s).tap = s.tap := rfl

/-! ### irqP -/

@[simp] theorem irqP_pending (bit : Nat) (s : State) : (irqP bit s).pending = s.pending := rfl
@[simp] theorem irqP_now (bit : Nat) (s : State) : (irqP bit s).now = s.now := rfl
@[simp] theorem irqP_up (bit : Nat) (s : State) : (irqP bit s).up = s.up := rfl
@[simp] theorem irqP_free (bit : Nat) (s : State) : (irqP bit s).free = s.free := rfl
@[simp] theorem irqP_cfg (bit : Nat) (s : State) : (irqP bit s).cfg = s.cfg := rfl
@[simp] theorem irqP_tb (bit : Nat) (s : State) : (irqP bit s).tb = s.tb := rfl
@[simp] theorem irqP_safe (bit : Nat) (s : State) : (irqP bit s).safe = s.safe := rfl
@[simp] theorem irqP_pwr (bit : Nat) (s : State) : (irqP bit s).pwr = s.pwr := rfl
@[simp] theorem irqP_sw (bit : Nat) (s : State) : (irqP bit s).sw = s.sw := rfl
@[simp] theorem irqP_team (bit : Nat) (s : State) : (irqP bit s).team = s.team := rfl
@[simp] theorem irqP_em (bit : Nat) (s : State) : (irqP bit s).em = s.em := rfl
@[simp] theorem irqP_pb (bit : Nat) (s : State) : (irqP bit s).pb = s.pb := rfl
@[simp] theorem irqP_rx (bit : Nat) (s : State) : (irqP bit s).rx = s.rx := rfl
@[simp] theorem irqP_mon (bit : Nat) (s : State) : (irqP bit s).mon = s.mon := rfl
@[simp] theorem irqP_smpUp (bit : Nat) (s : State) : (irqP bit s).smpUp = s.smpUp := rfl
@[simp] theorem irqP_cmpDeferred (bit : Nat) (s : State) : (irqP bit s).cmpDeferred = s.cmpDeferred := rfl
@[simp] theorem irqP_bndQ (bit : Nat) (s : State) : (irqP bit s).bndQ = s.bndQ := rfl
@[simp] theorem irqP_rxTile (bit : Nat) (s : State) : (irqP bit s).rxTile = s.rxTile := rfl
@[simp] theorem irqP_tripN (bit : Nat) (s : State) : (irqP bit s).tripN = s.tripN := rfl
@[simp] theorem irqP_chan (bit : Nat) (s : State) : (irqP bit s).chan = s.chan := rfl
@[simp] theorem irqP_tile (bit : Nat) (s : State) : (irqP bit s).tile = s.tile := rfl
@[simp] theorem irqP_eng (bit : Nat) (s : State) : (irqP bit s).eng = s.eng := rfl
@[simp] theorem irqP_track (bit : Nat) (s : State) : (irqP bit s).track = s.track := rfl
@[simp] theorem irqP_pers (bit : Nat) (s : State) : (irqP bit s).pers = s.pers := rfl
@[simp] theorem irqP_cal (bit : Nat) (s : State) : (irqP bit s).cal = s.cal := rfl
@[simp] theorem irqP_fact (bit : Nat) (s : State) : (irqP bit s).fact = s.fact := rfl
@[simp] theorem irqP_tap (bit : Nat) (s : State) : (irqP bit s).tap = s.tap := rfl

/-! ### irqS -/

@[simp] theorem irqS_pending (bit : Nat) (s : State) : (irqS bit s).pending = s.pending := rfl
@[simp] theorem irqS_now (bit : Nat) (s : State) : (irqS bit s).now = s.now := rfl
@[simp] theorem irqS_up (bit : Nat) (s : State) : (irqS bit s).up = s.up := rfl
@[simp] theorem irqS_free (bit : Nat) (s : State) : (irqS bit s).free = s.free := rfl
@[simp] theorem irqS_cfg (bit : Nat) (s : State) : (irqS bit s).cfg = s.cfg := rfl
@[simp] theorem irqS_tb (bit : Nat) (s : State) : (irqS bit s).tb = s.tb := rfl
@[simp] theorem irqS_safe (bit : Nat) (s : State) : (irqS bit s).safe = s.safe := rfl
@[simp] theorem irqS_pwr (bit : Nat) (s : State) : (irqS bit s).pwr = s.pwr := rfl
@[simp] theorem irqS_outq (bit : Nat) (s : State) : (irqS bit s).outq = s.outq := rfl
@[simp] theorem irqS_sw (bit : Nat) (s : State) : (irqS bit s).sw = s.sw := rfl
@[simp] theorem irqS_team (bit : Nat) (s : State) : (irqS bit s).team = s.team := rfl
@[simp] theorem irqS_em (bit : Nat) (s : State) : (irqS bit s).em = s.em := rfl
@[simp] theorem irqS_pb (bit : Nat) (s : State) : (irqS bit s).pb = s.pb := rfl
@[simp] theorem irqS_rx (bit : Nat) (s : State) : (irqS bit s).rx = s.rx := rfl
@[simp] theorem irqS_mon (bit : Nat) (s : State) : (irqS bit s).mon = s.mon := rfl
@[simp] theorem irqS_smpUp (bit : Nat) (s : State) : (irqS bit s).smpUp = s.smpUp := rfl
@[simp] theorem irqS_cmpDeferred (bit : Nat) (s : State) : (irqS bit s).cmpDeferred = s.cmpDeferred := rfl
@[simp] theorem irqS_bndQ (bit : Nat) (s : State) : (irqS bit s).bndQ = s.bndQ := rfl
@[simp] theorem irqS_rxTile (bit : Nat) (s : State) : (irqS bit s).rxTile = s.rxTile := rfl
@[simp] theorem irqS_tripN (bit : Nat) (s : State) : (irqS bit s).tripN = s.tripN := rfl
@[simp] theorem irqS_chan (bit : Nat) (s : State) : (irqS bit s).chan = s.chan := rfl
@[simp] theorem irqS_tile (bit : Nat) (s : State) : (irqS bit s).tile = s.tile := rfl
@[simp] theorem irqS_eng (bit : Nat) (s : State) : (irqS bit s).eng = s.eng := rfl
@[simp] theorem irqS_track (bit : Nat) (s : State) : (irqS bit s).track = s.track := rfl
@[simp] theorem irqS_pers (bit : Nat) (s : State) : (irqS bit s).pers = s.pers := rfl
@[simp] theorem irqS_cal (bit : Nat) (s : State) : (irqS bit s).cal = s.cal := rfl
@[simp] theorem irqS_fact (bit : Nat) (s : State) : (irqS bit s).fact = s.fact := rfl
@[simp] theorem irqS_tap (bit : Nat) (s : State) : (irqS bit s).tap = s.tap := rfl

/-! ### nvmPut -/

@[simp] theorem nvmPut_pending (j : NvmJob) (s : State) :
    (nvmPut j s).pending = s.pending := by simp only [nvmPut, nvmKick]; (repeat' split) <;> rfl
@[simp] theorem nvmPut_now (j : NvmJob) (s : State) :
    (nvmPut j s).now = s.now := by simp only [nvmPut, nvmKick]; (repeat' split) <;> rfl
@[simp] theorem nvmPut_up (j : NvmJob) (s : State) :
    (nvmPut j s).up = s.up := by simp only [nvmPut, nvmKick]; (repeat' split) <;> rfl
@[simp] theorem nvmPut_free (j : NvmJob) (s : State) :
    (nvmPut j s).free = s.free := by simp only [nvmPut, nvmKick]; (repeat' split) <;> rfl
@[simp] theorem nvmPut_cfg (j : NvmJob) (s : State) :
    (nvmPut j s).cfg = s.cfg := by simp only [nvmPut, nvmKick]; (repeat' split) <;> rfl
@[simp] theorem nvmPut_ctl (j : NvmJob) (s : State) :
    (nvmPut j s).ctl = s.ctl := by simp only [nvmPut, nvmKick]; (repeat' split) <;> rfl
@[simp] theorem nvmPut_tb (j : NvmJob) (s : State) :
    (nvmPut j s).tb = s.tb := by simp only [nvmPut, nvmKick]; (repeat' split) <;> rfl
@[simp] theorem nvmPut_safe (j : NvmJob) (s : State) :
    (nvmPut j s).safe = s.safe := by simp only [nvmPut, nvmKick]; (repeat' split) <;> rfl
@[simp] theorem nvmPut_outq (j : NvmJob) (s : State) :
    (nvmPut j s).outq = s.outq := by simp only [nvmPut, nvmKick]; (repeat' split) <;> rfl
@[simp] theorem nvmPut_sw (j : NvmJob) (s : State) :
    (nvmPut j s).sw = s.sw := by simp only [nvmPut, nvmKick]; (repeat' split) <;> rfl
@[simp] theorem nvmPut_team (j : NvmJob) (s : State) :
    (nvmPut j s).team = s.team := by simp only [nvmPut, nvmKick]; (repeat' split) <;> rfl
@[simp] theorem nvmPut_em (j : NvmJob) (s : State) :
    (nvmPut j s).em = s.em := by simp only [nvmPut, nvmKick]; (repeat' split) <;> rfl
@[simp] theorem nvmPut_pb (j : NvmJob) (s : State) :
    (nvmPut j s).pb = s.pb := by simp only [nvmPut, nvmKick]; (repeat' split) <;> rfl
@[simp] theorem nvmPut_rx (j : NvmJob) (s : State) :
    (nvmPut j s).rx = s.rx := by simp only [nvmPut, nvmKick]; (repeat' split) <;> rfl
@[simp] theorem nvmPut_mon (j : NvmJob) (s : State) :
    (nvmPut j s).mon = s.mon := by simp only [nvmPut, nvmKick]; (repeat' split) <;> rfl
@[simp] theorem nvmPut_smpUp (j : NvmJob) (s : State) :
    (nvmPut j s).smpUp = s.smpUp := by simp only [nvmPut, nvmKick]; (repeat' split) <;> rfl
@[simp] theorem nvmPut_cmpDeferred (j : NvmJob) (s : State) :
    (nvmPut j s).cmpDeferred = s.cmpDeferred := by simp only [nvmPut, nvmKick]; (repeat' split) <;> rfl
@[simp] theorem nvmPut_bndQ (j : NvmJob) (s : State) :
    (nvmPut j s).bndQ = s.bndQ := by simp only [nvmPut, nvmKick]; (repeat' split) <;> rfl
@[simp] theorem nvmPut_rxTile (j : NvmJob) (s : State) :
    (nvmPut j s).rxTile = s.rxTile := by simp only [nvmPut, nvmKick]; (repeat' split) <;> rfl
@[simp] theorem nvmPut_tripN (j : NvmJob) (s : State) :
    (nvmPut j s).tripN = s.tripN := by simp only [nvmPut, nvmKick]; (repeat' split) <;> rfl
@[simp] theorem nvmPut_chan (j : NvmJob) (s : State) :
    (nvmPut j s).chan = s.chan := by simp only [nvmPut, nvmKick]; (repeat' split) <;> rfl
@[simp] theorem nvmPut_tile (j : NvmJob) (s : State) :
    (nvmPut j s).tile = s.tile := by simp only [nvmPut, nvmKick]; (repeat' split) <;> rfl
@[simp] theorem nvmPut_eng (j : NvmJob) (s : State) :
    (nvmPut j s).eng = s.eng := by simp only [nvmPut, nvmKick]; (repeat' split) <;> rfl
@[simp] theorem nvmPut_track (j : NvmJob) (s : State) :
    (nvmPut j s).track = s.track := by simp only [nvmPut, nvmKick]; (repeat' split) <;> rfl
@[simp] theorem nvmPut_pers (j : NvmJob) (s : State) :
    (nvmPut j s).pers = s.pers := by simp only [nvmPut, nvmKick]; (repeat' split) <;> rfl
@[simp] theorem nvmPut_cal (j : NvmJob) (s : State) :
    (nvmPut j s).cal = s.cal := by simp only [nvmPut, nvmKick]; (repeat' split) <;> rfl
@[simp] theorem nvmPut_fact (j : NvmJob) (s : State) :
    (nvmPut j s).fact = s.fact := by simp only [nvmPut, nvmKick]; (repeat' split) <;> rfl
@[simp] theorem nvmPut_tap (j : NvmJob) (s : State) :
    (nvmPut j s).tap = s.tap := by simp only [nvmPut, nvmKick]; (repeat' split) <;> rfl

/-! ### Reading an entry after it is changed -/

@[simp] theorem emGet_emUpd_same (i : Nat) (f : EmCh → EmCh) (s : State) : emGet (emUpd i f s) i = f (emGet s i) := by
  simp only [emGet, emUpd, tabGet_tabUpd_same]

theorem emGet_emUpd_other (i j : Nat) (f : EmCh → EmCh) (s : State) (h : j ≠ i) : emGet (emUpd i f s) j = emGet s j := by
  simp only [emGet, emUpd]; exact tabGet_tabUpd_other _ _ _ h

@[simp] theorem rxGet_rxUpd_same (i : Nat) (f : Rx → Rx) (s : State) : rxGet (rxUpd i f s) i = f (rxGet s i) := by
  simp only [rxGet, rxUpd, tabGet_tabUpd_same]

theorem rxGet_rxUpd_other (i j : Nat) (f : Rx → Rx) (s : State) (h : j ≠ i) : rxGet (rxUpd i f s) j = rxGet s j := by
  simp only [rxGet, rxUpd]; exact tabGet_tabUpd_other _ _ _ h

@[simp] theorem monGet_monUpd_same (i : Nat) (f : Mon → Mon) (s : State) : monGet (monUpd i f s) i = f (monGet s i) := by
  simp only [monGet, monUpd, tabGet_tabUpd_same]

theorem monGet_monUpd_other (i j : Nat) (f : Mon → Mon) (s : State) (h : j ≠ i) : monGet (monUpd i f s) j = monGet s j := by
  simp only [monGet, monUpd]; exact tabGet_tabUpd_other _ _ _ h

@[simp] theorem tileGet_tileUpd_same (i : Nat) (f : Tile → Tile) (s : State) : tileGet (tileUpd i f s) i = f (tileGet s i) := by
  simp only [tileGet, tileUpd, tabGet_tabUpd_same]

theorem tileGet_tileUpd_other (i j : Nat) (f : Tile → Tile) (s : State) (h : j ≠ i) : tileGet (tileUpd i f s) j = tileGet s j := by
  simp only [tileGet, tileUpd]; exact tabGet_tabUpd_other _ _ _ h

@[simp] theorem chanGet_chanUpd_same (i : Nat) (f : Chan → Chan) (s : State) : chanGet (chanUpd i f s) i = f (chanGet s i) := by
  simp only [chanGet, chanUpd, tabGet_tabUpd_same]

theorem chanGet_chanUpd_other (i j : Nat) (f : Chan → Chan) (s : State) (h : j ≠ i) : chanGet (chanUpd i f s) j = chanGet s j := by
  simp only [chanGet, chanUpd]; exact tabGet_tabUpd_other _ _ _ h

@[simp] theorem engGet_engUpd_same (i : Nat) (f : Eng → Eng) (s : State) : engGet (engUpd i f s) i = f (engGet s i) := by
  simp only [engGet, engUpd, tabGet_tabUpd_same]

theorem engGet_engUpd_other (i j : Nat) (f : Eng → Eng) (s : State) (h : j ≠ i) : engGet (engUpd i f s) j = engGet s j := by
  simp only [engGet, engUpd]; exact tabGet_tabUpd_other _ _ _ h

@[simp] theorem trackGet_trackUpd_same (i : Nat) (f : Track → Track) (s : State) : trackGet (trackUpd i f s) i = f (trackGet s i) := by
  simp only [trackGet, trackUpd, tabGet_tabUpd_same]

theorem trackGet_trackUpd_other (i j : Nat) (f : Track → Track) (s : State) (h : j ≠ i) : trackGet (trackUpd i f s) j = trackGet s j := by
  simp only [trackGet, trackUpd]; exact tabGet_tabUpd_other _ _ _ h

@[simp] theorem persGet_persUpd_same (i : Nat) (f : Pers → Pers) (s : State) : persGet (persUpd i f s) i = f (persGet s i) := by
  simp only [persGet, persUpd, tabGet_tabUpd_same]

theorem persGet_persUpd_other (i j : Nat) (f : Pers → Pers) (s : State) (h : j ≠ i) : persGet (persUpd i f s) j = persGet s j := by
  simp only [persGet, persUpd]; exact tabGet_tabUpd_other _ _ _ h

@[simp] theorem mbxGet_mbxPut_same (m : Nat) (b : Mbx) (s : State) : mbxGet (mbxPut m b s) m = b := by
  simp only [mbxGet, mbxPut, tabGet_tabSet_same]

theorem mbxGet_mbxPut_other (m k : Nat) (b : Mbx) (s : State) (h : k ≠ m) : mbxGet (mbxPut m b s) k = mbxGet s k := by
  simp only [mbxGet, mbxPut]; exact tabGet_tabSet_other _ _ _ h

end Sys2Proof.Machine
end

