-- ==== Sys2Proof/Laws/Calm.lean ====
section
/-! SUPPORT. What leaves the Umpire as it is: responses, records other than alerts, interrupts and the journal. -/

namespace Sys2Proof.Machine

@[simp] theorem ite_safe (c : Prop) [Decidable c] (x y : State) :
    (if c then x else y).safe = if c then x.safe else y.safe := apply_ite State.safe c x y

@[simp] theorem foldl_safe {α : Type} (f : State → α → State) (h : ∀ a x, (f a x).safe = a.safe) (l : List α)
    (s : State) : (l.foldl f s).safe = s.safe := by
  induction l generalizing s with
  | nil => rfl
  | cons x t ih => simp [ih, h]

@[simp] theorem reach_safe (a) (s : State) : (reach a s).safe = s.safe := by simp [reach]
@[simp] theorem reachUp_safe (a) (s : State) : (reachUp a s).safe = s.safe := by simp [reachUp]
@[simp] theorem drawFree_safe (s : State) : (drawFree s).2.safe = s.safe := by simp [drawFree]
@[simp] theorem drawBool_safe (s : State) : (drawBool s).2.safe = s.safe := by simp [drawBool]
@[simp] theorem irqBoth_safe (a) (s : State) : (irqBoth a s).safe = s.safe := by simp [irqBoth]
@[simp] theorem journal_safe (a) (s : State) : (journal a s).safe = s.safe := by simp [journal]
@[simp] theorem journalDev_safe (a) (s : State) : (journalDev a s).safe = s.safe := by simp [journalDev]
@[simp] theorem journalCmd_safe (a) (b) (c) (s : State) : (journalCmd a b c s).safe = s.safe := by simp [journalCmd]
@[simp] theorem logRec_safe (a) (b) (s : State) : (logRec a b s).safe = s.safe := by simp [logRec]
@[simp] theorem queueIrq_safe (a) (s : State) : (queueIrq a s).safe = s.safe := by simp [queueIrq]
theorem padOut_safe (q) (l : List (Nat × Word)) (s : State) :
    (l.foldl (fun a h => out (.hostWrite q h.1 [h.2]) a) s).safe = s.safe :=
  foldl_safe (fun a (h : Nat × Word) => out (.hostWrite q h.1 [h.2]) a) (fun _ _ => rfl) l s

@[simp] theorem ringPlace_safe (a) (b) (s : State) : (ringPlace a b s).safe = s.safe := by
  simp [ringPlace, padOut_safe]
@[simp] theorem ringWrite_safe (a) (b) (s : State) : (ringWrite a b s).safe = s.safe := by simp [ringWrite]

@[simp] theorem reachSched_safe (a) (b) (s : State) : (reachSched a b s).safe = s.safe := by simp [reachSched]
@[simp] theorem schedScale_safe (a) (s : State) : (schedScale a s).safe = s.safe := by
  simp only [schedScale]; (repeat' split) <;> simp
@[simp] theorem schedBoth_safe (s : State) : (schedBoth s).safe = s.safe := by simp [schedBoth]
@[simp] theorem portDown_safe (a) (s : State) : (portDown a s).safe = s.safe := by simp [portDown]
@[simp] theorem startFrame_safe (a) (b) (c) (s : State) : (startFrame a b c s).safe = s.safe := by
  simp only [startFrame]; split <;> simp
@[simp] theorem resumeFrame_safe (a) (s : State) : (resumeFrame a s).safe = s.safe := by simp [resumeFrame]
@[simp] theorem cutFrame_safe (a) (b) (s : State) : (cutFrame a b s).safe = s.safe := by
  simp only [cutFrame]; (repeat' split) <;> simp
@[simp] theorem holdCut_safe (a) (b) (s : State) : (holdCut a b s).safe = s.safe := by
  simp only [holdCut]; (repeat' split) <;> simp
@[simp] theorem holdFor_safe (a) (s : State) : (holdFor a s).safe = s.safe := by simp only [holdFor]; split <;> simp
@[simp] theorem preemptFrame_safe (a) (b) (s : State) : (preemptFrame a b s).safe = s.safe := by simp [preemptFrame]
@[simp] theorem nextFrame_safe (s : State) (a) (b) : (nextFrame s a b).safe = s.safe := by
  simp only [nextFrame]; (repeat' split) <;> simp
@[simp] theorem portServe_safe (a) (s : State) : (portServe a s).safe = s.safe := by simp [portServe]
@[simp] theorem egressPut_safe (a) (b) (c) (s : State) : (egressPut a b c s).safe = s.safe := by
  simp only [egressPut]; (repeat' split) <;> simp
@[simp] theorem sendDatagram_safe (a) (b) (c) (d) (e) (f) (s : State) : (sendDatagram a b c d e f s).safe = s.safe := by
  simp only [sendDatagram]
  rw [foldl_safe]
  · split <;> simp
  · intro x p
    (repeat' split) <;> simp

@[simp] theorem flushQueue_safe (a) (s : State) : (flushQueue a s).safe = s.safe := by simp [flushQueue]
@[simp] theorem netFrag_safe (a) (b) (s : State) : (netFrag a b s).safe = s.safe := by simp [netFrag]
@[simp] theorem netWrite_safe (a) (b) (c) (s : State) : (netWrite a b c s).safe = s.safe := by simp [netWrite]
@[simp] theorem ringOffer_safe (a) (b) (s : State) : (ringOffer a b s).safe = s.safe := by simp [ringOffer]
@[simp] theorem ringDecide_safe (a) (s : State) : (ringDecide a s).safe = s.safe := by simp [ringDecide]
@[simp] theorem emitRecord_safe (a) (b) (c) (d) (s : State) : (emitRecord a b c d s).safe = s.safe := by
  simp [emitRecord]
@[simp] theorem deliverAlert_safe (a) (b) (c) (s : State) : (deliverAlert a b c s).safe = s.safe := by
  simp [deliverAlert]
@[simp] theorem drainC0_safe (d n) (s : State) : (drainC0 d n s).safe = s.safe := by
  induction n generalizing s with
  | zero => rfl
  | succ n ih => simp only [drainC0]; (repeat' split) <;> simp [ih]

@[simp] theorem nvmKick_safe (s : State) : (nvmKick s).safe = s.safe := by
  simp only [nvmKick]; (repeat' split) <;> simp
@[simp] theorem mirrorStart_safe (s : State) : (mirrorStart s).safe = s.safe := by simp [mirrorStart]
@[simp] theorem mirrorTick_safe (s : State) : (mirrorTick s).safe = s.safe := by simp [mirrorTick]
@[simp] theorem mirrorGo_safe (s : State) : (mirrorGo s).safe = s.safe := by simp [mirrorGo]
@[simp] theorem udpReply_safe (a) (b) (c) (s : State) : (udpReply a b c s).safe = s.safe := by simp [udpReply]
@[simp] theorem respond_safe (a) (b) (c) (d) (e) (f) (s : State) : (respond a b c d e f s).safe = s.safe := by
  simp only [respond]; (repeat' split) <;> simp
@[simp] theorem bgDone_safe (a) (b) (c) (d) (s : State) : (bgDone a b c d s).safe = s.safe := by
  simp only [bgDone]; split <;> simp
@[simp] theorem takeSeq_safe (a) (s : State) : (takeSeq a s).2.safe = s.safe := by simp [takeSeq]
@[simp] theorem refuse_safe (a) (b) (s : State) : (refuse a b s).safe = s.safe := by simp [refuse]
@[simp] theorem answerUnknown_safe (n) (s : State) : (answerUnknown n s).safe = s.safe := by
  induction n generalizing s with
  | zero => rfl
  | succ n ih => simp only [answerUnknown]; (repeat' split) <;> simp [ih]

@[simp] theorem pbClear_safe (s : State) : (pbClear s).safe = s.safe := by unfold pbClear; rfl
@[simp] theorem echoQClear_safe (a) (s : State) : (echoQClear a s).safe = s.safe := by unfold echoQClear; rfl
@[simp] theorem teamClear_safe (s : State) : (teamClear s).safe = s.safe := by simp [teamClear]
@[simp] theorem outPortClear_safe (a) (s : State) : (outPortClear a s).safe = s.safe := by simp [outPortClear]
@[simp] theorem outQClear_safe (a) (s : State) : (outQClear a s).safe = s.safe := by simp [outQClear]
@[simp] theorem outClsClear_safe (s : State) : (outClsClear s).safe = s.safe := by simp [outClsClear]
@[simp] theorem pwrClear_safe (s : State) : (pwrClear s).safe = s.safe := by simp [pwrClear]
@[simp] theorem calClear_safe (s : State) : (calClear s).safe = s.safe := by unfold calClear; rfl
@[simp] theorem sysClear_safe (s : State) : (sysClear s).safe = s.safe := by simp [sysClear]
@[simp] theorem telemRecord_safe (a) (b) (c) (d) (s : State) : (telemRecord a b c d s).safe = s.safe := by
  simp [telemRecord]
@[simp] theorem telemetry_safe (s : State) : (telemetry s).safe = s.safe := by
  simp only [telemetry]; (repeat' split) <;> simp
@[simp] theorem teamState_safe (s0 : State) (s : State) : (teamState s0 s).safe = s.safe := by simp [teamState]
@[simp] theorem txnTouch_safe (a) (b) (s : State) : (txnTouch a b s).safe = s.safe := by
  simp only [txnTouch]; split <;> simp
@[simp] theorem txnClose_safe (a) (b) (c) (s : State) : (txnClose a b c s).safe = s.safe := by simp [txnClose]
@[simp] theorem deny_safe (a) (b) (c) (s : State) : (deny a b c s).safe = s.safe := by simp [deny]
@[simp] theorem stageCmd_safe (a) (b) (c) (s : State) : (stageCmd a b c s).safe = s.safe := by
  simp only [stageCmd]; split <;> simp

end Sys2Proof.Machine
end

