-- ==== Sys2Proof/Laws/Umpire.lean ====
section
/-! SUPPORT. What the end of a step does: nothing to the block where nothing was decided; the safe state where a cause
with that reaction was. -/

namespace Sys2Proof.Machine

/-! ### Reading State.held -/

theorem held_pending {x y : State} (h : x.held = y.held) : x.pending = y.pending := congrArg (fun t => t.1) h
theorem held_fact {x y : State} (h : x.held = y.held) : x.fact = y.fact := congrArg (fun t => t.2.1) h
theorem held_safe {x y : State} (h : x.held = y.held) : x.safe.safe = y.safe.safe := congrArg (fun t => t.2.2.1) h
theorem held_safeN {x y : State} (h : x.held = y.held) : x.safe.safeNLow = y.safe.safeNLow := congrArg (fun t => t.2.2.2.1) h
theorem held_firstCause {x y : State} (h : x.held = y.held) : x.safe.firstCause = y.safe.firstCause :=
  congrArg (fun t => t.2.2.2.2.1) h
theorem held_entries {x y : State} (h : x.held = y.held) : x.safe.entries = y.safe.entries :=
  congrArg (fun t => t.2.2.2.2.2.1) h
theorem held_fwFault {x y : State} (h : x.held = y.held) : x.ctl.fwFault = y.ctl.fwFault :=
  congrArg (fun t => t.2.2.2.2.2.2.1) h
theorem held_mbxReady {x y : State} (h : x.held = y.held) : x.ctl.mbxReady = y.ctl.mbxReady :=
  congrArg (fun t => t.2.2.2.2.2.2.2.1) h
theorem held_inReset {x y : State} (h : x.held = y.held) : x.pwr.inReset = y.pwr.inReset :=
  congrArg (fun t => t.2.2.2.2.2.2.2.2.1) h
theorem held_shut {x y : State} (h : x.held = y.held) : x.pwr.shut = y.pwr.shut :=
  congrArg (fun t => t.2.2.2.2.2.2.2.2.2.1) h
theorem held_io33 {x y : State} (h : x.held = y.held) : x.pwr.io33 = y.pwr.io33 :=
  congrArg (fun t => t.2.2.2.2.2.2.2.2.2.2) h

/-! ### Reactions -/

/-- The controller stops, and nothing else of State.held changes (R386, R387). -/
theorem stopController_held (s : State) : (stopController s).held =
    (s.pending, s.fact, s.safe.safe, s.safe.safeNLow, s.safe.firstCause, s.safe.entries, true,
     (s.ctl.mbxReady && s.ctl.fwFault), s.pwr.inReset, s.pwr.shut, s.pwr.io33) := by
  unfold stopController
  split
  · next h => simp [State.held, h]
  · next h => simp [h]

/-- Entry to the safe state: SAFE, SAFE_N low, FIRST_CAUSE and the count of entries (R380). -/
theorem enterSafe_held (d : Decision) (s : State) : (enterSafe d s).held =
    (s.pending, s.fact, true, true, causeCode d.bit, satAdd 8 s.safe.entries 1, s.ctl.fwFault, s.ctl.mbxReady,
     s.pwr.inReset, s.pwr.shut, s.pwr.io33) := by
  simp [enterSafe]

/-- What dealing with decisions can do to State.held: the safe state is entered or not, or FIRST_CAUSE is lowered in it; the
controller stops or not. -/
structure Reacted (s t : State) : Prop where
  pending : t.pending = s.pending
  fact : t.fact = s.fact
  inReset : t.pwr.inReset = s.pwr.inReset
  shut : t.pwr.shut = s.pwr.shut
  io33 : t.pwr.io33 = s.pwr.io33
  ctl : (t.ctl.fwFault = s.ctl.fwFault ∧ t.ctl.mbxReady = s.ctl.mbxReady) ∨ (t.ctl.fwFault = true ∧ t.ctl.mbxReady = false)
  safe : (t.safe.safe = s.safe.safe ∧ t.safe.safeNLow = s.safe.safeNLow ∧ t.safe.firstCause ≤ s.safe.firstCause
      ∧ t.safe.entries = s.safe.entries)
    ∨ (s.safe.safe = false ∧ t.safe.safe = true ∧ t.safe.safeNLow = true)

theorem Reacted.of_held {s t : State} (h : t.held = s.held) : Reacted s t :=
  ⟨held_pending h, held_fact h, held_inReset h, held_shut h, held_io33 h, .inl ⟨held_fwFault h, held_mbxReady h⟩,
   .inl ⟨held_safe h, held_safeN h, (held_firstCause h).le, held_entries h⟩⟩

theorem Reacted.trans {s t u : State} (a : Reacted s t) (b : Reacted t u) : Reacted s u where
  pending := b.pending.trans a.pending
  fact := b.fact.trans a.fact
  inReset := b.inReset.trans a.inReset
  shut := b.shut.trans a.shut
  io33 := b.io33.trans a.io33
  ctl := by
    rcases b.ctl with ⟨h1, h2⟩ | h
    · rcases a.ctl with ⟨g1, g2⟩ | ⟨g1, g2⟩
      · exact .inl ⟨h1.trans g1, h2.trans g2⟩
      · exact .inr ⟨h1.trans g1, h2.trans g2⟩
    · exact .inr h
  safe := by
    rcases b.safe with ⟨h1, h2, h3, h4⟩ | ⟨h1, h2, h3⟩
    · rcases a.safe with ⟨g1, g2, g3, g4⟩ | ⟨g1, g2, g3⟩
      · exact .inl ⟨h1.trans g1, h2.trans g2, Nat.le_trans h3 g3, h4.trans g4⟩
      · exact .inr ⟨g1, h1.trans g2, h2.trans g3⟩
    · rcases a.safe with ⟨g1, _⟩ | ⟨g1, g2, _⟩
      · exact .inr ⟨g1 ▸ h1, h2, h3⟩
      · rw [g2] at h1; exact absurd h1 (by decide)

theorem stopController_reacted (s : State) : Reacted s (stopController s) := by
  by_cases c : s.ctl.fwFault = true
  · exact .of_held (by simp [stopController, c])
  · have e := stopController_held s
    have f : (stopController s).ctl.mbxReady = false := by
      have g : s.ctl.fwFault = false := by simpa using c
      have m : (stopController s).ctl.mbxReady = (s.ctl.mbxReady && s.ctl.fwFault) := congrArg (fun t => t.2.2.2.2.2.2.2.1) e
      rw [m, g, Bool.and_false]
    exact ⟨congrArg (fun t => t.1) e, congrArg (fun t => t.2.1) e, congrArg (fun t => t.2.2.2.2.2.2.2.2.1) e,
      congrArg (fun t => t.2.2.2.2.2.2.2.2.2.1) e, congrArg (fun t => t.2.2.2.2.2.2.2.2.2.2) e,
      .inr ⟨congrArg (fun t => t.2.2.2.2.2.2.1) e, f⟩,
      .inl ⟨congrArg (fun t => t.2.2.1) e, congrArg (fun t => t.2.2.2.1) e, (congrArg (fun t => t.2.2.2.2.1) e).le,
        congrArg (fun t => t.2.2.2.2.2.1) e⟩⟩

theorem enterSafe_reacted (d : Decision) (s : State) (h : s.safe.safe = false) : Reacted s (enterSafe d s) := by
  have e := enterSafe_held d s
  exact ⟨congrArg (fun t => t.1) e, congrArg (fun t => t.2.1) e, congrArg (fun t => t.2.2.2.2.2.2.2.2.1) e,
    congrArg (fun t => t.2.2.2.2.2.2.2.2.2.1) e, congrArg (fun t => t.2.2.2.2.2.2.2.2.2.2) e,
    .inl ⟨congrArg (fun t => t.2.2.2.2.2.2.1) e, congrArg (fun t => t.2.2.2.2.2.2.2.1) e⟩,
    .inr ⟨h, congrArg (fun t => t.2.2.1) e, congrArg (fun t => t.2.2.2.1) e⟩⟩

/-- The state in which a decision finds the Umpire once SEEN, ACTIVE, the controller and the recorder trigger are done. -/
def noted (d : Decision) (s : State) : State :=
  let s0 := safeUpd (fun u => { u with
      lastCode := causeCode d.bit, decUp := some d.up, seen := u.seen ||| 2 ^ d.bit
      active := if staysActive s d then u.active ||| 2 ^ d.bit else u.active }) s
  let s1 := if d.bit = 6 ∨ d.bit = 7 ∨ (d.bit = 8 ∧ d.obj = 0x420) then stopController s0 else s0
  match namedTile d with
    | some ti => safetyTrig d.at_ ti s1
    | none => s1

theorem react_noted (d : Decision) (s : State) : react d s =
    if d.bit = 18 then sendDecision 4 d (noted d s)
    else if d.bit = 30 then sendDecision 3 d (noted d s)
    else if isSafeCause (noted d s) d && !(noted d s).safe.safe then enterSafe d (noted d s)
    else safetyAlert d (noted d s) := rfl

theorem noted_reacted (d : Decision) (s : State) : Reacted s (noted d s) := by
  have a : ∀ x : State, Reacted x (match namedTile d with
      | some ti => safetyTrig d.at_ ti x
      | none => x) := fun x => .of_held (by split <;> simp)
  unfold noted
  refine .trans ?_ (a _)
  split
  · exact .trans (.of_held (by simp)) (stopController_reacted _)
  · exact .of_held (by simp)

theorem react_reacted (d : Decision) (s : State) : Reacted s (react d s) := by
  rw [react_noted]
  refine .trans (noted_reacted d s) ?_
  split
  · exact .of_held (by simp)
  split
  · exact .of_held (by simp)
  split
  · next h => exact enterSafe_reacted d _ (Bool.not_eq_true' _ ▸ (Bool.and_eq_true _ _ ▸ h).2)
  · exact .of_held (by simp)

theorem reactAll_reacted (n : Nat) (s : State) : Reacted s (reactAll n s) := by
  induction n generalizing s with
  | zero => exact .of_held rfl
  | succ n ih =>
    simp only [reactAll]
    split
    · exact .of_held rfl
    · exact .trans (.trans (.of_held (by simp)) (react_reacted _ _)) (ih _)

theorem firstLower_le (s : State) (n : Nat) (d : Decision) : firstLower s n d ≤ n := by
  unfold firstLower
  split
  · next h =>
    simp only [Bool.and_eq_true, decide_eq_true_eq] at h
    exact h.2.le
  · exact Nat.le_refl n

theorem lowerFirst_le (s : State) (l : List Decision) (n : Nat) : l.foldl (firstLower s) n ≤ n := by
  induction l generalizing n with
  | nil => exact Nat.le_refl n
  | cons d l ih => exact Nat.le_trans (ih _) (firstLower_le s n d)

/-- A FIRST_CAUSE that is no higher, in the safe state, and nothing else of State.held. -/
theorem lowerFirst_reacted (s : State) : Reacted s (lowerFirst s) := by
  unfold lowerFirst
  split
  · exact ⟨rfl, rfl, rfl, rfl, rfl, .inl ⟨rfl, rfl⟩, .inl ⟨rfl, rfl, lowerFirst_le s _ _, rfl⟩⟩
  · exact .of_held rfl

theorem reactDue_reacted (s : State) : Reacted s (reactDue s) := .trans (lowerFirst_reacted s) (reactAll_reacted _ _)

@[simp] theorem monCatch_held (s : State) : (monCatch s).held = s.held := by simp [monCatch]

/-- What the end of a step can do to State.held. -/
theorem settle_reacted (s0 s : State) : Reacted s (settle s0 s) := by
  unfold settle
  refine .trans (.trans (.of_held ((xing5_held _).trans ((coastEnds_held s0 _).trans (monCatch_held s)))) (reactDue_reacted _))
    (.of_held ?_)
  simp

/-! ### Nothing decided -/

theorem monCatch_quiet (s : State) (h : s.safe.todo = []) : monCatch s = s := by simp [monCatch, h]

theorem sortBy_nil {α : Type} (k : α → Nat) : sortBy k ([] : List α) = [] := rfl

theorem reactAll_quiet (n : Nat) (s : State) (h : s.safe.todo = []) : reactAll n s = s := by
  cases n with
  | zero => rfl
  | succ n => simp [reactAll, h, sortBy_nil]

theorem lowerFirst_quiet (s : State) (h : s.safe.todo = []) : lowerFirst s = s := by
  unfold lowerFirst
  split
  · have e : s.safe.todo.foldl (firstLower s) s.safe.firstCause = s.safe.firstCause := by rw [h]; rfl
    unfold safeUpd
    dsimp only
    rw [e]
  · rfl

theorem reactDue_quiet (s : State) (h : s.safe.todo = []) : reactDue s = s := by
  unfold reactDue; rw [lowerFirst_quiet s h]; exact reactAll_quiet _ s h

theorem xing5_quiet (s : State) (h : s.safe.todo = []) : xing5 s = s := by simp [xing5, h]

theorem coastEnds_quiet (s0 s : State) (h : s.tb.coast = true → s0.tb.coast = true) : coastEnds s0 s = s := by
  unfold coastEnds
  split
  · next c =>
    rw [Bool.and_eq_true] at c
    have := h c.2
    simp [this] at c
  · rfl

/-- Where nothing was decided and no coast began, the end of a step leaves every part of the block but the control unit,
the output queues, the switch, the Umpire and the MRAM page writes under way. -/
theorem settle_block (s0 s : State) (h : s.safe.todo = []) (c : s.tb.coast = true → s0.tb.coast = true) :
    (settle s0 s).block = s.block := by
  unfold settle
  rw [monCatch_quiet s h, coastEnds_quiet s0 s c, xing5_quiet s h, reactDue_quiet s h]
  simp

@[simp] theorem causeGone_todo (b) (s : State) : (causeGone b s).safe.todo = s.safe.todo := by
  unfold causeGone; split <;> rfl

theorem settle_todo (s0 s : State) (h : s.safe.todo = []) (c : s.tb.coast = true → s0.tb.coast = true) :
    (settle s0 s).safe.todo = [] := by
  unfold settle
  rw [monCatch_quiet s h, coastEnds_quiet s0 s c, xing5_quiet s h, reactDue_quiet s h]
  simp only [telemetry_safe, answerUnknown_safe, mirrorGo_safe, teamState_safe, causesGone, mergeGone, bootGone]
  (repeat' split) <;> simp [h]

theorem settle_held_quiet (s0 s : State) (h : s.safe.todo = []) (c : s.tb.coast = true → s0.tb.coast = true) :
    (settle s0 s).held = s.held := by
  unfold settle
  rw [monCatch_quiet s h, coastEnds_quiet s0 s c, xing5_quiet s h, reactDue_quiet s h]
  simp

end Sys2Proof.Machine
end

