-- ==== Sys2Proof/Laws/Begin.lean ====
section
/-! SUPPORT. What stands around a meaning: the time before a command, and whether the block acts on it. -/

namespace Sys2Proof.Machine

@[simp] theorem elapse_held (dt : Nat) (s : State) : (elapse dt s).held = s.held := by
  unfold elapse; rw [passTime_held]; cases s; rfl

/-- What the time before a command can do to State.held: dealing with what was decided in it. -/
theorem begin_reacted (dt : Nat) (s : State) : Reacted s (begin_ dt s) := by
  unfold begin_
  simp only []
  split
  · exact .of_held (elapse_held dt s)
  · exact .trans (.of_held ((xing5_held _).trans ((dueNow_held _).trans (elapse_held dt s)))) (reactDue_reacted _)

theorem begin_inReset (dt : Nat) (s : State) : (begin_ dt s).pwr.inReset = s.pwr.inReset := (begin_reacted dt s).inReset
theorem begin_shut (dt : Nat) (s : State) : (begin_ dt s).pwr.shut = s.pwr.shut := (begin_reacted dt s).shut

/-- A block that is held or shut down lets time pass before a command, and no more. -/
theorem begin_off (dt : Nat) (s : State) (h : s.on = false) : begin_ dt s = elapse dt s := by
  have g : ((elapse dt s).pwr.inReset || (elapse dt s).pwr.shut) = true := by
    rw [held_inReset (elapse_held dt s), held_shut (elapse_held dt s)]
    unfold State.on at h
    revert h; cases s.pwr.inReset <;> cases s.pwr.shut <;> simp
  simp [begin_, g]

/-- A meaning that acts while the block is on. -/
theorem doneOn_on {dt : Nat} {f : State → State} {s b : State} (h : At dt s b) : doneOn dt f s = .next (settle s (f b)) := by
  obtain ⟨h, rfl⟩ := h
  unfold State.on at h
  rw [Bool.and_eq_true, Bool.not_eq_true', Bool.not_eq_true'] at h
  simp [doneOn, done, begin_inReset, begin_shut, h.1, h.2]

/-- A meaning that acts also in reset and shutdown. -/
theorem done_any {dt : Nat} {f : State → State} {s b : State} (h : AtAny dt s b) : done dt f s = .next (settle s (f b)) := by
  cases h; rfl

/-- A meaning of a block that is held or shut down does nothing but let time pass. -/
theorem doneOn_off {dt : Nat} {f : State → State} {s : State} (h : s.on = false) :
    doneOn dt f s = .next (settle s (begin_ dt s)) := by
  unfold State.on at h
  have g : ((begin_ dt s).pwr.inReset || (begin_ dt s).pwr.shut) = true := by
    rw [begin_inReset, begin_shut]; revert h; cases s.pwr.inReset <;> cases s.pwr.shut <;> simp
  simp [doneOn, done, g]

end Sys2Proof.Machine
end

