-- ==== Sys2Proof/Laws/Host.lean ====
section
/-! SUPPORT. What taking a command comes to: passed over, refused with its answer alone, or its effect and its answer. -/

namespace Sys2Proof.Machine

theorem takeSeq_fst (m : Nat) (s : State) : (takeSeq m s).1 = s.ctl.seq := rfl

theorem cmdOf_mbx (s : State) (m : Nat) : (cmdOf s m).mbx = m := rfl

/-- A command that is not next, or has another opcode, is not taken (R294). -/
theorem take_other {m op : Nat} {f : Cmd → Nat → State → State} {b : State}
    (h : nextMbx b ≠ some m ∨ (cmdOf b m).opcode ≠ op) : take m op f b = b := by
  unfold take
  rw [if_neg (by intro c; rcases h with h | h; exacts [h c.1, h c.2])]

/-- A command that is next is taken with the SEQ that stands (R296). -/
theorem take_next {m op : Nat} {f : Cmd → Nat → State → State} {b : State}
    (h : nextMbx b = some m) (o : (cmdOf b m).opcode = op) : take m op f b = f (cmdOf b m) b.ctl.seq (taken m b) := by
  unfold take
  rw [if_pos ⟨h, o⟩]; rfl

theorem passes_iff {m op : Nat} {row : State → Cmd → Row} {b : State} : passes m op row b = true ↔
    nextMbx b = some m ∧ (cmdOf b m).opcode = op
      ∧ headStatus (taken m b) (cmdOf b m) (row (taken m b) (cmdOf b m)) = stOk := by
  unfold passes; simp [and_assoc]

/-- An action that is not refused (R303): its effect, its journal entry where it writes, its answer. -/
theorem runAct_ok {m op : Nat} {row dev eff} {b : State} (p : passes m op row b = true)
    (d : dev (taken m b) (cmdOf b m) = stOk) : runAct m op row dev eff b =
      answered m b (eff (cmdOf b m) (taken m b)).1
        (if writesState (cmdOf b m) then
          journalCmd 0 (if isIdle (taken m b) then 4 else 0) ((cmdOf b m).toRec b.ctl.seq) (eff (cmdOf b m) (taken m b)).2
         else (eff (cmdOf b m) (taken m b)).2) := by
  obtain ⟨h, o, r⟩ := passes_iff.mp p
  unfold runAct
  rw [take_next h o, r, d]
  rfl

/-- A background command that is not refused (R298). -/
theorem runBg_ok {m op : Nat} {row dev start} {b : State} (p : passes m op row b = true)
    (d : dev (taken m b) (cmdOf b m) = stOk) (g : bgBusy (taken m b) (groupOf op) = false) :
    runBg m op row dev start b = start (cmdOf b m) (started m b) := by
  obtain ⟨h, o, r⟩ := passes_iff.mp p
  unfold runBg started
  rw [take_next h o, r, d]
  simp [g, o]

/-- A meaning that acts, once its function is known on the block at that moment. -/
theorem doneOn_to {dt : Nat} {f : State → State} {s b x : State} (h : At dt s b) (e : f b = x) :
    doneOn dt f s = .next (settle s x) := by rw [doneOn_on h, e]

/-- The same of a meaning that acts in reset too. -/
theorem done_to {dt : Nat} {f : State → State} {s b x : State} (h : AtAny dt s b) (e : f b = x) :
    done dt f s = .next (settle s x) := by rw [done_any h, e]

/-- An action that writes and is not refused. -/
theorem runAct_acked {m op : Nat} {row dev eff} {b : State} (p : passes m op row b = true)
    (d : dev (taken m b) (cmdOf b m) = stOk)
    (w : (decide (1 ≤ op % 256) && decide (op % 256 < 64)
      || decide (64 ≤ op % 256) && decide (op % 256 < 96) && !readOps.contains op) = true) :
    runAct m op row dev eff b = acked m b (eff (cmdOf b m) (taken m b)).1 (eff (cmdOf b m) (taken m b)).2 := by
  obtain ⟨_, o, _⟩ := passes_iff.mp p
  rw [runAct_ok p d, if_pos (by unfold writesState; simp only [o, w, Bool.true_or])]; rfl

/-- An action that reads and is not refused. -/
theorem runAct_read {m op : Nat} {row dev eff} {b : State} (p : passes m op row b = true)
    (d : dev (taken m b) (cmdOf b m) = stOk) (w : readOps.contains op = true) (r : 64 ≤ op % 256 ∧ op % 256 < 96) :
    runAct m op row dev eff b = answered m b (eff (cmdOf b m) (taken m b)).1 (eff (cmdOf b m) (taken m b)).2 := by
  obtain ⟨_, o, _⟩ := passes_iff.mp p
  have q : writesState (cmdOf b m) = false := by
    unfold writesState; simp only [o, w]; simp; omega
  rw [runAct_ok p d, q]; rfl

/-- An action that the device's state refuses. -/
theorem runAct_refused {m op : Nat} {row dev eff} {b : State} {st : Nat} (p : passes m op row b = true)
    (d : dev (taken m b) (cmdOf b m) = st) (w : st ≠ stOk) :
    runAct m op row dev eff b = respond m st false false b.ctl.seq [] (taken m b) := by
  obtain ⟨h, o, r⟩ := passes_iff.mp p
  unfold runAct; rw [take_next h o]; simp [r, d, w, deny, cmdOf_mbx]

/-- A background command that the device's state refuses. -/
theorem runBg_refused {m op : Nat} {row dev start} {b : State} {st : Nat} (p : passes m op row b = true)
    (d : dev (taken m b) (cmdOf b m) = st) (w : st ≠ stOk) (g : st = stIncons → bgBusy (taken m b) (groupOf op) = false) :
    runBg m op row dev start b = respond m st false false b.ctl.seq [] (taken m b) := by
  obtain ⟨h, o, r⟩ := passes_iff.mp p
  unfold runBg; rw [take_next h o]
  by_cases i : st = stIncons
  · subst i; simp [r, d, w, g rfl, deny, cmdOf_mbx]
  · simp [r, d, w, i, deny, cmdOf_mbx]

/-- A background command beside one of its group (R298). -/
theorem runBg_busy {m op : Nat} {row dev start} {b : State} (p : passes m op row b = true)
    (d : dev (taken m b) (cmdOf b m) = stOk ∨ dev (taken m b) (cmdOf b m) = stIncons)
    (g : bgBusy (taken m b) (groupOf op) = true) :
    runBg m op row dev start b = respond m stNoRes false false b.ctl.seq [] (taken m b) := by
  obtain ⟨h, o, r⟩ := passes_iff.mp p
  unfold runBg; rw [take_next h o]
  rcases d with d | d <;> simp [r, d, g, deny, cmdOf_mbx]

/-! ### OUT_OF_RANGE (R295) -/

theorem headStatus_range {s : State} {c : Cmd} {r : Row} (h : headStatus s c r = stOk) :
    headStatus s c { r with range := false } = stRange := by
  unfold headStatus at h ⊢
  split at h
  · exact absurd h (by decide)
  next g1 =>
  split at h
  · exact absurd h (by decide)
  next g2 =>
  split at h
  · exact absurd h (by decide)
  next g3 =>
  split at h
  · exact absurd h (by decide)
  next g4 =>
  rw [if_neg g1, if_neg g2, if_neg g3, if_neg g4]; rfl

/-- A command that passes the checks of its row but for a further one of range. -/
theorem runAct_range {m op : Nat} {row row' dev eff} {b : State} (p : passes m op row b = true)
    (e : row' (taken m b) (cmdOf b m) = { row (taken m b) (cmdOf b m) with range := false }) :
    runAct m op row' dev eff b = respond m stRange false false b.ctl.seq [] (taken m b) := by
  obtain ⟨h, o, r⟩ := passes_iff.mp p
  unfold runAct; rw [take_next h o]; simp only [e, headStatus_range r]; rfl

theorem runBg_range {m op : Nat} {row row' dev start} {b : State} (p : passes m op row b = true)
    (e : row' (taken m b) (cmdOf b m) = { row (taken m b) (cmdOf b m) with range := false }) :
    runBg m op row' dev start b = respond m stRange false false b.ctl.seq [] (taken m b) := by
  obtain ⟨h, o, r⟩ := passes_iff.mp p
  unfold runBg; rw [take_next h o]; simp only [e, headStatus_range r]; rfl

/-- A status command without CLEAR. -/
theorem runStat_ok {m op : Nat} {row words clear} {b : State} (p : passes m op row b = true) (w : 96 ≤ op % 256)
    (n : (cmdOf b m).clear = false) :
    runStat m op row words clear b = answered m b (words (cmdOf b m) (taken m b)) (taken m b) := by
  obtain ⟨_, o, _⟩ := passes_iff.mp p
  have q : writesState (cmdOf b m) = false := by
    unfold writesState; simp only [o, n]; simp; omega
  unfold runStat
  rw [runAct_ok p rfl, q]; simp [n]

/-- A status command with CLEAR. -/
theorem runStat_clear {m op : Nat} {row words clear} {b : State} (p : passes m op row b = true)
    (w : 96 ≤ op % 256 ∧ op % 256 < 128) (n : (cmdOf b m).clear = true) :
    runStat m op row words clear b = acked m b (words (cmdOf b m) (taken m b)) (clear (cmdOf b m) (taken m b)) := by
  obtain ⟨_, o, _⟩ := passes_iff.mp p
  have q : writesState (cmdOf b m) = true := by
    unfold writesState; simp only [o, n]; simp; omega
  unfold runStat
  rw [runAct_ok p rfl, q]; simp [n, acked]

/-! ### BAD_LENGTH (R322) -/

theorem headStatus_length {s : State} {c : Cmd} {r : Row} (h : lenForm c = false) : headStatus s c r = stBadLength := by
  unfold headStatus; simp [h]

section
variable {m op : Nat} {b : State} (n : nextMbx b = some m) (o : (cmdOf b m).opcode = op)
include n o

theorem take_length {f : Cmd → Nat → State → State}
    (h : ∀ k x, f (cmdOf b m) k x = respond m stBadLength false false k [] x) :
    take m op f b = respond m stBadLength false false b.ctl.seq [] (taken m b) := by rw [take_next n o, h]

variable (l : lenForm (cmdOf b m) = false)
include l

theorem runAct_length {row dev eff} :
    runAct m op row dev eff b = respond m stBadLength false false b.ctl.seq [] (taken m b) := by
  unfold runAct; apply take_length n o; intro k x; simp only [headStatus_length l]; rfl
theorem runStat_length {row words clear} :
    runStat m op row words clear b = respond m stBadLength false false b.ctl.seq [] (taken m b) := runAct_length n o l
theorem runBg_length {row dev start} :
    runBg m op row dev start b = respond m stBadLength false false b.ctl.seq [] (taken m b) := by
  unfold runBg; apply take_length n o; intro k x; simp only [headStatus_length l]; rfl
theorem runStage_length {row ops eff} :
    runStage m op row ops eff b = respond m stBadLength false false b.ctl.seq [] (taken m b) := by
  unfold runStage; apply take_length n o; intro k x; simp only [headStatus_length l]; rfl
theorem runCfg_length : runCfg m op b = respond m stBadLength false false b.ctl.seq [] (taken m b) := by
  unfold runCfg; apply take_length n o; intro k x; simp only [headStatus_length l]; split <;> rfl
theorem runGet_length : runGet m op b = respond m stBadLength false false b.ctl.seq [] (taken m b) := by
  unfold runGet; apply take_length n o; intro k x; simp only [headStatus_length l]; split <;> rfl
end

end Sys2Proof.Machine
end

