-- ==== Sys2Proof/Laws/Exec.lean ====
section
/-! SUPPORT. Every command but those that power, reset, stop or clear the block: its own effect keeps what `held` names, so
that only the end of the step may change it. -/

namespace Sys2Proof.Machine

/-- A function of the state keeps the waiting commands, the factory partition, the safe state and what runs. -/
def KeepsHeld (f : State → State) : Prop := ∀ x, (f x).held = x.held

theorem execBootImageVerified_held {dt responds ok s t} (h : execBootImageVerified dt responds ok s = .next t) :
    ∃ f, KeepsHeld f ∧ doneOn dt f s = .next t := by
  unfold execBootImageVerified at h
  refine ⟨_, ?_, h⟩
  intro x; simp

theorem execFactoryCheckDone_held {dt misread s t} (h : execFactoryCheckDone dt misread s = .next t) :
    ∃ f, KeepsHeld f ∧ doneOn dt f s = .next t := by
  unfold execFactoryCheckDone at h
  refine ⟨_, ?_, h⟩
  intro x; dsimp only; (repeat' split) <;> simp

theorem execLpddr5Trained_held {dt ok mib s t} (h : execLpddr5Trained dt ok mib s = .next t) :
    ∃ f, KeepsHeld f ∧ doneOn dt f s = .next t := by
  unfold execLpddr5Trained at h
  refine ⟨_, ?_, h⟩
  intro x; simp

theorem execLockWindowEnd_held {dt pll count phase loop s t}
    (h : execLockWindowEnd dt pll count phase loop s = .next t) :
    ∃ f, KeepsHeld f ∧ doneOn dt f s = .next t := by
  unfold execLockWindowEnd at h
  refine ⟨_, ?_, h⟩
  intro x; simp

theorem execBandSearchDone_held {dt band loop s t} (h : execBandSearchDone dt band loop s = .next t) :
    ∃ f, KeepsHeld f ∧ doneOn dt f s = .next t := by
  unfold execBandSearchDone at h
  refine ⟨_, ?_, h⟩
  intro x; simp

theorem execRefPresent_held {dt s t} (h : execRefPresent dt s = .next t) :
    ∃ f, KeepsHeld f ∧ doneOn dt f s = .next t := by
  unfold execRefPresent at h
  refine ⟨_, ?_, h⟩
  intro x; simp

theorem execRefLoss_held {dt gap s t} (h : execRefLoss dt gap s = .next t) :
    ∃ f, KeepsHeld f ∧ doneOn dt f s = .next t := by
  unfold execRefLoss at h
  refine ⟨_, ?_, h⟩
  intro x; simp

theorem execTpllReacqTimeout_held {dt s t} (h : execTpllReacqTimeout dt s = .next t) :
    ∃ f, KeepsHeld f ∧ doneOn dt f s = .next t := by
  unfold execTpllReacqTimeout at h
  refine ⟨_, ?_, h⟩
  intro x; simp

theorem execFreqCheckWindow_held {dt count s t} (h : execFreqCheckWindow dt count s = .next t) :
    ∃ f, KeepsHeld f ∧ doneOn dt f s = .next t := by
  unfold execFreqCheckWindow at h
  refine ⟨_, ?_, h⟩
  intro x; simp

theorem execAonPeriod_held {dt period s t} (h : execAonPeriod dt period s = .next t) :
    ∃ f, KeepsHeld f ∧ doneOn dt f s = .next t := by
  unfold execAonPeriod at h
  refine ⟨_, ?_, h⟩
  intro x; simp

theorem execAonFreqCheck_held {dt count s t} (h : execAonFreqCheck dt count s = .next t) :
    ∃ f, KeepsHeld f ∧ doneOn dt f s = .next t := by
  unfold execAonFreqCheck at h
  refine ⟨_, ?_, h⟩
  intro x; simp

theorem execAonEdgeTimeout_held {dt s t} (h : execAonEdgeTimeout dt s = .next t) :
    ∃ f, KeepsHeld f ∧ doneOn dt f s = .next t := by
  unfold execAonEdgeTimeout at h
  refine ⟨_, ?_, h⟩
  intro x; simp

theorem execHoldoverExpire_held {dt s t} (h : execHoldoverExpire dt s = .next t) :
    ∃ f, KeepsHeld f ∧ doneOn dt f s = .next t := by
  unfold execHoldoverExpire at h
  refine ⟨_, ?_, h⟩
  intro x; dsimp only; split <;> simp

theorem execPhaseJump_held {dt delta s t} (h : execPhaseJump dt delta s = .next t) :
    ∃ f, KeepsHeld f ∧ doneOn dt f s = .next t := by
  unfold execPhaseJump at h
  refine ⟨_, ?_, h⟩
  intro x; simp

theorem execSsTransfer_held {dt s t} (h : execSsTransfer dt s = .next t) :
    ∃ f, KeepsHeld f ∧ doneOn dt f s = .next t := by
  unfold execSsTransfer at h
  refine ⟨_, ?_, h⟩
  intro x; simp

theorem execSdRefclkLoss_held {dt s t} (h : execSdRefclkLoss dt s = .next t) :
    ∃ f, KeepsHeld f ∧ doneOn dt f s = .next t := by
  unfold execSdRefclkLoss at h
  refine ⟨_, ?_, h⟩
  intro x; simp

theorem execHuddleIn_held {dt s t} (h : execHuddleIn dt s = .next t) :
    ∃ f, KeepsHeld f ∧ doneOn dt f s = .next t := by
  unfold execHuddleIn at h
  refine ⟨_, ?_, h⟩
  intro x; simp

theorem execHuddleOutDrive_held {dt s t} (h : execHuddleOutDrive dt s = .next t) :
    ∃ f, KeepsHeld f ∧ doneOn dt f s = .next t := by
  unfold execHuddleOutDrive at h
  refine ⟨_, ?_, h⟩
  intro x; simp

theorem execQuietIntervalStart_held {dt frame s t} (h : execQuietIntervalStart dt frame s = .next t) :
    ∃ f, KeepsHeld f ∧ doneOn dt f s = .next t := by
  unfold execQuietIntervalStart at h
  refine ⟨_, ?_, h⟩
  intro x; simp

theorem execCalStandbyLoaded_held {dt s t} (h : execCalStandbyLoaded dt s = .next t) :
    ∃ f, KeepsHeld f ∧ doneOn dt f s = .next t := by
  unfold execCalStandbyLoaded at h
  refine ⟨_, ?_, h⟩
  intro x; simp

theorem execCalStaleTimeout_held {dt s t} (h : execCalStaleTimeout dt s = .next t) :
    ∃ f, KeepsHeld f ∧ doneOn dt f s = .next t := by
  unfold execCalStaleTimeout at h
  refine ⟨_, ?_, h⟩
  intro x; simp

theorem execRxSettleDone_held {dt ch above s t} (h : execRxSettleDone dt ch above s = .next t) :
    ∃ f, KeepsHeld f ∧ doneOn dt f s = .next t := by
  unfold execRxSettleDone at h
  refine ⟨_, ?_, h⟩
  intro x; simp

theorem execDescFetch_held {dt s t} (h : execDescFetch dt s = .next t) :
    ∃ f, KeepsHeld f ∧ doneOn dt f s = .next t := by
  unfold execDescFetch at h
  refine ⟨_, ?_, h⟩
  intro x; simp

theorem execShotExpand_held {dt s t} (h : execShotExpand dt s = .next t) :
    ∃ f, KeepsHeld f ∧ doneOn dt f s = .next t := by
  unfold execShotExpand at h
  refine ⟨_, ?_, h⟩
  intro x; simp

theorem execSegmentDecisionPoint_held {dt s t} (h : execSegmentDecisionPoint dt s = .next t) :
    ∃ f, KeepsHeld f ∧ doneOn dt f s = .next t := by
  unfold execSegmentDecisionPoint at h
  refine ⟨_, ?_, h⟩
  intro x; simp

theorem execPbHalt_held {dt s t} (h : execPbHalt dt s = .next t) :
    ∃ f, KeepsHeld f ∧ doneOn dt f s = .next t := by
  unfold execPbHalt at h
  refine ⟨_, ?_, h⟩
  intro x; simp

theorem execShotClockEvent_held {dt s t} (h : execShotClockEvent dt s = .next t) :
    ∃ f, KeepsHeld f ∧ doneOn dt f s = .next t := by
  unfold execShotClockEvent at h
  refine ⟨_, ?_, h⟩
  intro x; simp

theorem execMp0Edge_held {dt mp1 s t} (h : execMp0Edge dt mp1 s = .next t) :
    ∃ f, KeepsHeld f ∧ doneOn dt f s = .next t := by
  unfold execMp0Edge at h
  refine ⟨_, ?_, h⟩
  intro x; simp

theorem execMirrorEdgeTimeout_held {dt s t} (h : execMirrorEdgeTimeout dt s = .next t) :
    ∃ f, KeepsHeld f ∧ doneOn dt f s = .next t := by
  unfold execMirrorEdgeTimeout at h
  refine ⟨_, ?_, h⟩
  intro x; simp

theorem execSteerUpdateEdge_held {dt link s t} (h : execSteerUpdateEdge dt link s = .next t) :
    ∃ f, KeepsHeld f ∧ doneOn dt f s = .next t := by
  unfold execSteerUpdateEdge at h
  refine ⟨_, ?_, h⟩
  intro x; simp

theorem execShotOrigin_held {dt tile s t} (h : execShotOrigin dt tile s = .next t) :
    ∃ f, KeepsHeld f ∧ doneOn dt f s = .next t := by
  unfold execShotOrigin at h
  refine ⟨_, ?_, h⟩
  intro x; simp

theorem execPostWindowEnd_held {dt tile s t} (h : execPostWindowEnd dt tile s = .next t) :
    ∃ f, KeepsHeld f ∧ doneOn dt f s = .next t := by
  unfold execPostWindowEnd at h
  refine ⟨_, ?_, h⟩
  intro x; simp

theorem execRearm_held {dt tile s t} (h : execRearm dt tile s = .next t) :
    ∃ f, KeepsHeld f ∧ doneOn dt f s = .next t := by
  unfold execRearm at h
  refine ⟨_, ?_, h⟩
  intro x; simp

theorem execStreamDmaFetch_held {dt entries s t} (h : execStreamDmaFetch dt entries s = .next t) :
    ∃ f, KeepsHeld f ∧ doneOn dt f s = .next t := by
  unfold execStreamDmaFetch at h
  refine ⟨_, ?_, h⟩
  intro x; simp

theorem execStreamDatagram_held {dt rx head entries s t}
    (h : execStreamDatagram dt rx head entries s = .next t) :
    ∃ f, KeepsHeld f ∧ doneOn dt f s = .next t := by
  unfold execStreamDatagram at h
  refine ⟨_, ?_, h⟩
  intro x; dsimp only; split
  · exact datagramRx_held _ _ _ _ (fun y => by simp) x
  · rfl

theorem execVolleyOffer_held {dt ch s t} (h : execVolleyOffer dt ch s = .next t) :
    ∃ f, KeepsHeld f ∧ doneOn dt f s = .next t := by
  unfold execVolleyOffer at h
  refine ⟨_, ?_, h⟩
  intro x; simp

theorem execAccountantBucket_held {dt ch window s t} (h : execAccountantBucket dt ch window s = .next t) :
    ∃ f, KeepsHeld f ∧ doneOn dt f s = .next t := by
  unfold execAccountantBucket at h
  refine ⟨_, ?_, h⟩
  intro x; simp

theorem execEdgeLaunch_held {dt ch s t} (h : execEdgeLaunch dt ch s = .next t) :
    ∃ f, KeepsHeld f ∧ doneOn dt f s = .next t := by
  unfold execEdgeLaunch at h
  refine ⟨_, ?_, h⟩
  intro x; simp

theorem execLoopbackCheck_held {dt ch rise seen s t} (h : execLoopbackCheck dt ch rise seen s = .next t) :
    ∃ f, KeepsHeld f ∧ doneOn dt f s = .next t := by
  unfold execLoopbackCheck at h
  refine ⟨_, ?_, h⟩
  intro x; simp

theorem execDriverBiasSettled_held {dt ch s t} (h : execDriverBiasSettled dt ch s = .next t) :
    ∃ f, KeepsHeld f ∧ doneOn dt f s = .next t := by
  unfold execDriverBiasSettled at h
  refine ⟨_, ?_, h⟩
  intro x; simp

theorem execTripNAssert_held {dt pin low s t} (h : execTripNAssert dt pin low s = .next t) :
    ∃ f, KeepsHeld f ∧ done dt f s = .next t := by
  unfold execTripNAssert at h
  refine ⟨_, ?_, h⟩
  intro x; simp

theorem execMcOutputChange_held {dt m hi lo s t} (h : execMcOutputChange dt m hi lo s = .next t) :
    ∃ f, KeepsHeld f ∧ doneOn dt f s = .next t := by
  unfold execMcOutputChange at h
  refine ⟨_, ?_, h⟩
  intro x; simp

theorem execMcBlankEnd_held {dt m s t} (h : execMcBlankEnd dt m s = .next t) :
    ∃ f, KeepsHeld f ∧ doneOn dt f s = .next t := by
  unfold execMcBlankEnd at h
  refine ⟨_, ?_, h⟩
  intro x; simp

theorem execMcHoldEnd_held {dt m s t} (h : execMcHoldEnd dt m s = .next t) :
    ∃ f, KeepsHeld f ∧ doneOn dt f s = .next t := by
  unfold execMcHoldEnd at h
  refine ⟨_, ?_, h⟩
  intro x; simp

theorem execMcResolveSample_held {dt m hi lo s t} (h : execMcResolveSample dt m hi lo s = .next t) :
    ∃ f, KeepsHeld f ∧ doneOn dt f s = .next t := by
  unfold execMcResolveSample at h
  refine ⟨_, ?_, h⟩
  intro x; simp

theorem execMonitorUnresolved_held {dt m s t} (h : execMonitorUnresolved dt m s = .next t) :
    ∃ f, KeepsHeld f ∧ doneOn dt f s = .next t := by
  unfold execMonitorUnresolved at h
  refine ⟨_, ?_, h⟩
  intro x; simp

theorem execRxEvent_held {dt ch cycle code high ecc s t} (h : execRxEvent dt ch cycle code high ecc s = .next t) :
    ∃ f, KeepsHeld f ∧ doneOn dt f s = .next t := by
  unfold execRxEvent at h
  refine ⟨_, ?_, h⟩
  intro x; simp

theorem execPileLostEvent_held {dt ch s t} (h : execPileLostEvent dt ch s = .next t) :
    ∃ f, KeepsHeld f ∧ doneOn dt f s = .next t := by
  unfold execPileLostEvent at h
  refine ⟨_, ?_, h⟩
  intro x; simp

theorem execRecEpochMarker_held {dt tile s t} (h : execRecEpochMarker dt tile s = .next t) :
    ∃ f, KeepsHeld f ∧ doneOn dt f s = .next t := by
  unfold execRecEpochMarker at h
  refine ⟨_, ?_, h⟩
  intro x; simp

theorem execRecHoldEnd_held {dt tile s t} (h : execRecHoldEnd dt tile s = .next t) :
    ∃ f, KeepsHeld f ∧ doneOn dt f s = .next t := by
  unfold execRecHoldEnd at h
  refine ⟨_, ?_, h⟩
  intro x; simp

theorem execTrigInEdge_held {dt pin s t} (h : execTrigInEdge dt pin s = .next t) :
    ∃ f, KeepsHeld f ∧ doneOn dt f s = .next t := by
  unfold execTrigInEdge at h
  refine ⟨_, ?_, h⟩
  intro x; simp

theorem execRecPostTimeout_held {dt tile s t} (h : execRecPostTimeout dt tile s = .next t) :
    ∃ f, KeepsHeld f ∧ doneOn dt f s = .next t := by
  unfold execRecPostTimeout at h
  refine ⟨_, ?_, h⟩
  intro x; simp

theorem execRecReadoutDone_held {dt tile s t} (h : execRecReadoutDone dt tile s = .next t) :
    ∃ f, KeepsHeld f ∧ doneOn dt f s = .next t := by
  unfold execRecReadoutDone at h
  refine ⟨_, ?_, h⟩
  intro x; simp

theorem execRecTeamArmTime_held {dt s t} (h : execRecTeamArmTime dt s = .next t) :
    ∃ f, KeepsHeld f ∧ doneOn dt f s = .next t := by
  unfold execRecTeamArmTime at h
  refine ⟨_, ?_, h⟩
  intro x; simp

theorem execRecTeamTriggerTime_held {dt s t} (h : execRecTeamTriggerTime dt s = .next t) :
    ∃ f, KeepsHeld f ∧ doneOn dt f s = .next t := by
  unfold execRecTeamTriggerTime at h
  refine ⟨_, ?_, h⟩
  intro x; simp

theorem execEnginePassStart_held {dt q ecc s t} (h : execEnginePassStart dt q ecc s = .next t) :
    ∃ f, KeepsHeld f ∧ doneOn dt f s = .next t := by
  unfold execEnginePassStart at h
  refine ⟨_, ?_, h⟩
  intro x; simp

theorem execEnginePassDone_held {dt q s t} (h : execEnginePassDone dt q s = .next t) :
    ∃ f, KeepsHeld f ∧ doneOn dt f s = .next t := by
  unfold execEnginePassDone at h
  refine ⟨_, ?_, h⟩
  intro x; simp

theorem execEnginePublish_held {dt q s t} (h : execEnginePublish dt q s = .next t) :
    ∃ f, KeepsHeld f ∧ doneOn dt f s = .next t := by
  unfold execEnginePublish at h
  refine ⟨_, ?_, h⟩
  intro x; simp

theorem execHaltDeferredClose_held {dt ch s t} (h : execHaltDeferredClose dt ch s = .next t) :
    ∃ f, KeepsHeld f ∧ doneOn dt f s = .next t := by
  unfold execHaltDeferredClose at h
  refine ⟨_, ?_, h⟩
  intro x; simp

theorem execPersTagSweep_held {dt q slot s t} (h : execPersTagSweep dt q slot s = .next t) :
    ∃ f, KeepsHeld f ∧ doneOn dt f s = .next t := by
  unfold execPersTagSweep at h
  refine ⟨_, ?_, h⟩
  intro x; simp

theorem execPersTagClearDone_held {dt q s t} (h : execPersTagClearDone dt q s = .next t) :
    ∃ f, KeepsHeld f ∧ doneOn dt f s = .next t := by
  unfold execPersTagClearDone at h
  refine ⟨_, ?_, h⟩
  intro x; simp

theorem execCalTileLeaveService_held {dt tile s t} (h : execCalTileLeaveService dt tile s = .next t) :
    ∃ f, KeepsHeld f ∧ doneOn dt f s = .next t := by
  unfold execCalTileLeaveService at h
  refine ⟨_, ?_, h⟩
  intro x; simp

theorem execCalLinPassEnd_held {dt positions s t} (h : execCalLinPassEnd dt positions s = .next t) :
    ∃ f, KeepsHeld f ∧ doneOn dt f s = .next t := by
  unfold execCalLinPassEnd at h
  refine ⟨_, ?_, h⟩
  intro x; simp

theorem execCalLinTimeout_held {dt tile s t} (h : execCalLinTimeout dt tile s = .next t) :
    ∃ f, KeepsHeld f ∧ doneOn dt f s = .next t := by
  unfold execCalLinTimeout at h
  refine ⟨_, ?_, h⟩
  intro x; simp

theorem execCalZeroBlockEnd_held {dt s t} (h : execCalZeroBlockEnd dt s = .next t) :
    ∃ f, KeepsHeld f ∧ doneOn dt f s = .next t := by
  unfold execCalZeroBlockEnd at h
  refine ⟨_, ?_, h⟩
  intro x; simp

theorem execCalZeroTimeout_held {dt s t} (h : execCalZeroTimeout dt s = .next t) :
    ∃ f, KeepsHeld f ∧ doneOn dt f s = .next t := by
  unfold execCalZeroTimeout at h
  refine ⟨_, ?_, h⟩
  intro x; simp

theorem execCalTeamMeasureDone_held {dt meas s t} (h : execCalTeamMeasureDone dt meas s = .next t) :
    ∃ f, KeepsHeld f ∧ doneOn dt f s = .next t := by
  unfold execCalTeamMeasureDone at h
  refine ⟨_, ?_, h⟩
  intro x; simp

theorem execCalTeamApplyTime_held {dt s t} (h : execCalTeamApplyTime dt s = .next t) :
    ∃ f, KeepsHeld f ∧ doneOn dt f s = .next t := by
  unfold execCalTeamApplyTime at h
  refine ⟨_, ?_, h⟩
  intro x; simp

theorem execCalTeamTimeout_held {dt s t} (h : execCalTeamTimeout dt s = .next t) :
    ∃ f, KeepsHeld f ∧ doneOn dt f s = .next t := by
  unfold execCalTeamTimeout at h
  refine ⟨_, ?_, h⟩
  intro x; simp

theorem execAutoCalStart_held {dt s t} (h : execAutoCalStart dt s = .next t) :
    ∃ f, KeepsHeld f ∧ doneOn dt f s = .next t := by
  unfold execAutoCalStart at h
  refine ⟨_, ?_, h⟩
  intro x; simp

theorem execNolgilForm_held {dt fromUp devNum sizeM1 s t} (h : execNolgilForm dt fromUp devNum sizeM1 s = .next t) :
    ∃ f, KeepsHeld f ∧ doneOn dt f s = .next t := by
  unfold execNolgilForm at h
  refine ⟨_, ?_, h⟩
  intro x; simp

theorem execNolgilArm_held {dt teamTime s t} (h : execNolgilArm dt teamTime s = .next t) :
    ∃ f, KeepsHeld f ∧ doneOn dt f s = .next t := by
  unfold execNolgilArm at h
  refine ⟨_, ?_, h⟩
  intro x; simp

theorem execNolgilTrigger_held {dt dev teamTime s t} (h : execNolgilTrigger dt dev teamTime s = .next t) :
    ∃ f, KeepsHeld f ∧ doneOn dt f s = .next t := by
  unfold execNolgilTrigger at h
  refine ⟨_, ?_, h⟩
  intro x; simp

theorem execNolgilEpoch_held {dt value s t} (h : execNolgilEpoch dt value s = .next t) :
    ∃ f, KeepsHeld f ∧ doneOn dt f s = .next t := by
  unfold execNolgilEpoch at h
  refine ⟨_, ?_, h⟩
  intro x; simp

theorem execNolgilStepNotice_held {dt delta s t} (h : execNolgilStepNotice dt delta s = .next t) :
    ∃ f, KeepsHeld f ∧ doneOn dt f s = .next t := by
  unfold execNolgilStepNotice at h
  refine ⟨_, ?_, h⟩
  intro x; simp

theorem execNolgilCalApply_held {dt teamTime ofs s t} (h : execNolgilCalApply dt teamTime ofs s = .next t) :
    ∃ f, KeepsHeld f ∧ doneOn dt f s = .next t := by
  unfold execNolgilCalApply at h
  refine ⟨_, ?_, h⟩
  intro x; exact nolgilIn_held _ _ _ _ (fun y => by (repeat' split) <;> simp) x

theorem execNolgilState_held {dt dev locked coast work safe cause s t}
    (h : execNolgilState dt dev locked coast work safe cause s = .next t) :
    ∃ f, KeepsHeld f ∧ doneOn dt f s = .next t := by
  unfold execNolgilState at h
  refine ⟨_, ?_, h⟩
  intro x; simp

theorem execHopDown_held {dt up s t} (h : execHopDown dt up s = .next t) :
    ∃ f, KeepsHeld f ∧ doneOn dt f s = .next t := by
  unfold execHopDown at h
  refine ⟨_, ?_, h⟩
  intro x; simp

theorem execHopUp_held {dt up s t} (h : execHopUp dt up s = .next t) :
    ∃ f, KeepsHeld f ∧ doneOn dt f s = .next t := by
  unfold execHopUp at h
  refine ⟨_, ?_, h⟩
  intro x; simp

theorem execSkewWatchExchange_held {dt up est s t} (h : execSkewWatchExchange dt up est s = .next t) :
    ∃ f, KeepsHeld f ∧ doneOn dt f s = .next t := by
  unfold execSkewWatchExchange at h
  refine ⟨_, ?_, h⟩
  intro x; simp

theorem execHostDoorbell_held {dt iface mask s t} (h : execHostDoorbell dt iface mask s = .next t) :
    ∃ f, KeepsHeld f ∧ doneOn dt f s = .next t := by
  unfold execHostDoorbell at h
  refine ⟨_, ?_, h⟩
  intro x; simp

theorem execHostRelease_held {dt iface mask s t} (h : execHostRelease dt iface mask s = .next t) :
    ∃ f, KeepsHeld f ∧ doneOn dt f s = .next t := by
  unfold execHostRelease at h
  refine ⟨_, ?_, h⟩
  intro x; simp

@[simp] theorem busWrite_held (iface offset data) (s : State) : (busWrite iface offset data s).held = s.held := by
  unfold busWrite; (repeat' split) <;> simp

theorem execMbxSlotWrite_held {dt iface offset data s t}
    (h : execMbxSlotWrite dt iface offset data s = .next t) :
    ∃ f, KeepsHeld f ∧ doneOn dt f s = .next t := by
  unfold execMbxSlotWrite at h
  refine ⟨_, ?_, h⟩
  intro x; split <;> simp

theorem execIrqPendingClear_held {dt iface mask s t} (h : execIrqPendingClear dt iface mask s = .next t) :
    ∃ f, KeepsHeld f ∧ doneOn dt f s = .next t := by
  unfold execIrqPendingClear at h
  refine ⟨_, ?_, h⟩
  intro x; simp

theorem execSpiAlertAck_held {dt s t} (h : execSpiAlertAck dt s = .next t) :
    ∃ f, KeepsHeld f ∧ doneOn dt f s = .next t := by
  unfold execSpiAlertAck at h
  refine ⟨_, ?_, h⟩
  intro x; simp

theorem execSpiAlertRead_held {dt s t} (h : execSpiAlertRead dt s = .next t) :
    ∃ f, KeepsHeld f ∧ doneOn dt f s = .next t := by
  unfold execSpiAlertRead at h
  refine ⟨_, ?_, h⟩
  intro x; simp

theorem execPbStreamDoorbell_held {dt value s t} (h : execPbStreamDoorbell dt value s = .next t) :
    ∃ f, KeepsHeld f ∧ doneOn dt f s = .next t := by
  unfold execPbStreamDoorbell at h
  refine ⟨_, ?_, h⟩
  intro x; simp

theorem execRegisterWrite_held {dt iface offset data s t}
    (h : execRegisterWrite dt iface offset data s = .next t) :
    ∃ f, KeepsHeld f ∧ doneOn dt f s = .next t := by
  unfold execRegisterWrite at h
  refine ⟨_, ?_, h⟩
  intro x; simp

theorem execSpiWrite_held {dt addr data s t} (h : execSpiWrite dt addr data s = .next t) :
    ∃ f, KeepsHeld f ∧ doneOn dt f s = .next t := by
  unfold execSpiWrite at h
  refine ⟨_, ?_, h⟩
  intro x; simp

theorem execSpiRead_held {dt addr n s t} (h : execSpiRead dt addr n s = .next t) :
    ∃ f, KeepsHeld f ∧ doneOn dt f s = .next t := by
  unfold execSpiRead at h
  refine ⟨_, ?_, h⟩
  intro x; dsimp only; split <;> simp

theorem execSpiWriteC_held {dt addr count data crc ended s t}
    (h : execSpiWriteC dt addr count data crc ended s = .next t) :
    ∃ f, KeepsHeld f ∧ doneOn dt f s = .next t := by
  unfold execSpiWriteC at h
  refine ⟨_, ?_, h⟩
  intro x; simp

theorem execSpiReadC_held {dt addr count s t} (h : execSpiReadC dt addr count s = .next t) :
    ∃ f, KeepsHeld f ∧ doneOn dt f s = .next t := by
  unfold execSpiReadC at h
  refine ⟨_, ?_, h⟩
  intro x; simp

theorem execUdpCtrlDatagram_held {dt rx srcIp srcUdp words s t}
    (h : execUdpCtrlDatagram dt rx srcIp srcUdp words s = .next t) :
    ∃ f, KeepsHeld f ∧ doneOn dt f s = .next t := by
  unfold execUdpCtrlDatagram at h
  refine ⟨_, ?_, h⟩
  intro x; dsimp only; split
  · exact datagramRx_held _ _ _ _ (fun y => by simp) x
  · rfl

theorem execTxnTimeout_held {dt id s t} (h : execTxnTimeout dt id s = .next t) :
    ∃ f, KeepsHeld f ∧ doneOn dt f s = .next t := by
  unfold execTxnTimeout at h
  refine ⟨_, ?_, h⟩
  intro x; dsimp only; split <;> simp

theorem execCfgPublish_held {dt s t} (h : execCfgPublish dt s = .next t) :
    ∃ f, KeepsHeld f ∧ doneOn dt f s = .next t := by
  unfold execCfgPublish at h
  refine ⟨_, ?_, h⟩
  intro x; simp

theorem execJournalMirrorWrite_held {dt s t} (h : execJournalMirrorWrite dt s = .next t) :
    ∃ f, KeepsHeld f ∧ doneOn dt f s = .next t := by
  unfold execJournalMirrorWrite at h
  refine ⟨_, ?_, h⟩
  intro x; simp

theorem execMramPageWriteDone_held {dt ok s t} (h : execMramPageWriteDone dt ok s = .next t) :
    ∃ f, KeepsHeld f ∧ doneOn dt f s = .next t := by
  unfold execMramPageWriteDone at h
  refine ⟨_, ?_, h⟩
  intro x; simp

theorem execLogFlush_held {dt s t} (h : execLogFlush dt s = .next t) :
    ∃ f, KeepsHeld f ∧ doneOn dt f s = .next t := by
  unfold execLogFlush at h
  refine ⟨_, ?_, h⟩
  intro x; dsimp only; split <;> simp

theorem execConsRead_held {dt queue cons s t} (h : execConsRead dt queue cons s = .next t) :
    ∃ f, KeepsHeld f ∧ doneOn dt f s = .next t := by
  unfold execConsRead at h
  refine ⟨_, ?_, h⟩
  intro x; simp

theorem execQueueIrqCoal_held {dt queue s t} (h : execQueueIrqCoal dt queue s = .next t) :
    ∃ f, KeepsHeld f ∧ doneOn dt f s = .next t := by
  unfold execQueueIrqCoal at h
  refine ⟨_, ?_, h⟩
  intro x; simp

theorem execDatagramFlush_held {dt queue s t} (h : execDatagramFlush dt queue s = .next t) :
    ∃ f, KeepsHeld f ∧ doneOn dt f s = .next t := by
  unfold execDatagramFlush at h
  refine ⟨_, ?_, h⟩
  intro x; simp

theorem execC0StoreDrain_held {dt dest s t} (h : execC0StoreDrain dt dest s = .next t) :
    ∃ f, KeepsHeld f ∧ doneOn dt f s = .next t := by
  unfold execC0StoreDrain at h
  refine ⟨_, ?_, h⟩
  intro x; simp

@[simp] theorem datagramAct_held (a) (b) (s : State) : (datagramAct a b s).held = s.held := by
  simp only [datagramAct]; (repeat' split) <;> simp

theorem execEthFrameRx_held {dt port frame s t} (h : execEthFrameRx dt port frame s = .next t) :
    ∃ f, KeepsHeld f ∧ doneOn dt f s = .next t := by
  unfold execEthFrameRx at h
  refine ⟨_, ?_, h⟩
  intro x; dsimp only; (repeat' split) <;> simp

theorem execGptpMessageRx_held {dt port msg s t} (h : execGptpMessageRx dt port msg s = .next t) :
    ∃ f, KeepsHeld f ∧ doneOn dt f s = .next t := by
  unfold execGptpMessageRx at h
  refine ⟨_, ?_, h⟩
  intro x; simp

theorem execGptpMessageTx_held {dt port pdelay s t} (h : execGptpMessageTx dt port pdelay s = .next t) :
    ∃ f, KeepsHeld f ∧ doneOn dt f s = .next t := by
  unfold execGptpMessageTx at h
  refine ⟨_, ?_, h⟩
  intro x; simp

theorem execGateIntervalEnd_held {dt port s t} (h : execGateIntervalEnd dt port s = .next t) :
    ∃ f, KeepsHeld f ∧ doneOn dt f s = .next t := by
  unfold execGateIntervalEnd at h
  refine ⟨_, ?_, h⟩
  intro x; simp

theorem execGateListApply_held {dt port s t} (h : execGateListApply dt port s = .next t) :
    ∃ f, KeepsHeld f ∧ doneOn dt f s = .next t := by
  unfold execGateListApply at h
  refine ⟨_, ?_, h⟩
  intro x; simp

theorem execCbRecoveryReset_held {dt stream s t} (h : execCbRecoveryReset dt stream s = .next t) :
    ∃ f, KeepsHeld f ∧ doneOn dt f s = .next t := by
  unfold execCbRecoveryReset at h
  refine ⟨_, ?_, h⟩
  intro x; simp

theorem execPortLinkChange_held {dt port linkUp s t} (h : execPortLinkChange dt port linkUp s = .next t) :
    ∃ f, KeepsHeld f ∧ doneOn dt f s = .next t := by
  unfold execPortLinkChange at h
  refine ⟨_, ?_, h⟩
  intro x; simp

theorem execTelemetryPeriod_held {dt s t} (h : execTelemetryPeriod dt s = .next t) :
    ∃ f, KeepsHeld f ∧ doneOn dt f s = .next t := by
  unfold execTelemetryPeriod at h
  refine ⟨_, ?_, h⟩
  have k : ∀ (o : Outq) (y : State), State.held { y with outq := o } = y.held := fun o y => by cases y; rfl
  intro x; dsimp only; split
  · rfl
  · rw [k, reachUp_held]

/-- The end of the boot lets the mailboxes be served, where the controller runs, and changes nothing else of State.held
(Table 3 of ch. 15). -/
theorem bootReady_held (s : State) : (bootReady s).held =
    (s.pending, s.fact, s.safe.safe, s.safe.safeNLow, s.safe.firstCause, s.safe.entries, s.ctl.fwFault,
     (s.ctl.mbxReady || (decide (s.ctl.bootStage = 8) && !s.ctl.fwFault && !s.safe.selftest)), s.pwr.inReset, s.pwr.shut,
     s.pwr.io33) := by
  unfold bootReady
  split
  · next h => simp [h]
  · next h =>
    have g : (decide (s.ctl.bootStage = 8) && !s.ctl.fwFault && !s.safe.selftest) = false := by
      revert h; cases s.ctl.fwFault <;> cases s.safe.selftest <;> simp
    rw [g, Bool.or_false]; rfl

theorem execLockstepMismatch_held {dt group s t} (h : execLockstepMismatch dt group s = .next t) :
    ∃ f, KeepsHeld f ∧ doneOn dt f s = .next t := by
  unfold execLockstepMismatch at h
  refine ⟨_, ?_, h⟩
  intro x; simp

theorem execWatchdogService_held {dt s t} (h : execWatchdogService dt s = .next t) :
    ∃ f, KeepsHeld f ∧ doneOn dt f s = .next t := by
  unfold execWatchdogService at h
  refine ⟨_, ?_, h⟩
  intro x; dsimp only; (repeat' split) <;> simp

theorem execWatchdogTimeout_held {dt s t} (h : execWatchdogTimeout dt s = .next t) :
    ∃ f, KeepsHeld f ∧ doneOn dt f s = .next t := by
  unfold execWatchdogTimeout at h
  refine ⟨_, ?_, h⟩
  intro x; dsimp only; split
  · rw [decideCause_held]; exact Eq.trans (b := (reachUp _ x).held) rfl (reachUp_held _ x)
  · rfl

theorem execEccRateWindow_held {dt s t} (h : execEccRateWindow dt s = .next t) :
    ∃ f, KeepsHeld f ∧ doneOn dt f s = .next t := by
  unfold execEccRateWindow at h
  refine ⟨_, ?_, h⟩
  intro x; simp

theorem execScrub_held {dt ch granule kind s t} (h : execScrub dt ch granule kind s = .next t) :
    ∃ f, KeepsHeld f ∧ doneOn dt f s = .next t := by
  unfold execScrub at h
  refine ⟨_, ?_, h⟩
  intro x; simp

theorem execMemoryScrub_held {dt mem granule kind s t} (h : execMemoryScrub dt mem granule kind s = .next t) :
    ∃ f, KeepsHeld f ∧ doneOn dt f s = .next t := by
  unfold execMemoryScrub at h
  refine ⟨_, ?_, h⟩
  intro x; simp

theorem execTempPlausibilityCheck_held {dt inferred s t} (h : execTempPlausibilityCheck dt inferred s = .next t) :
    ∃ f, KeepsHeld f ∧ doneOn dt f s = .next t := by
  unfold execTempPlausibilityCheck at h
  refine ⟨_, ?_, h⟩
  intro x; simp

theorem execTpllFreqHoldEnd_held {dt s t} (h : execTpllFreqHoldEnd dt s = .next t) :
    ∃ f, KeepsHeld f ∧ doneOn dt f s = .next t := by
  unfold execTpllFreqHoldEnd at h
  refine ⟨_, ?_, h⟩
  have k : ∀ y : State, State.held { y with tb := { y.tb with freqHold := false } } = y.held := fun y => by cases y; rfl
  intro x; dsimp only; split
  · split
    · rw [causeGone_held, k, reachUp_held]
    · rfl
  · rfl

theorem execHostSilent_held {dt s t} (h : execHostSilent dt s = .next t) :
    ∃ f, KeepsHeld f ∧ doneOn dt f s = .next t := by
  unfold execHostSilent at h
  refine ⟨_, ?_, h⟩
  intro x; simp

theorem execHeartbeat_held {dt s t} (h : execHeartbeat dt s = .next t) :
    ∃ f, KeepsHeld f ∧ doneOn dt f s = .next t := by
  unfold execHeartbeat at h
  refine ⟨_, ?_, h⟩
  have k : ∀ (n : Nat) (y : State), (safeUpd (fun u => { u with heartAt := n }) y).held = y.held := fun n y => by cases y; rfl
  intro x; dsimp only; split
  · rfl
  · rw [decideCause_held, k, reachUp_held]

/-- A temperature sample acts in shutdown too (R419). -/
theorem execTempSample_held {dt temp s t} (h : execTempSample dt temp s = .next t) :
    ∃ f, KeepsHeld f ∧ done dt f s = .next t := by
  unfold execTempSample at h
  refine ⟨_, ?_, h⟩
  intro x; dsimp only; split
  · rfl
  split
  · split
    · exact sampleTaken_held _ x
    · rfl
  · exact sampleTemp_held _ x

theorem execDroopAssert_held {dt sensor s t} (h : execDroopAssert dt sensor s = .next t) :
    ∃ f, KeepsHeld f ∧ doneOn dt f s = .next t := by
  unfold execDroopAssert at h
  refine ⟨_, ?_, h⟩
  intro x; simp

theorem execDroopDeassert_held {dt sensor s t} (h : execDroopDeassert dt sensor s = .next t) :
    ∃ f, KeepsHeld f ∧ doneOn dt f s = .next t := by
  unfold execDroopDeassert at h
  refine ⟨_, ?_, h⟩
  intro x; simp

theorem execThrottleStepUp_held {dt s t} (h : execThrottleStepUp dt s = .next t) :
    ∃ f, KeepsHeld f ∧ doneOn dt f s = .next t := by
  unfold execThrottleStepUp at h
  refine ⟨_, ?_, h⟩
  intro x; dsimp only; (repeat' split) <;> simp

theorem execSysSetCtrlPort_held {dt mbx s t} (h : execSysSetCtrlPort dt mbx s = .next t) :
    ∃ f, KeepsHeld f ∧ doneOn dt f s = .next t := by
  unfold execSysSetCtrlPort at h
  refine ⟨_, ?_, h⟩
  intro x; simp

theorem execSysSelectBoot_held {dt mbx s t} (h : execSysSelectBoot dt mbx s = .next t) :
    ∃ f, KeepsHeld f ∧ doneOn dt f s = .next t := by
  unfold execSysSelectBoot at h
  refine ⟨_, ?_, h⟩
  intro x; simp

theorem execSysReadJournal_held {dt mbx s t} (h : execSysReadJournal dt mbx s = .next t) :
    ∃ f, KeepsHeld f ∧ doneOn dt f s = .next t := by
  unfold execSysReadJournal at h
  refine ⟨_, ?_, h⟩
  intro x; refine runAct_held _ _ _ _ _ (fun c t => ?_) x; dsimp only; split <;> simp

theorem execSysReadConfig_held {dt mbx s t} (h : execSysReadConfig dt mbx s = .next t) :
    ∃ f, KeepsHeld f ∧ doneOn dt f s = .next t := by
  unfold execSysReadConfig at h
  refine ⟨_, ?_, h⟩
  intro x; simp

theorem execSysGetStatus_held {dt mbx s t} (h : execSysGetStatus dt mbx s = .next t) :
    ∃ f, KeepsHeld f ∧ doneOn dt f s = .next t := by
  unfold execSysGetStatus at h
  refine ⟨_, ?_, h⟩
  intro x; simp

theorem execTbSetTpll_held {dt mbx s t} (h : execTbSetTpll dt mbx s = .next t) :
    ∃ f, KeepsHeld f ∧ doneOn dt f s = .next t := by
  unfold execTbSetTpll at h
  refine ⟨_, ?_, h⟩
  intro x; simp

theorem execTbSetMode_held {dt mbx s t} (h : execTbSetMode dt mbx s = .next t) :
    ∃ f, KeepsHeld f ∧ doneOn dt f s = .next t := by
  unfold execTbSetMode at h
  refine ⟨_, ?_, h⟩
  intro x; simp

theorem execTbSetEpoch_held {dt mbx s t} (h : execTbSetEpoch dt mbx s = .next t) :
    ∃ f, KeepsHeld f ∧ doneOn dt f s = .next t := by
  unfold execTbSetEpoch at h
  refine ⟨_, ?_, h⟩
  intro x; simp

theorem execTbBandSearch_held {dt mbx s t} (h : execTbBandSearch dt mbx s = .next t) :
    ∃ f, KeepsHeld f ∧ doneOn dt f s = .next t := by
  unfold execTbBandSearch at h
  refine ⟨_, ?_, h⟩
  intro x; simp

theorem execTbBandStore_held {dt mbx s t} (h : execTbBandStore dt mbx s = .next t) :
    ∃ f, KeepsHeld f ∧ doneOn dt f s = .next t := by
  unfold execTbBandStore at h
  refine ⟨_, ?_, h⟩
  intro x; simp

theorem execTbBandHop_held {dt mbx s t} (h : execTbBandHop dt mbx s = .next t) :
    ∃ f, KeepsHeld f ∧ doneOn dt f s = .next t := by
  unfold execTbBandHop at h
  refine ⟨_, ?_, h⟩
  intro x; simp

theorem execTbRealign_held {dt mbx s t} (h : execTbRealign dt mbx s = .next t) :
    ∃ f, KeepsHeld f ∧ doneOn dt f s = .next t := by
  unfold execTbRealign at h
  refine ⟨_, ?_, h⟩
  intro x; refine runAct_held _ _ _ _ _ (fun c t => ?_) x; dsimp only; (repeat' split) <;> simp

theorem execTbGetStatus_held {dt mbx s t} (h : execTbGetStatus dt mbx s = .next t) :
    ∃ f, KeepsHeld f ∧ doneOn dt f s = .next t := by
  unfold execTbGetStatus at h
  refine ⟨_, ?_, h⟩
  intro x; simp

theorem execEmSetChannel_held {dt mbx s t} (h : execEmSetChannel dt mbx s = .next t) :
    ∃ f, KeepsHeld f ∧ doneOn dt f s = .next t := by
  unfold execEmSetChannel at h
  refine ⟨_, ?_, h⟩
  intro x; simp

theorem execEmSetLimits_held {dt mbx s t} (h : execEmSetLimits dt mbx s = .next t) :
    ∃ f, KeepsHeld f ∧ doneOn dt f s = .next t := by
  unfold execEmSetLimits at h
  refine ⟨_, ?_, h⟩
  intro x; simp

theorem execEmSetVolley_held {dt mbx s t} (h : execEmSetVolley dt mbx s = .next t) :
    ∃ f, KeepsHeld f ∧ doneOn dt f s = .next t := by
  unfold execEmSetVolley at h
  refine ⟨_, ?_, h⟩
  intro x; simp

theorem execEmSetStretch_held {dt mbx s t} (h : execEmSetStretch dt mbx s = .next t) :
    ∃ f, KeepsHeld f ∧ doneOn dt f s = .next t := by
  unfold execEmSetStretch at h
  refine ⟨_, ?_, h⟩
  intro x; simp

theorem execEmClearTrip_held {dt mbx s t} (h : execEmClearTrip dt mbx s = .next t) :
    ∃ f, KeepsHeld f ∧ doneOn dt f s = .next t := by
  unfold execEmClearTrip at h
  refine ⟨_, ?_, h⟩
  intro x; simp

theorem execEmGetStatus_held {dt mbx s t} (h : execEmGetStatus dt mbx s = .next t) :
    ∃ f, KeepsHeld f ∧ doneOn dt f s = .next t := by
  unfold execEmGetStatus at h
  refine ⟨_, ?_, h⟩
  intro x; simp

theorem execPbLoadDesc_held {dt mbx s t} (h : execPbLoadDesc dt mbx s = .next t) :
    ∃ f, KeepsHeld f ∧ doneOn dt f s = .next t := by
  unfold execPbLoadDesc at h
  refine ⟨_, ?_, h⟩
  intro x; simp

theorem execPbSetSegment_held {dt mbx s t} (h : execPbSetSegment dt mbx s = .next t) :
    ∃ f, KeepsHeld f ∧ doneOn dt f s = .next t := by
  unfold execPbSetSegment at h
  refine ⟨_, ?_, h⟩
  intro x; simp

theorem execPbSetJump_held {dt mbx s t} (h : execPbSetJump dt mbx s = .next t) :
    ∃ f, KeepsHeld f ∧ doneOn dt f s = .next t := by
  unfold execPbSetJump at h
  refine ⟨_, ?_, h⟩
  intro x; simp

theorem execPbSetConfig_held {dt mbx s t} (h : execPbSetConfig dt mbx s = .next t) :
    ∃ f, KeepsHeld f ∧ doneOn dt f s = .next t := by
  unfold execPbSetConfig at h
  refine ⟨_, ?_, h⟩
  intro x; simp

theorem execPbSetStl_held {dt mbx s t} (h : execPbSetStl dt mbx s = .next t) :
    ∃ f, KeepsHeld f ∧ doneOn dt f s = .next t := by
  unfold execPbSetStl at h
  refine ⟨_, ?_, h⟩
  intro x; simp

theorem execPbStreamOpen_held {dt mbx s t} (h : execPbStreamOpen dt mbx s = .next t) :
    ∃ f, KeepsHeld f ∧ doneOn dt f s = .next t := by
  unfold execPbStreamOpen at h
  refine ⟨_, ?_, h⟩
  intro x; simp

theorem execPbArmJump_held {dt mbx s t} (h : execPbArmJump dt mbx s = .next t) :
    ∃ f, KeepsHeld f ∧ doneOn dt f s = .next t := by
  unfold execPbArmJump at h
  refine ⟨_, ?_, h⟩
  intro x; simp

theorem execPbJump_held {dt mbx s t} (h : execPbJump dt mbx s = .next t) :
    ∃ f, KeepsHeld f ∧ doneOn dt f s = .next t := by
  unfold execPbJump at h
  refine ⟨_, ?_, h⟩
  intro x; simp

theorem execPbStart_held {dt mbx s t} (h : execPbStart dt mbx s = .next t) :
    ∃ f, KeepsHeld f ∧ doneOn dt f s = .next t := by
  unfold execPbStart at h
  refine ⟨_, ?_, h⟩
  intro x; simp

theorem execPbStop_held {dt mbx s t} (h : execPbStop dt mbx s = .next t) :
    ∃ f, KeepsHeld f ∧ doneOn dt f s = .next t := by
  unfold execPbStop at h
  refine ⟨_, ?_, h⟩
  intro x; simp

theorem execPbStreamClose_held {dt mbx s t} (h : execPbStreamClose dt mbx s = .next t) :
    ∃ f, KeepsHeld f ∧ doneOn dt f s = .next t := by
  unfold execPbStreamClose at h
  refine ⟨_, ?_, h⟩
  intro x; simp

theorem execPbClearUnderrun_held {dt mbx s t} (h : execPbClearUnderrun dt mbx s = .next t) :
    ∃ f, KeepsHeld f ∧ doneOn dt f s = .next t := by
  unfold execPbClearUnderrun at h
  refine ⟨_, ?_, h⟩
  intro x; simp

theorem execPbGetStatus_held {dt mbx s t} (h : execPbGetStatus dt mbx s = .next t) :
    ∃ f, KeepsHeld f ∧ doneOn dt f s = .next t := by
  unfold execPbGetStatus at h
  refine ⟨_, ?_, h⟩
  intro x; simp

theorem execCmpSetRx_held {dt mbx s t} (h : execCmpSetRx dt mbx s = .next t) :
    ∃ f, KeepsHeld f ∧ doneOn dt f s = .next t := by
  unfold execCmpSetRx at h
  refine ⟨_, ?_, h⟩
  intro x; simp

theorem execCmpSetRxTile_held {dt mbx s t} (h : execCmpSetRxTile dt mbx s = .next t) :
    ∃ f, KeepsHeld f ∧ doneOn dt f s = .next t := by
  unfold execCmpSetRxTile at h
  refine ⟨_, ?_, h⟩
  intro x; simp

theorem execCmpSetMc_held {dt mbx s t} (h : execCmpSetMc dt mbx s = .next t) :
    ∃ f, KeepsHeld f ∧ doneOn dt f s = .next t := by
  unfold execCmpSetMc at h
  refine ⟨_, ?_, h⟩
  intro x; simp

theorem execCmpSetMp_held {dt mbx s t} (h : execCmpSetMp dt mbx s = .next t) :
    ∃ f, KeepsHeld f ∧ doneOn dt f s = .next t := by
  unfold execCmpSetMp at h
  refine ⟨_, ?_, h⟩
  intro x; simp

theorem execCmpSetMargin_held {dt mbx s t} (h : execCmpSetMargin dt mbx s = .next t) :
    ∃ f, KeepsHeld f ∧ doneOn dt f s = .next t := by
  unfold execCmpSetMargin at h
  refine ⟨_, ?_, h⟩
  intro x; simp

theorem execCmpGetStatus_held {dt mbx s t} (h : execCmpGetStatus dt mbx s = .next t) :
    ∃ f, KeepsHeld f ∧ doneOn dt f s = .next t := by
  unfold execCmpGetStatus at h
  refine ⟨_, ?_, h⟩
  intro x; simp

theorem execWinSetProfile_held {dt mbx s t} (h : execWinSetProfile dt mbx s = .next t) :
    ∃ f, KeepsHeld f ∧ doneOn dt f s = .next t := by
  unfold execWinSetProfile at h
  refine ⟨_, ?_, h⟩
  intro x; simp

theorem execWinSetTile_held {dt mbx s t} (h : execWinSetTile dt mbx s = .next t) :
    ∃ f, KeepsHeld f ∧ doneOn dt f s = .next t := by
  unfold execWinSetTile at h
  refine ⟨_, ?_, h⟩
  intro x; simp

theorem execWinSetRec_held {dt mbx s t} (h : execWinSetRec dt mbx s = .next t) :
    ∃ f, KeepsHeld f ∧ doneOn dt f s = .next t := by
  unfold execWinSetRec at h
  refine ⟨_, ?_, h⟩
  intro x; simp

theorem execWinArmRec_held {dt mbx s t} (h : execWinArmRec dt mbx s = .next t) :
    ∃ f, KeepsHeld f ∧ doneOn dt f s = .next t := by
  unfold execWinArmRec at h
  refine ⟨_, ?_, h⟩
  intro x; simp

theorem execWinDisarmRec_held {dt mbx s t} (h : execWinDisarmRec dt mbx s = .next t) :
    ∃ f, KeepsHeld f ∧ doneOn dt f s = .next t := by
  unfold execWinDisarmRec at h
  refine ⟨_, ?_, h⟩
  intro x; simp

theorem execWinTrigRec_held {dt mbx s t} (h : execWinTrigRec dt mbx s = .next t) :
    ∃ f, KeepsHeld f ∧ doneOn dt f s = .next t := by
  unfold execWinTrigRec at h
  refine ⟨_, ?_, h⟩
  intro x; simp

theorem execWinReadRec_held {dt mbx s t} (h : execWinReadRec dt mbx s = .next t) :
    ∃ f, KeepsHeld f ∧ doneOn dt f s = .next t := by
  unfold execWinReadRec at h
  refine ⟨_, ?_, h⟩
  intro x; simp

theorem execWinGetStatus_held {dt mbx s t} (h : execWinGetStatus dt mbx s = .next t) :
    ∃ f, KeepsHeld f ∧ doneOn dt f s = .next t := by
  unfold execWinGetStatus at h
  refine ⟨_, ?_, h⟩
  intro x; simp

theorem execHistSetTile_held {dt mbx s t} (h : execHistSetTile dt mbx s = .next t) :
    ∃ f, KeepsHeld f ∧ doneOn dt f s = .next t := by
  unfold execHistSetTile at h
  refine ⟨_, ?_, h⟩
  intro x; simp

theorem execHistSetPers_held {dt mbx s t} (h : execHistSetPers dt mbx s = .next t) :
    ∃ f, KeepsHeld f ∧ doneOn dt f s = .next t := by
  unfold execHistSetPers at h
  refine ⟨_, ?_, h⟩
  intro x; simp

theorem execHistGetStatus_held {dt mbx s t} (h : execHistGetStatus dt mbx s = .next t) :
    ∃ f, KeepsHeld f ∧ doneOn dt f s = .next t := by
  unfold execHistGetStatus at h
  refine ⟨_, ?_, h⟩
  intro x; simp

theorem execEchoSetCfg_held {dt mbx s t} (h : execEchoSetCfg dt mbx s = .next t) :
    ∃ f, KeepsHeld f ∧ doneOn dt f s = .next t := by
  unfold execEchoSetCfg at h
  refine ⟨_, ?_, h⟩
  intro x; simp

theorem execEchoSetCoef_held {dt mbx s t} (h : execEchoSetCoef dt mbx s = .next t) :
    ∃ f, KeepsHeld f ∧ doneOn dt f s = .next t := by
  unfold execEchoSetCoef at h
  refine ⟨_, ?_, h⟩
  intro x; simp

theorem execEchoSwapBank_held {dt mbx s t} (h : execEchoSwapBank dt mbx s = .next t) :
    ∃ f, KeepsHeld f ∧ doneOn dt f s = .next t := by
  unfold execEchoSwapBank at h
  refine ⟨_, ?_, h⟩
  intro x; simp

theorem execEchoFreezeBg_held {dt mbx s t} (h : execEchoFreezeBg dt mbx s = .next t) :
    ∃ f, KeepsHeld f ∧ doneOn dt f s = .next t := by
  unfold execEchoFreezeBg at h
  refine ⟨_, ?_, h⟩
  intro x; simp

theorem execEchoGetStatus_held {dt mbx s t} (h : execEchoGetStatus dt mbx s = .next t) :
    ∃ f, KeepsHeld f ∧ doneOn dt f s = .next t := by
  unfold execEchoGetStatus at h
  refine ⟨_, ?_, h⟩
  intro x; simp

theorem execCalSetUser_held {dt mbx s t} (h : execCalSetUser dt mbx s = .next t) :
    ∃ f, KeepsHeld f ∧ doneOn dt f s = .next t := by
  unfold execCalSetUser at h
  refine ⟨_, ?_, h⟩
  intro x; simp

theorem execCalLin_held {dt mbx s t} (h : execCalLin dt mbx s = .next t) :
    ∃ f, KeepsHeld f ∧ doneOn dt f s = .next t := by
  unfold execCalLin at h
  refine ⟨_, ?_, h⟩
  intro x; simp

theorem execCalZero_held {dt mbx s t} (h : execCalZero dt mbx s = .next t) :
    ∃ f, KeepsHeld f ∧ doneOn dt f s = .next t := by
  unfold execCalZero at h
  refine ⟨_, ?_, h⟩
  intro x; simp

theorem execCalTeam_held {dt mbx s t} (h : execCalTeam dt mbx s = .next t) :
    ∃ f, KeepsHeld f ∧ doneOn dt f s = .next t := by
  unfold execCalTeam at h
  refine ⟨_, ?_, h⟩
  intro x; simp

theorem execCalSaveUser_held {dt mbx s t} (h : execCalSaveUser dt mbx s = .next t) :
    ∃ f, KeepsHeld f ∧ doneOn dt f s = .next t := by
  unfold execCalSaveUser at h
  refine ⟨_, ?_, h⟩
  intro x; simp

theorem execCalRestore_held {dt mbx s t} (h : execCalRestore dt mbx s = .next t) :
    ∃ f, KeepsHeld f ∧ doneOn dt f s = .next t := by
  unfold execCalRestore at h
  refine ⟨_, ?_, h⟩
  intro x; simp

theorem execCalGetStatus_held {dt mbx s t} (h : execCalGetStatus dt mbx s = .next t) :
    ∃ f, KeepsHeld f ∧ doneOn dt f s = .next t := by
  unfold execCalGetStatus at h
  refine ⟨_, ?_, h⟩
  intro x; simp

theorem execTeamSetCfg_held {dt mbx s t} (h : execTeamSetCfg dt mbx s = .next t) :
    ∃ f, KeepsHeld f ∧ doneOn dt f s = .next t := by
  unfold execTeamSetCfg at h
  refine ⟨_, ?_, h⟩
  intro x; simp

theorem execTeamHuddle_held {dt mbx s t} (h : execTeamHuddle dt mbx s = .next t) :
    ∃ f, KeepsHeld f ∧ doneOn dt f s = .next t := by
  unfold execTeamHuddle at h
  refine ⟨_, ?_, h⟩
  intro x; simp

theorem execTeamGetStatus_held {dt mbx s t} (h : execTeamGetStatus dt mbx s = .next t) :
    ∃ f, KeepsHeld f ∧ doneOn dt f s = .next t := by
  unfold execTeamGetStatus at h
  refine ⟨_, ?_, h⟩
  intro x; simp

theorem execOutSetQueue_held {dt mbx s t} (h : execOutSetQueue dt mbx s = .next t) :
    ∃ f, KeepsHeld f ∧ doneOn dt f s = .next t := by
  unfold execOutSetQueue at h
  refine ⟨_, ?_, h⟩
  intro x; simp

theorem execOutSetRoute_held {dt mbx s t} (h : execOutSetRoute dt mbx s = .next t) :
    ∃ f, KeepsHeld f ∧ doneOn dt f s = .next t := by
  unfold execOutSetRoute at h
  refine ⟨_, ?_, h⟩
  intro x; simp

theorem execOutSetPort_held {dt mbx s t} (h : execOutSetPort dt mbx s = .next t) :
    ∃ f, KeepsHeld f ∧ doneOn dt f s = .next t := by
  unfold execOutSetPort at h
  refine ⟨_, ?_, h⟩
  intro x; simp

theorem execOutSetGate_held {dt mbx s t} (h : execOutSetGate dt mbx s = .next t) :
    ∃ f, KeepsHeld f ∧ doneOn dt f s = .next t := by
  unfold execOutSetGate at h
  refine ⟨_, ?_, h⟩
  intro x; simp

theorem execOutSetFilter_held {dt mbx s t} (h : execOutSetFilter dt mbx s = .next t) :
    ∃ f, KeepsHeld f ∧ doneOn dt f s = .next t := by
  unfold execOutSetFilter at h
  refine ⟨_, ?_, h⟩
  intro x; simp

theorem execOutSetStream_held {dt mbx s t} (h : execOutSetStream dt mbx s = .next t) :
    ∃ f, KeepsHeld f ∧ doneOn dt f s = .next t := by
  unfold execOutSetStream at h
  refine ⟨_, ?_, h⟩
  intro x; simp

theorem execOutSetTime_held {dt mbx s t} (h : execOutSetTime dt mbx s = .next t) :
    ∃ f, KeepsHeld f ∧ doneOn dt f s = .next t := by
  unfold execOutSetTime at h
  refine ⟨_, ?_, h⟩
  intro x; simp

theorem execOutResetQueue_held {dt mbx s t} (h : execOutResetQueue dt mbx s = .next t) :
    ∃ f, KeepsHeld f ∧ doneOn dt f s = .next t := by
  unfold execOutResetQueue at h
  refine ⟨_, ?_, h⟩
  intro x; simp

theorem execOutGetStatus_held {dt mbx s t} (h : execOutGetStatus dt mbx s = .next t) :
    ∃ f, KeepsHeld f ∧ doneOn dt f s = .next t := by
  unfold execOutGetStatus at h
  refine ⟨_, ?_, h⟩
  intro x; simp

theorem execSafeSetCfg_held {dt mbx s t} (h : execSafeSetCfg dt mbx s = .next t) :
    ∃ f, KeepsHeld f ∧ doneOn dt f s = .next t := by
  unfold execSafeSetCfg at h
  refine ⟨_, ?_, h⟩
  intro x; simp

theorem execSafeEnter_held {dt mbx s t} (h : execSafeEnter dt mbx s = .next t) :
    ∃ f, KeepsHeld f ∧ doneOn dt f s = .next t := by
  unfold execSafeEnter at h
  refine ⟨_, ?_, h⟩
  intro x; simp

theorem execSafeConfirmCfg_held {dt mbx s t} (h : execSafeConfirmCfg dt mbx s = .next t) :
    ∃ f, KeepsHeld f ∧ doneOn dt f s = .next t := by
  unfold execSafeConfirmCfg at h
  refine ⟨_, ?_, h⟩
  intro x; simp

theorem execSafeGetStatus_held {dt mbx s t} (h : execSafeGetStatus dt mbx s = .next t) :
    ∃ f, KeepsHeld f ∧ doneOn dt f s = .next t := by
  unfold execSafeGetStatus at h
  refine ⟨_, ?_, h⟩
  intro x; simp

theorem execPwrSetCfg_held {dt mbx s t} (h : execPwrSetCfg dt mbx s = .next t) :
    ∃ f, KeepsHeld f ∧ doneOn dt f s = .next t := by
  unfold execPwrSetCfg at h
  refine ⟨_, ?_, h⟩
  intro x; simp

theorem execPwrSaveImage_held {dt mbx s t} (h : execPwrSaveImage dt mbx s = .next t) :
    ∃ f, KeepsHeld f ∧ doneOn dt f s = .next t := by
  unfold execPwrSaveImage at h
  refine ⟨_, ?_, h⟩
  intro x; simp

theorem execPwrSelectImage_held {dt mbx s t} (h : execPwrSelectImage dt mbx s = .next t) :
    ∃ f, KeepsHeld f ∧ doneOn dt f s = .next t := by
  unfold execPwrSelectImage at h
  refine ⟨_, ?_, h⟩
  intro x; simp

theorem execPwrEraseImage_held {dt mbx s t} (h : execPwrEraseImage dt mbx s = .next t) :
    ∃ f, KeepsHeld f ∧ doneOn dt f s = .next t := by
  unfold execPwrEraseImage at h
  refine ⟨_, ?_, h⟩
  intro x; simp

theorem execPwrReadLog_held {dt mbx s t} (h : execPwrReadLog dt mbx s = .next t) :
    ∃ f, KeepsHeld f ∧ doneOn dt f s = .next t := by
  unfold execPwrReadLog at h
  refine ⟨_, ?_, h⟩
  intro x; simp

theorem execPwrGetStatus_held {dt mbx s t} (h : execPwrGetStatus dt mbx s = .next t) :
    ∃ f, KeepsHeld f ∧ doneOn dt f s = .next t := by
  unfold execPwrGetStatus at h
  refine ⟨_, ?_, h⟩
  intro x; simp

theorem execTxnOpen_held {dt mbx s t} (h : execTxnOpen dt mbx s = .next t) :
    ∃ f, KeepsHeld f ∧ doneOn dt f s = .next t := by
  unfold execTxnOpen at h
  refine ⟨_, ?_, h⟩
  intro x; simp

theorem execTxnCommit_held {dt mbx s t} (h : execTxnCommit dt mbx s = .next t) :
    ∃ f, KeepsHeld f ∧ doneOn dt f s = .next t := by
  unfold execTxnCommit at h
  refine ⟨_, ?_, h⟩
  intro x; simp

theorem execTxnAbort_held {dt mbx s t} (h : execTxnAbort dt mbx s = .next t) :
    ∃ f, KeepsHeld f ∧ doneOn dt f s = .next t := by
  unfold execTxnAbort at h
  refine ⟨_, ?_, h⟩
  intro x; refine take_held _ _ _ (fun c n t => ?_) x; dsimp only; (repeat' split) <;> simp

theorem execTxnGetStatus_held {dt mbx s t} (h : execTxnGetStatus dt mbx s = .next t) :
    ∃ f, KeepsHeld f ∧ doneOn dt f s = .next t := by
  unfold execTxnGetStatus at h
  refine ⟨_, ?_, h⟩
  intro x; simp

theorem execTripNDeassert_held {dt pin s t} (h : execTripNDeassert dt pin s = .next t) :
    ∃ f, KeepsHeld f ∧ done dt f s = .next t := by
  unfold execTripNDeassert at h
  refine ⟨_, ?_, h⟩
  intro x; simp

theorem execRxOutputDeassert_held {dt ch s t} (h : execRxOutputDeassert dt ch s = .next t) :
    ∃ f, KeepsHeld f ∧ doneOn dt f s = .next t := by
  unfold execRxOutputDeassert at h
  refine ⟨_, ?_, h⟩
  intro x; simp

theorem execMcFilterSample_held {dt m s t} (h : execMcFilterSample dt m s = .next t) :
    ∃ f, KeepsHeld f ∧ doneOn dt f s = .next t := by
  unfold execMcFilterSample at h
  refine ⟨_, ?_, h⟩
  intro x; simp

theorem execSdRefclkReturn_held {dt s t} (h : execSdRefclkReturn dt s = .next t) :
    ∃ f, KeepsHeld f ∧ doneOn dt f s = .next t := by
  unfold execSdRefclkReturn at h
  refine ⟨_, ?_, h⟩
  intro x; simp

theorem execCalZeroShot_held {dt dither s t} (h : execCalZeroShot dt dither s = .next t) :
    ∃ f, KeepsHeld f ∧ doneOn dt f s = .next t := by
  unfold execCalZeroShot at h
  refine ⟨_, ?_, h⟩
  intro x; simp

theorem execFrameTransmitted_held {dt port s t} (h : execFrameTransmitted dt port s = .next t) :
    ∃ f, KeepsHeld f ∧ doneOn dt f s = .next t := by
  unfold execFrameTransmitted at h
  refine ⟨_, ?_, h⟩
  intro x; simp

theorem execSysGetCtrlPort_held {dt mbx s t} (h : execSysGetCtrlPort dt mbx s = .next t) :
    ∃ f, KeepsHeld f ∧ doneOn dt f s = .next t := by
  unfold execSysGetCtrlPort at h
  refine ⟨_, ?_, h⟩
  intro x; simp

theorem execSysGetInfo_held {dt mbx s t} (h : execSysGetInfo dt mbx s = .next t) :
    ∃ f, KeepsHeld f ∧ doneOn dt f s = .next t := by
  unfold execSysGetInfo at h
  refine ⟨_, ?_, h⟩
  intro x; simp

theorem execTbGetTpll_held {dt mbx s t} (h : execTbGetTpll dt mbx s = .next t) :
    ∃ f, KeepsHeld f ∧ doneOn dt f s = .next t := by
  unfold execTbGetTpll at h
  refine ⟨_, ?_, h⟩
  intro x; simp

theorem execTbGetMode_held {dt mbx s t} (h : execTbGetMode dt mbx s = .next t) :
    ∃ f, KeepsHeld f ∧ doneOn dt f s = .next t := by
  unfold execTbGetMode at h
  refine ⟨_, ?_, h⟩
  intro x; simp

theorem execTbGetEpoch_held {dt mbx s t} (h : execTbGetEpoch dt mbx s = .next t) :
    ∃ f, KeepsHeld f ∧ doneOn dt f s = .next t := by
  unfold execTbGetEpoch at h
  refine ⟨_, ?_, h⟩
  intro x; simp

theorem execEmGetChannel_held {dt mbx s t} (h : execEmGetChannel dt mbx s = .next t) :
    ∃ f, KeepsHeld f ∧ doneOn dt f s = .next t := by
  unfold execEmGetChannel at h
  refine ⟨_, ?_, h⟩
  intro x; simp

theorem execEmGetLimits_held {dt mbx s t} (h : execEmGetLimits dt mbx s = .next t) :
    ∃ f, KeepsHeld f ∧ doneOn dt f s = .next t := by
  unfold execEmGetLimits at h
  refine ⟨_, ?_, h⟩
  intro x; simp

theorem execEmGetVolley_held {dt mbx s t} (h : execEmGetVolley dt mbx s = .next t) :
    ∃ f, KeepsHeld f ∧ doneOn dt f s = .next t := by
  unfold execEmGetVolley at h
  refine ⟨_, ?_, h⟩
  intro x; simp

theorem execEmGetStretch_held {dt mbx s t} (h : execEmGetStretch dt mbx s = .next t) :
    ∃ f, KeepsHeld f ∧ doneOn dt f s = .next t := by
  unfold execEmGetStretch at h
  refine ⟨_, ?_, h⟩
  intro x; simp

theorem execPbGetDesc_held {dt mbx s t} (h : execPbGetDesc dt mbx s = .next t) :
    ∃ f, KeepsHeld f ∧ doneOn dt f s = .next t := by
  unfold execPbGetDesc at h
  refine ⟨_, ?_, h⟩
  intro x; simp

theorem execPbGetSegment_held {dt mbx s t} (h : execPbGetSegment dt mbx s = .next t) :
    ∃ f, KeepsHeld f ∧ doneOn dt f s = .next t := by
  unfold execPbGetSegment at h
  refine ⟨_, ?_, h⟩
  intro x; simp

theorem execPbGetJump_held {dt mbx s t} (h : execPbGetJump dt mbx s = .next t) :
    ∃ f, KeepsHeld f ∧ doneOn dt f s = .next t := by
  unfold execPbGetJump at h
  refine ⟨_, ?_, h⟩
  intro x; simp

theorem execPbGetConfig_held {dt mbx s t} (h : execPbGetConfig dt mbx s = .next t) :
    ∃ f, KeepsHeld f ∧ doneOn dt f s = .next t := by
  unfold execPbGetConfig at h
  refine ⟨_, ?_, h⟩
  intro x; simp

theorem execPbGetStl_held {dt mbx s t} (h : execPbGetStl dt mbx s = .next t) :
    ∃ f, KeepsHeld f ∧ doneOn dt f s = .next t := by
  unfold execPbGetStl at h
  refine ⟨_, ?_, h⟩
  intro x; simp

theorem execPbGetStream_held {dt mbx s t} (h : execPbGetStream dt mbx s = .next t) :
    ∃ f, KeepsHeld f ∧ doneOn dt f s = .next t := by
  unfold execPbGetStream at h
  refine ⟨_, ?_, h⟩
  intro x; simp

theorem execCmpGetRx_held {dt mbx s t} (h : execCmpGetRx dt mbx s = .next t) :
    ∃ f, KeepsHeld f ∧ doneOn dt f s = .next t := by
  unfold execCmpGetRx at h
  refine ⟨_, ?_, h⟩
  intro x; simp

theorem execCmpGetRxTile_held {dt mbx s t} (h : execCmpGetRxTile dt mbx s = .next t) :
    ∃ f, KeepsHeld f ∧ doneOn dt f s = .next t := by
  unfold execCmpGetRxTile at h
  refine ⟨_, ?_, h⟩
  intro x; simp

theorem execCmpGetMc_held {dt mbx s t} (h : execCmpGetMc dt mbx s = .next t) :
    ∃ f, KeepsHeld f ∧ doneOn dt f s = .next t := by
  unfold execCmpGetMc at h
  refine ⟨_, ?_, h⟩
  intro x; simp

theorem execCmpGetMp_held {dt mbx s t} (h : execCmpGetMp dt mbx s = .next t) :
    ∃ f, KeepsHeld f ∧ doneOn dt f s = .next t := by
  unfold execCmpGetMp at h
  refine ⟨_, ?_, h⟩
  intro x; simp

theorem execCmpGetMargin_held {dt mbx s t} (h : execCmpGetMargin dt mbx s = .next t) :
    ∃ f, KeepsHeld f ∧ doneOn dt f s = .next t := by
  unfold execCmpGetMargin at h
  refine ⟨_, ?_, h⟩
  intro x; simp

theorem execWinGetProfile_held {dt mbx s t} (h : execWinGetProfile dt mbx s = .next t) :
    ∃ f, KeepsHeld f ∧ doneOn dt f s = .next t := by
  unfold execWinGetProfile at h
  refine ⟨_, ?_, h⟩
  intro x; simp

theorem execWinGetTile_held {dt mbx s t} (h : execWinGetTile dt mbx s = .next t) :
    ∃ f, KeepsHeld f ∧ doneOn dt f s = .next t := by
  unfold execWinGetTile at h
  refine ⟨_, ?_, h⟩
  intro x; simp

theorem execWinGetRec_held {dt mbx s t} (h : execWinGetRec dt mbx s = .next t) :
    ∃ f, KeepsHeld f ∧ doneOn dt f s = .next t := by
  unfold execWinGetRec at h
  refine ⟨_, ?_, h⟩
  intro x; simp

theorem execHistGetTile_held {dt mbx s t} (h : execHistGetTile dt mbx s = .next t) :
    ∃ f, KeepsHeld f ∧ doneOn dt f s = .next t := by
  unfold execHistGetTile at h
  refine ⟨_, ?_, h⟩
  intro x; simp

theorem execHistGetPers_held {dt mbx s t} (h : execHistGetPers dt mbx s = .next t) :
    ∃ f, KeepsHeld f ∧ doneOn dt f s = .next t := by
  unfold execHistGetPers at h
  refine ⟨_, ?_, h⟩
  intro x; simp

theorem execEchoGetCfg_held {dt mbx s t} (h : execEchoGetCfg dt mbx s = .next t) :
    ∃ f, KeepsHeld f ∧ doneOn dt f s = .next t := by
  unfold execEchoGetCfg at h
  refine ⟨_, ?_, h⟩
  intro x; simp

theorem execEchoGetCoef_held {dt mbx s t} (h : execEchoGetCoef dt mbx s = .next t) :
    ∃ f, KeepsHeld f ∧ doneOn dt f s = .next t := by
  unfold execEchoGetCoef at h
  refine ⟨_, ?_, h⟩
  intro x; simp

theorem execCalGetUser_held {dt mbx s t} (h : execCalGetUser dt mbx s = .next t) :
    ∃ f, KeepsHeld f ∧ doneOn dt f s = .next t := by
  unfold execCalGetUser at h
  refine ⟨_, ?_, h⟩
  intro x; simp

theorem execCalGetResult_held {dt mbx s t} (h : execCalGetResult dt mbx s = .next t) :
    ∃ f, KeepsHeld f ∧ doneOn dt f s = .next t := by
  unfold execCalGetResult at h
  refine ⟨_, ?_, h⟩
  intro x; simp

theorem execCalGetSkew_held {dt mbx s t} (h : execCalGetSkew dt mbx s = .next t) :
    ∃ f, KeepsHeld f ∧ doneOn dt f s = .next t := by
  unfold execCalGetSkew at h
  refine ⟨_, ?_, h⟩
  intro x; simp

theorem execTeamGetCfg_held {dt mbx s t} (h : execTeamGetCfg dt mbx s = .next t) :
    ∃ f, KeepsHeld f ∧ doneOn dt f s = .next t := by
  unfold execTeamGetCfg at h
  refine ⟨_, ?_, h⟩
  intro x; simp

theorem execOutGetQueue_held {dt mbx s t} (h : execOutGetQueue dt mbx s = .next t) :
    ∃ f, KeepsHeld f ∧ doneOn dt f s = .next t := by
  unfold execOutGetQueue at h
  refine ⟨_, ?_, h⟩
  intro x; simp

theorem execOutGetRoute_held {dt mbx s t} (h : execOutGetRoute dt mbx s = .next t) :
    ∃ f, KeepsHeld f ∧ doneOn dt f s = .next t := by
  unfold execOutGetRoute at h
  refine ⟨_, ?_, h⟩
  intro x; simp

theorem execOutGetPort_held {dt mbx s t} (h : execOutGetPort dt mbx s = .next t) :
    ∃ f, KeepsHeld f ∧ doneOn dt f s = .next t := by
  unfold execOutGetPort at h
  refine ⟨_, ?_, h⟩
  intro x; simp

theorem execOutGetGate_held {dt mbx s t} (h : execOutGetGate dt mbx s = .next t) :
    ∃ f, KeepsHeld f ∧ doneOn dt f s = .next t := by
  unfold execOutGetGate at h
  refine ⟨_, ?_, h⟩
  intro x; simp

theorem execOutGetFilter_held {dt mbx s t} (h : execOutGetFilter dt mbx s = .next t) :
    ∃ f, KeepsHeld f ∧ doneOn dt f s = .next t := by
  unfold execOutGetFilter at h
  refine ⟨_, ?_, h⟩
  intro x; simp

theorem execOutGetStream_held {dt mbx s t} (h : execOutGetStream dt mbx s = .next t) :
    ∃ f, KeepsHeld f ∧ doneOn dt f s = .next t := by
  unfold execOutGetStream at h
  refine ⟨_, ?_, h⟩
  intro x; simp

theorem execOutGetTime_held {dt mbx s t} (h : execOutGetTime dt mbx s = .next t) :
    ∃ f, KeepsHeld f ∧ doneOn dt f s = .next t := by
  unfold execOutGetTime at h
  refine ⟨_, ?_, h⟩
  intro x; simp

theorem execSafeGetCfg_held {dt mbx s t} (h : execSafeGetCfg dt mbx s = .next t) :
    ∃ f, KeepsHeld f ∧ doneOn dt f s = .next t := by
  unfold execSafeGetCfg at h
  refine ⟨_, ?_, h⟩
  intro x; simp

theorem execPwrGetCfg_held {dt mbx s t} (h : execPwrGetCfg dt mbx s = .next t) :
    ∃ f, KeepsHeld f ∧ doneOn dt f s = .next t := by
  unfold execPwrGetCfg at h
  refine ⟨_, ?_, h⟩
  intro x; simp

end Sys2Proof.Machine
end

