-- ==== Sys2Proof/Tests/Slice0.lean ====
section
/-! SUPPORT. Tests: well-formedness, no word decodes, a witness for every hypothesis of the statements, and values worked
out by hand from the spec. -/

namespace Sys2Proof.Machine.Tests

open Sys2Proof Sys2Proof.Machine

-- One theorem at a time: their kernel evaluations would otherwise wait for one another in a thread each.
set_option Elab.async false

/-! ### Helpers -/

/-- A block on, locked, idle, out of the safe state, its mailboxes served. -/
def ready : State :=
  { ctl := { mbxReady := true }
    pwr := { inReset := false, io33 := true, rstLow := false }
    safe := { safe := false, safeNLow := false, active := 0, selftest := false }
    tb := { st := .locked, refPresent := true, epochSet := true, sdPresent := true } }

/-- SEL with OPT, FIRST and LAST alike. -/
def sel (opt i : Nat) : Word := selWord opt i i

/-- SEL with CLEAR set. -/
def selClear (opt i : Nat) : Word := setFld (selWord opt i i) 63 63 1

/-- A block with one command posted in mailbox m: opcode, LENGTH, TXN_ID and payload (Table 7 of ch. 11). -/
def post (m op len txn : Nat) (ws : List Word) (s : State) : State :=
  { s with ctl := { s.ctl with
      mbx := [(m, { st := .posted, cmd := slotOf (pack [(16, op), (16, len), (16, 7), (16, txn)] :: 0 :: ws) })]
      queue := [m] } }

/-- A command of payload words alone, in mailbox 0. -/
def cmd (op : Nat) (ws : List Word) (s : State) : State := post 0 op (8 * ws.length) 0 ws s

/-- The block with these words in object i of a kind. -/
def withCfg (k : CfgKind) (i : Nat) (o : Obj) (s : State) : State := { s with cfg := tabPut s.cfg (cfgKey k i) o }

/-- The master of a formed team of two. -/
def master : State :=
  withCfg .team 0 [pack [(1, 1), (1, 1), (1, 0), (1, 1), (4, 0), (4, 1), (4, 0), (8, 20), (40, 0)]]
    { ready with team := { formed := true, peerIdle := 2, peerLock := 2, uplink := true, downlink := true } }

/-- The follower of such a team. -/
def follower : State :=
  withCfg .team 0 [pack [(1, 1), (1, 0), (1, 0), (1, 1), (4, 1), (4, 1), (4, 0), (8, 20), (40, 0)]]
    { ready with team := { formed := true, uplink := true, downlink := true } }

/-- The Playbook runs. -/
def running : State := { ready with pb := { st := .running } }

/-- A state s of a block that is on meets p at the moment a command acts on it. -/
def Meets (s : State) (p : State → Prop) : Prop := ∃ b, At 0 s b ∧ p b

theorem meets {s : State} {p : State → Prop} (h : s.on = true ∧ p (begin_ 0 s)) : Meets s p := ⟨_, ⟨h.1, rfl⟩, h.2⟩

/-- The same of a block that may be held or shut down. -/
def MeetsAny (s : State) (p : State → Prop) : Prop := ∃ b, AtAny 0 s b ∧ p b

theorem meetsAny {s : State} {p : State → Prop} (h : p (begin_ 0 s)) : MeetsAny s p := ⟨_, rfl, h⟩

/-- An outcome is a next state. -/
def isNext : Host.Outcome State Fault Refusal → Bool
  | .next _ => true
  | .fault _ => false
  | .refused _ => false

/-! ### Well-formedness and decoding -/

/-- An ill-formed term for each check, at the edge of its range. -/
theorem test_wellFormed :
    (Instr.mbxSlotWrite 0 0 0x7FFC ⟨0, none⟩).wf = false ∧ (Instr.mbxSlotWrite 0 0 0xC000 ⟨0, none⟩).wf = false ∧
    (Instr.mbxSlotWrite 0 0 0x8002 ⟨0, none⟩).wf = false ∧ (Instr.mbxSlotWrite 0 0 0xBFFC ⟨0, none⟩).wf = true ∧
    (Instr.registerWrite 0 0 0x10000 ⟨0, none⟩).wf = false ∧ (Instr.registerWrite 0 0 0x0009 ⟨0, none⟩).wf = false ∧
    (Instr.registerWrite 0 0 0xFFFC ⟨0, none⟩).wf = true ∧
    (Instr.registerWrite 0 0 0x0018 ⟨0, some 0⟩).wf = true ∧ (Instr.registerWrite 0 0 0x001C ⟨0, some 0⟩).wf = false ∧
    (Instr.registerWrite 0 1 0x0018 ⟨0, some 0⟩).wf = false ∧ (Instr.mbxSlotWrite 0 0 0x8004 ⟨0, some 0⟩).wf = false ∧
    (Instr.mbxSlotWrite 0 1 0x8000 ⟨0, some 0⟩).wf = false ∧ (Instr.mbxSlotWrite 0 0 0x8008 ⟨0, some 0⟩).wf = true := by
  decide +kernel

/-- A frame of n bytes. -/
def frameOf (n : Nat) : EthFrame :=
  { srcMac := 1, dstMac := 2, vlan := none, rtag := none, arpFor := none, udp := none, bytes := List.replicate n 0 }

theorem test_wellFormed_frame :
    (Instr.udpCtrlDatagram 0 ⟨0, frameOf 63⟩ 0 0 {}).wf = false ∧
    (Instr.udpCtrlDatagram 0 ⟨0, frameOf 64⟩ 0 0 ⟨[], List.replicate 8 0⟩).wf = false ∧
    (Instr.udpCtrlDatagram 0 ⟨0, frameOf 64⟩ 0 0 ⟨[], List.replicate 7 0⟩).wf = true ∧ (Instr.streamDatagram 0 ⟨0, frameOf 63⟩ ⟨0, 0⟩ []).wf = false ∧
    (Instr.streamDatagram 0 ⟨0, frameOf 64⟩ ⟨0, 1⟩ [[0, 0, 0]]).wf = false ∧
    (Instr.streamDatagram 0 ⟨0, frameOf 64⟩ ⟨0, 1⟩ [[0, 0, 0, 0]]).wf = true ∧
    (Instr.ethFrameRx 0 0 (frameOf 63)).wf = false ∧ (Instr.ethFrameRx 0 0 (frameOf 64)).wf = true ∧
    (Instr.ethFrameRx 0 0 { frameOf 64 with vlan := some (4096, 0) }).wf = false ∧
    (Instr.ethFrameRx 0 0 { frameOf 64 with vlan := some (4095, 8) }).wf = false ∧
    (Instr.ethFrameRx 0 0 { frameOf 64 with rtag := some 65536 }).wf = false ∧
    (Instr.ethFrameRx 0 0 { frameOf 64 with bytes := 256 :: List.replicate 63 0 }).wf = false := by decide +kernel

/-- No row of the table gives bits, so no word spells a command. -/
theorem test_decode_none : decodeTableWord 16 0x0060 = none ∧ State.reset.withFetchWord 16 0x0060 = State.reset := by
  decide +kernel

/-! ### Witnesses: the step and the frame of a command -/

theorem witness_StepRunsFront :
    ({ ready with pending := [.sdRefclkReturn 0, .logFlush 0] } : State).pending = [.sdRefclkReturn 0, .logFlush 0]
      ∧ State.reset.pending = [] := ⟨rfl, rfl⟩

theorem witness_StepKeepsQueueAndFactory :
    isNext (step { ready with pending := [.sdRefclkReturn 0, .logFlush 0] }) = true := by decide +kernel

theorem witness_StepKeepsSafeInv :
    SafeInv ready ∧ isNext (step { ready with pending := [.sdRefclkReturn 0] }) = true :=
  ⟨by unfold SafeInv; decide, by decide +kernel⟩

theorem witness_IllFormedCommandsDoNothing :
    wfSlot 0x7FFC = false ∧ wfOffset 0x10000 = false ∧ wfFrame (frameOf 63) = false ∧
    wfWide 1 0x8000 (some 0) = false ∧ wfWide 0 0x8004 (some 0) = false ∧
    wfEntries [[0, 0, 0]] = false ∧ wfUdp ⟨[], List.replicate 8 0⟩ = false := by decide +kernel

theorem witness_NoHostCommandWhileOff :
    (Instr.sysGetInfo 0 0).hostOp = some (0, 0, 0x0060) ∧ State.reset.on = false := by decide +kernel

theorem witness_SettleQuietFrame : ready.safe.todo = [] ∧ (ready.tb.coast = true → ready.tb.coast = true) := ⟨rfl, id⟩

/-- LOCKSTEP alone decided, outside the safe state. -/
theorem witness_FixedCauseEntersSafe :
    let x : State := { ready with safe := { ready.safe with todo := [{ bit := 6 }] } }
    (monCatch x).safe.todo = [{ bit := 6 }] ∧ fixedSafe.contains 6 = true ∧ x.safe.safe = false ∧ x.tb.coast = false := by decide +kernel

/-- LOCKSTEP decided in the cycle of an entry by CFG_NEW, and in a later one. -/
theorem witness_SafeStateIsKept : State.reset.safe.safe = true ∧
    (let x := fun (up : Nat) => ({ ready with up := 8192, safe := { ready.safe with safe := true, firstCause := 0x0042, todo := [{ bit := 6, up := up }] } } : State)
     (monCatch (x 8191)).safe.todo = [{ bit := 6, up := 8191 }] ∧ isSafeCause (x 8191) { bit := 6, up := 8191 } = true ∧
     cycleAt (x 8191) 8191 = cycleAt (x 8191) (x 8191).safe.entryUp ∧ causeCode 6 < (x 8191).safe.firstCause ∧
     cycleAt (x 8192) 8192 ≠ cycleAt (x 8192) (x 8192).safe.entryUp) := by decide +kernel

theorem witness_TimePassesBeforeACommand : ready.mon = [] ∧ ready.tile = [] ∧ ready.eng = [] ∧
    ready.pb.bnds = [] ∧ ready.safe.todo = [] := ⟨rfl, rfl, rfl, rfl, rfl⟩

/-! ### Witnesses: host commands -/

theorem witness_HostCommandNotNext :
    Meets ready (fun b => nextMbx b ≠ some 0) ∧
    Meets (cmd 0x0061 [sel 0 0] ready) (fun b => nextMbx b = some 0 ∧ (cmdOf b 0).opcode ≠ 0x0060) :=
  ⟨meets (by decide +kernel), meets (by decide +kernel)⟩

/-- Of two SPI mailboxes the first, early or not, whatever the second; with no SPI mailbox the first of all. -/
theorem witness_QueueIsServedInOrder :
    let s := fun (q e : List Nat) => ({ ready with ctl := { ready.ctl with queue := q, early := e } } : State)
    let free := fun (x : State) => x.ctl.queue.filter (fun k => if x.ctl.fwFault then (cmdOf x k).opcode == 0x0B60 else !heldBack x k)
    let spi := fun (x : State) => (free x).find? (fun k => mbxIface k == 1)
    nextMbx (s [0, 16, 17, 24] []) = some 16 ∧ spi (s [0, 16, 17, 24] []) = some 16 ∧
    nextMbx (s [16, 17] [16]) = some 16 ∧ spi (s [16, 17] [16]) = some 16 ∧
    nextMbx (s [0, 16, 17] [0, 16]) = some 0 ∧ spi (s [0, 16, 17] [0, 16]) = some 16 ∧
    nextMbx (s [0, 24] []) = some 0 ∧ spi (s [0, 24] []) = none ∧
    (s [0] []).on = true ∧ (s [0] []).ctl.fwFault = false ∧ (s [0] []).ctl.mbxReady = true ∧ heldBack (s [0] []) 0 = false := by
  decide +kernel

theorem witness_TakingNumbersCommands :
    let s : State := { ready with ctl := { ready.ctl with queue := [0, 1] } }
    1 ∈ s.ctl.queue ∧ 1 ≠ 0 := by decide +kernel

/-- LENGTH 0, 12 and 248. -/
theorem witness_BadLengthIsRefusedFirst :
    (Instr.sysGetInfo 0 0).hostOp = some (0, 0, 0x0060) ∧
    [0, 12, 248].all (fun n => lenForm (cmdOf (begin_ 0 (post 0 0x0060 n 0 [] ready)) 0) == false
      && nextMbx (begin_ 0 (post 0 0x0060 n 0 [] ready)) == some 0) = true := by decide +kernel

/-- SAFE.SET_CFG with the words in force. -/
def safeSet : List Word := sel 0 0 :: resetWords 0 .safe 0

theorem witness_SettingTakesEffectWhileIdle :
    (Instr.safeSetCfg 0 0).setOp = some (0, 0, 0x0B01) ∧
    Meets (cmd 0x0B01 safeSet ready) (fun b => nextMbx b = some 0 ∧ (cmdOf b 0).opcode = 0x0B01 ∧
      writerKind 0x0B01 (cmdOf b 0).opt = some .safe ∧
      headStatus (taken 0 b) (cmdOf b 0) (writeRow .safe (cmdOf b 0)) = stOk ∧ (cmdOf b 0).txn = 0 ∧
      isIdle (taken 0 b) = true ∧ tapsBusy (taken 0 b) (cfgAt (taken 0 b) 1) (writeOps .safe (cmdOf b 0)) = false ∧
      (queueMissing (taken 0 b) .safe (cmdOf b 0) || persMissing (taken 0 b) .safe (cmdOf b 0)) = false ∧
      setStatus (taken 0 b) 4 (writeOps .safe (cmdOf b 0)) = stOk) :=
  ⟨by decide, meets (by decide +kernel)⟩

/-- TB.SET_MODE with HUDDLE_EN (class I), and SAFE.SET_CFG with sixteen sets and with none waiting. -/
theorem witness_SettingWaitsWhileRunning :
    let head := fun (b : State) (op : Nat) (k : CfgKind) => nextMbx b = some 0 ∧ (cmdOf b 0).opcode = op ∧
      writerKind op (cmdOf b 0).opt = some k ∧ headStatus (taken 0 b) (cmdOf b 0) (writeRow k (cmdOf b 0)) = stOk ∧
      (cmdOf b 0).txn = 0 ∧ isIdle (taken 0 b) = false ∧
      tapsBusy (taken 0 b) (cfgAt (taken 0 b) 1) (writeOps k (cmdOf b 0)) = false ∧
      (queueMissing (taken 0 b) k (cmdOf b 0) || persMissing (taken 0 b) k (cmdOf b 0)) = false
    Meets (cmd 0x0102 [sel 0 0, 0x000007D000006408] running) (fun b => head b 0x0102 .mode ∧
      setBoundary (taken 0 b) 1 (writeOps .mode (cmdOf b 0)) = none) ∧
    Meets (cmd 0x0B01 safeSet { running with ctl := { running.ctl with waiting := List.replicate 16 {} } }) (fun b =>
      head b 0x0B01 .safe ∧ setBoundary (taken 0 b) 1 (writeOps .safe (cmdOf b 0)) = some 1 ∧
      soonSet (taken 0 b) 1 (writeOps .safe (cmdOf b 0)) = false ∧ 16 ≤ (taken 0 b).ctl.waiting.length) ∧
    Meets (cmd 0x0B01 safeSet running) (fun b => head b 0x0B01 .safe ∧
      setBoundary (taken 0 b) 1 (writeOps .safe (cmdOf b 0)) = some 1 ∧
      soonSet (taken 0 b) 1 (writeOps .safe (cmdOf b 0)) = false ∧ (taken 0 b).ctl.waiting.length < 16 ∧
      setStatus (taken 0 b) 1 (writeOps .safe (cmdOf b 0)) = stOk) :=
  ⟨meets (by decide +kernel), meets (by decide +kernel), meets (by decide +kernel)⟩

/-- Bank 1 of quadrant 3, with Σh = 128, while running: with no fade, and beside one. -/
theorem witness_SettingWaitsWhileRunning_coef :
    let head := fun (b : State) => nextMbx b = some 0 ∧ (cmdOf b 0).opcode = 0x0702 ∧
      writerKind 0x0702 (cmdOf b 0).opt = some .coef ∧
      headStatus (taken 0 b) (cmdOf b 0) (writeRow .coef (cmdOf b 0)) = stOk ∧ (cmdOf b 0).txn = 0 ∧
      isIdle (taken 0 b) = false ∧ tapsBusy (taken 0 b) (cfgAt (taken 0 b) 1) (writeOps .coef (cmdOf b 0)) = false
    let set := fun (s : State) => cmd 0x0702 (sel 1 3 :: 128 :: List.replicate 15 0) s
    (Instr.echoSetCoef 0 0).setOp = some (0, 0, 0x0702) ∧
    Meets (set running) (fun b => head b ∧ setStatus (taken 0 b) 0 (writeOps .coef (cmdOf b 0)) = stOk) ∧
    Meets (set { running with eng := [(3, { run := true })] }) (fun b => head b ∧
      setStatus (taken 0 b) 0 (writeOps .coef (cmdOf b 0)) = stIncons ∧ stIncons ≠ stOk) :=
  ⟨by decide, meets (by decide +kernel), meets (by decide +kernel)⟩

/-- An open transaction of PCI Express. -/
def openTxn : Txn := { st := .open, iface := 0, timeoutMs := 100, lastAt := 0 }

/-- The block with this transaction under the ID 1. -/
def withTxn (x : Txn) (s : State) : State := { s with ctl := { s.ctl with txns := [(1, x)] } }

/-- A transaction that fills the shadow: 2,048 commands of 240 bytes. -/
def fullTxn : Txn := { openTxn with staged := List.replicate 2048 { cmd := { payload := List.replicate 30 0 } } }

theorem witness_SettingIsStagedInATransaction :
    let head := fun (b : State) => nextMbx b = some 0 ∧ (cmdOf b 0).opcode = 0x0B01 ∧
      writerKind 0x0B01 (cmdOf b 0).opt = some .safe ∧
      headStatus (taken 0 b) (cmdOf b 0) (writeRow .safe (cmdOf b 0)) = stOk ∧ (cmdOf b 0).txn ≠ 0 ∧
      queueMissing (taken 0 b) .safe (cmdOf b 0) = false
    Meets (post 0 0x0B01 32 1 safeSet (withTxn openTxn ready)) (fun b => head b ∧
      txnFind (taken 0 b) 1 0 = some openTxn ∧ shadowUsed (taken 0 b) + 16 + (cmdOf b 0).len ≤ 524288) ∧
    Meets (post 0 0x0B01 32 1 safeSet (withTxn fullTxn ready)) (fun b => head b ∧
      (txnFind (taken 0 b) 1 0).isSome = true ∧ 524288 < shadowUsed (taken 0 b) + 16 + (cmdOf b 0).len) :=
  ⟨meets (by decide +kernel), meets (by decide +kernel)⟩

theorem witness_ReadbackAnswersTheObjects :
    (Instr.safeGetCfg 0 0).getOp = some (0, 0, 0x0B81) ∧
    Meets (cmd 0x0B81 [sel 0 0] ready) (fun b => nextMbx b = some 0 ∧ (cmdOf b 0).opcode = 0x0B81 ∧
      writerKind (0x0B81 - 0x80) (cmdOf b 0).opt = some .safe ∧
      (selPlain (cmdOf b 0) false (kindOpts .safe) && readSel (taken 0 b) .safe (cmdOf b 0) &&
        (CfgKind.safe != .gate || onlyBits ((cmdOf b 0).w 1) [(60, 53)])) = true ∧
      headStatus (taken 0 b) (cmdOf b 0) { len := readLen .safe (cmdOf b 0), range := true } = stOk) :=
  ⟨by decide, meets (by decide +kernel)⟩

/-- Row of a status command without CLEAR and with it. -/
def statPasses (op : Nat) (row : State → Cmd → Row) (opt : Nat) (clear : Bool) (s : State) : Bool :=
  let b := begin_ 0 (cmd op [if clear then selClear opt 0 else sel opt 0] s)
  passes 0 op row b && (cmdOf b 0).clear == clear && (cmdOf b 0).opt == opt

theorem witness_StatusCommands : ready.on = true ∧
    ([(0x0060, rowNone 1 false anyCmd), (0x0061, rowNone 1 true anyCmd), (0x0160, rowNone 1 false anyCmd),
      (0x0260, rowStat [(64, 6)] true), (0x0360, rowNone 1 true anyCmd), (0x0460, rowStat [(1024, 14), (32, 29)] true),
      (0x0560, rowStat [(1024, 15), (64, 5)] true), (0x0660, rowStat [(1024, 15), (64, 30), (4, 4)] true),
      (0x0760, rowStat [(4, 4), (1024, 15)] true), (0x0860, rowNone 1 true anyCmd),
      (0x0861, fun s c => { len := lenIs c 1, range := selPlain c false [0] && selRange c (calIndices s s.cal.resKind) 15 }),
      (0x0862, fun _ c => { len := lenIs c 1, range := selPlain c false [0] && selRange c 64 5 }),
      (0x0960, rowNone 1 true anyCmd), (0x0A60, rowStat [(1048576, 15), (3, 3), (0, 0)] true),
      (0x0B60, rowNone 1 true anyCmd), (0x0C60, rowNone 1 true anyCmd),
      (0x0D60, fun _ c => { len := lenIs c 1, txn := true, range := selPlain c false [0] && selOne c 65536 })]
        : List (Nat × (State → Cmd → Row))).all
      (fun r => statPasses r.1 r.2 0 false { ready with cal := { resKind := 1 } }) = true := by decide +kernel

theorem witness_StatusCommands_clear :
    ([(0x0061, rowNone 1 true anyCmd, 0), (0x0260, rowStat [(64, 6)] true, 0), (0x0B60, rowNone 1 true anyCmd, 0),
      (0x0C60, rowNone 1 true anyCmd, 0), (0x0860, rowNone 1 true anyCmd, 0), (0x0360, rowNone 1 true anyCmd, 0),
      (0x0960, rowNone 1 true anyCmd, 0), (0x0460, rowStat [(1024, 14), (32, 29)] true, 1),
      (0x0560, rowStat [(1024, 15), (64, 5)] true, 1), (0x0660, rowStat [(1024, 15), (64, 30), (4, 4)] true, 2),
      (0x0760, rowStat [(4, 4), (1024, 15)] true, 0), (0x0760, rowStat [(4, 4), (1024, 15)] true, 1), (0x0A60, rowStat [(1048576, 15), (3, 3), (0, 0)] true, 0),
      (0x0A60, rowStat [(1048576, 15), (3, 3), (0, 0)] true, 1), (0x0A60, rowStat [(1048576, 15), (3, 3), (0, 0)] true, 2)] : List (Nat × (State → Cmd → Row) × Nat)).all
      (fun r => statPasses r.1 r.2.1 r.2.2 true ready) = true := by decide +kernel

/-! ### Witnesses: actions -/

/-- A row of TXN.OPEN, and of TXN.ABORT and TXN.COMMIT. -/
def rowOpen : State → Cmd → Row := fun _ c =>
  { len := lenIs c 2, txn := true
    range := selPlain c false [0] && selNone c && decide (1 ≤ (c.w 1).toNat) && decide ((c.w 1).toNat ≤ 60000) }

theorem witness_Transactions_open :
    Meets (cmd 0x0D40 [sel 0 0, 1] ready) (fun b => passes 0 0x0D40 rowOpen b = true ∧ openTxns (taken 0 b) < 4) ∧
    Meets (cmd 0x0D40 [sel 0 0, 60000] { ready with ctl := { ready.ctl with
        txns := [(1, openTxn), (2, openTxn), (3, openTxn), (4, openTxn)] } })
      (fun b => passes 0 0x0D40 rowOpen b = true ∧ 4 ≤ openTxns (taken 0 b)) :=
  ⟨meets (by decide +kernel), meets (by decide +kernel)⟩

theorem witness_Transactions_close :
    Meets (cmd 0x0D42 [sel 0 1] (withTxn openTxn ready)) (fun b => nextMbx b = some 0 ∧ (cmdOf b 0).opcode = 0x0D42 ∧
      txnFind (taken 0 b) (cmdOf b 0).first 0 = some openTxn ∧
      headStatus (taken 0 b) (cmdOf b 0)
        { len := lenIs (cmdOf b 0) 1, txn := true, range := selPlain (cmdOf b 0) false [0] && selOne (cmdOf b 0) 65536 } = stOk) ∧
    Meets (cmd 0x0D41 [sel 0 1, 3] (withTxn { openTxn with staged := [{ ops := [.write (cfgKey .safe 0) (resetWords 0 .safe 0)] }] }
        ready)) (fun b => nextMbx b = some 0 ∧ (cmdOf b 0).opcode = 0x0D41 ∧
      let u := txnTouch (cmdOf b 0).first 0 (taken 0 b)
      isIdle u = true ∧
      (match txnFind u (cmdOf b 0).first 0 with
       | some x => headStatus u (cmdOf b 0) {
                     len := lenIs (cmdOf b 0) 2, txn := true, range := selPlain (cmdOf b 0) false [0] && selOne (cmdOf b 0) 65536
                       && onlyBits ((cmdOf b 0).w 1) [(1, 0)] } = stOk ∧
                   commitPlan u (fld ((cmdOf b 0).w 1) 1 0) x.staged = (stOk, 4)
       | none => False)) :=
  ⟨meets (by decide +kernel), meets (by
    refine ⟨by decide, by decide +kernel, by decide +kernel, by decide +kernel, ?_⟩
    exact ⟨by decide +kernel, by decide +kernel⟩)⟩

/-- TXN.COMMIT of transaction 1 with this effect staged, asking for a boundary, by a block. -/
def commits (ask : Word) (n : Nat) (o : SetOp) (s : State) : State :=
  cmd 0x0D41 [sel 0 1, ask] (withTxn { openTxn with staged := List.replicate n { ops := [o] } } s)

/-- A transaction ID of the form but reserved bits in the request; a class I field while running; no room to wait; at once
and at the boundary asked for. -/
theorem witness_Transactions_running :
    let lim : SetOp := .write (cfgKey .emLim 0) (resetWords 0 .emLim 0)
    let mode : SetOp := .write (cfgKey .mode 0) [0x000007D000006408]
    let u := fun (b : State) => txnTouch (cmdOf b 0).first 0 (taken 0 b)
    let head := fun (b : State) => headStatus (u b) (cmdOf b 0) {
      len := lenIs (cmdOf b 0) 2, txn := true, range := selPlain (cmdOf b 0) false [0] && selOne (cmdOf b 0) 65536
        && onlyBits ((cmdOf b 0).w 1) [(1, 0)] }
    let plan := fun (b : State) => ((txnFind (u b) (cmdOf b 0).first 0).map (fun x => commitPlan (u b) (fld ((cmdOf b 0).w 1) 1 0) x.staged))
    Meets (commits 4 1 lim running) (fun b => nextMbx b = some 0 ∧ head b = stRange ∧ (plan b).isSome = true) ∧
    Meets (commits 1 1 mode running) (fun b => nextMbx b = some 0 ∧ head b = stOk ∧ (plan b).map Prod.fst = some stNotIdle) ∧
    Meets (commits 1 1 lim { running with ctl := { running.ctl with waiting := List.replicate 16 {} } }) (fun b =>
      nextMbx b = some 0 ∧ head b = stOk ∧ (plan b).map Prod.fst = some stNoRes) ∧
    Meets (commits 0 1 lim running) (fun b => nextMbx b = some 0 ∧ head b = stOk ∧ plan b = some (stOk, 0) ∧ isIdle (u b) = false) ∧
    Meets (commits 3 1 lim running) (fun b => nextMbx b = some 0 ∧ head b = stOk ∧ plan b = some (stOk, 3) ∧ isIdle (u b) = false) :=
  ⟨meets (by decide +kernel), meets (by decide +kernel), meets (by decide +kernel), meets (by decide +kernel),
   meets (by decide +kernel)⟩

theorem witness_Transactions_timeout :
    [TxnSt.open, .committed, .aborted, .timedOut].all (fun st =>
      (begin_ 0 (withTxn { openTxn with st := st } ready)).ctl.txns.find? (fun p => p.1 == 1)
        == some (1, { openTxn with st := st })) = true := by decide +kernel

theorem witness_SafeCommands :
    let safe : State := { ready with safe := { safe := true, active := 0, selftest := false } }
    let late := fun (b : State) => dueNow (reachUp (b.up + 8192 - (b.now % 8192).toNat) b)
    let ok := fun (b : State) => passes 0 0x0B40 (rowNone 1 false anyCmd) b = true ∧ b.safe.safe = true ∧
      passes 0 0x0B40 (rowNone 1 false anyCmd) (late b) = true
    let u := fun (b : State) => taken 0 (late b)
    Meets (cmd 0x0B40 [sel 0 0] safe) (fun b => ok b ∧ (u b).safe.active = 0 ∧ (u b).safe.selftest = false ∧
      decidedNow (u b) = false) ∧
    Meets (cmd 0x0B40 [sel 0 0] { safe with safe := { safe.safe with decUp := some 1 } }) (fun b => ok b ∧ decidedNow (u b) = true) ∧
    Meets (cmd 0x0B40 [sel 0 0] { safe with safe := { safe.safe with selftest := true } }) (fun b => ok b ∧
      (u b).safe.selftest = true) ∧
    Meets (cmd 0x0B40 [sel 0 0] ready) (fun b => passes 0 0x0B40 (rowNone 1 false anyCmd) b = true ∧ b.safe.safe = false) ∧
    Meets (cmd 0x0B41 [sel 0 0] ready) (fun b => passes 0 0x0B41 (rowNone 1 false anyCmd) b = true) ∧
    Meets (cmd 0x0B42 [sel 0 0, 0] ready) (fun b => passes 0 0x0B42 (rowNone 2 false anyCmd) b = true ∧
      fld ((cmdOf b 0).w 1) 63 32 = (taken 0 b).ctl.pubEpoch ∧ fld ((cmdOf b 0).w 1) 31 0 = (taken 0 b).ctl.pubDigest) ∧
    Meets (cmd 0x0B42 [sel 0 0, 1] ready) (fun b => passes 0 0x0B42 (rowNone 2 false anyCmd) b = true ∧
      fld ((cmdOf b 0).w 1) 31 0 ≠ (taken 0 b).ctl.pubDigest) :=
  ⟨meets (by decide +kernel), meets (by decide +kernel), meets (by decide +kernel), meets (by decide +kernel), meets (by decide +kernel),
   meets (by decide +kernel), meets (by decide +kernel)⟩

theorem witness_PlaybookCommands_start :
    let start := fun (s : State) => cmd 0x0342 [sel 0 4095] s
    let ok := fun (b : State) => passes 0 0x0342 (rowOne 1 4096 anyCmd) b = true
    Meets (start ready) (fun b => ok b ∧ isIdle (taken 0 b) = true ∧ (taken 0 b).tb.st = .locked ∧
      (taken 0 b).safe.safe = false ∧ (taken 0 b).pb.underrun = false) ∧
    Meets (start running) (fun b => ok b ∧ (taken 0 b).safe.safe = false ∧ (taken 0 b).tb.st = .locked ∧
      isIdle (taken 0 b) = false) ∧
    Meets (start { ready with tb := { ready.tb with st := .coast } }) (fun b => ok b ∧ (taken 0 b).safe.safe = false ∧
      (taken 0 b).tb.st ≠ .locked) ∧
    Meets (start { ready with safe := { ready.safe with safe := true } }) (fun b => ok b ∧ isIdle (taken 0 b) = true ∧
      (taken 0 b).tb.st = .locked ∧ (taken 0 b).safe.safe = true) ∧
    Meets (start { ready with pb := { underrun := true } }) (fun b => ok b ∧ isIdle (taken 0 b) = true ∧
      (taken 0 b).tb.st = .locked ∧ (taken 0 b).safe.safe = false ∧ (taken 0 b).pb.underrun = true) :=
  ⟨meets (by decide +kernel), meets (by decide +kernel), meets (by decide +kernel), meets (by decide +kernel),
   meets (by decide +kernel)⟩

theorem witness_PlaybookCommands_others :
    let stop : State → Cmd → Row := fun _ c => { len := lenIs c 1, range := selPlain c false [0, 1, 2] && selNone c }
    let jump : State → Cmd → Row := fun s c =>
      { len := lenIs c 1, range := selPlain c false [0] && selOne c 256 && cfgF s .jump c.first 0 13 12 != 0 }
    let arm : State → Cmd → Row := fun _ c => { len := lenIs c 1, range := selPlain c false [0, 1] && selOne c 256, stage := true }
    let close : State → Cmd → Row := fun _ c => { len := lenIs c 1, range := selPlain c false [0] && selNone c }
    Meets (cmd 0x0343 [sel 0 0] running) (fun b => passes 0 0x0343 stop b = true ∧ isIdle (taken 0 b) = false ∧
      (taken 0 b).pb.st ≠ .stopping ∧ (cmdOf b 0).opt = 0) ∧
    Meets (cmd 0x0343 [sel 2 0] running) (fun b => passes 0 0x0343 stop b = true ∧ isIdle (taken 0 b) = false ∧
      (taken 0 b).pb.st ≠ .stopping ∧ (cmdOf b 0).opt ≠ 0) ∧
    Meets (cmd 0x0345 [sel 0 0] ready) (fun b => passes 0 0x0345 (rowNone 1 false anyCmd) b = true) ∧
    Meets (cmd 0x0341 [sel 0 255] (withCfg .jump 255 [0x1000] ready)) (fun b => passes 0 0x0341 jump b = true) ∧
    Meets (cmd 0x0340 [sel 1 255] ready) (fun b => passes 0 0x0340 arm b = true ∧ (cmdOf b 0).txn = 0) ∧
    Meets (cmd 0x0344 [sel 0 0] ready) (fun b => passes 0 0x0344 close b = true ∧ isIdle (taken 0 b) = true ∧
      let ops := [SetOp.write (cfgKey .stream 0)
        [setFld ((cfgObj (taken 0 b) .stream 0).getD 0 0) 27 26 0, (cfgObj (taken 0 b) .stream 0).getD 1 0]]
      tapsBusy (taken 0 b) (cfgAt (taken 0 b) 1) ops = false ∧ setStatus (taken 0 b) 4 ops = stOk) :=
  ⟨meets (by decide +kernel), meets (by decide +kernel), meets (by decide +kernel), meets (by decide +kernel),
   meets (by decide +kernel), meets (by decide +kernel)⟩

/-- PB.STOP while idle and while stopping, PB.JUMP of an empty slot, and PB.STREAM_CLOSE while running, with a source and with
none. -/
theorem witness_PlaybookCommands_none :
    let stop : State → Cmd → Row := fun _ c => { len := lenIs c 1, range := selPlain c false [0, 1, 2] && selNone c }
    let jump : State → Cmd → Row := fun _ c => { len := lenIs c 1, range := selPlain c false [0] && selOne c 256 }
    let close : State → Cmd → Row := fun _ c => { len := lenIs c 1, range := selPlain c false [0] && selNone c }
    let ops := fun (b : State) => [SetOp.write (cfgKey .stream 0)
      [setFld ((cfgObj (taken 0 b) .stream 0).getD 0 0) 27 26 0, (cfgObj (taken 0 b) .stream 0).getD 1 0]]
    let shut := fun (b : State) => passes 0 0x0344 close b = true ∧ isIdle (taken 0 b) = false ∧
      tapsBusy (taken 0 b) (cfgAt (taken 0 b) 1) (ops b) = false
    Meets (cmd 0x0343 [sel 0 0] ready) (fun b => passes 0 0x0343 stop b = true ∧ isIdle (taken 0 b) = true) ∧
    Meets (cmd 0x0343 [sel 2 0] { ready with pb := { st := .stopping } }) (fun b => passes 0 0x0343 stop b = true ∧
      (taken 0 b).pb.st = .stopping) ∧
    Meets (cmd 0x0341 [sel 0 255] ready) (fun b => passes 0 0x0341 jump b = true ∧
      cfgF (taken 0 b) .jump (cmdOf b 0).first 0 13 12 = 0) ∧
    Meets (cmd 0x0344 [sel 0 0] (withCfg .stream 0 [pack [(16, 0), (16, 0), (4, 8), (2, 2), (5, 8), (21, 0)], 0] running)) (fun b =>
      shut b ∧ setBoundary (taken 0 b) 1 (ops b) = none) ∧
    Meets (cmd 0x0344 [sel 0 0] running) (fun b => shut b ∧ setBoundary (taken 0 b) 1 (ops b) = some 1 ∧
      soonSet (taken 0 b) 1 (ops b) = false ∧ (taken 0 b).ctl.waiting.length < 16 ∧ setStatus (taken 0 b) 1 (ops b) = stOk) :=
  ⟨meets (by decide +kernel), meets (by decide +kernel), meets (by decide +kernel), meets (by decide +kernel),
   meets (by decide +kernel)⟩

theorem witness_BlockActions :
    Meets (cmd 0x0240 [sel 0 0, 1] ready) (fun b => passes 0 0x0240 (rowNone 2 false (fun c => c.w 1 != 0)) b = true) ∧
    Meets (cmd 0x0A40 [selWord 0 0 4095] ready) (fun b =>
      passes 0 0x0A40 (fun _ c => { len := lenIs c 1, range := selPlain c false [0] && selRange c 1048576 1048576 }) b = true ∧
      (cmdOf b 0).last < queueCount (taken 0 b) ∧ anyEnabled (cmdOf b 0) (taken 0 b) = false) ∧
    Meets (cmd 0x0940 [sel 0 0, 0, 0] master) (fun b =>
      passes 0 0x0940 (rowNone 3 false (fun c => onlyBits (c.w 1) [(35, 0)] && onlyBits (c.w 2) [(35, 0)])) b = true ∧
      isMaster (taken 0 b) = true ∧ (taken 0 b).team.formed = true ∧ isIdle (taken 0 b) = true ∧ teamIdle (taken 0 b) = true) ∧
    Meets (cmd 0x0741 [selWord 1 0 1023] ready) (fun b =>
      passes 0 0x0741 (fun _ c => { len := lenIs c 1, range := selPlain c false [0, 1] && selRange c 1024 1024 }) b = true) ∧
    Meets (cmd 0x0740 [sel 1 3, 0xFFFF] ready) (fun b => passes 0 0x0740 (fun _ c => {
      len := lenIs c 2, stage := true, range := selPlain c false [0, 1] && selOne c 4 && onlyBits (c.w 1) [(15, 0)] }) b = true ∧ (cmdOf b 0).txn = 0) :=
  ⟨meets (by decide +kernel), meets (by decide +kernel), meets (by decide +kernel), meets (by decide +kernel),
   meets (by decide +kernel)⟩

theorem witness_TimebaseCommands :
    let hop : State := { ready with tb := { ready.tb with slots := [(7, {})] } }
    Meets (cmd 0x0141 [sel 0 7] ready) (fun b => passes 0 0x0141 (rowOne 1 8 anyCmd) b = true ∧
      isIdle (taken 0 b) = true ∧ (taken 0 b).tb.st = .locked) ∧
    Meets (cmd 0x0141 [sel 0 7] { running with tb := { ready.tb with st := .slewing } }) (fun b =>
      passes 0 0x0141 (rowOne 1 8 anyCmd) b = true ∧ (taken 0 b).tb.st ≠ .locked) ∧
    Meets (cmd 0x0143 [sel 0 0] { ready with tb := { ready.tb with st := .slewing } }) (fun b =>
      passes 0 0x0143 (rowNone 1 false anyCmd) b = true ∧ (taken 0 b).tb.st ≠ .locked) ∧
    Meets (cmd 0x0140 [sel 0 0] ready) (fun b => passes 0 0x0140 (rowNone 1 false anyCmd) b = true ∧
      isIdle (taken 0 b) = true ∧ bgBusy (taken 0 b) 1 = false) ∧
    Meets (cmd 0x0142 [sel 0 7] hop) (fun b => passes 0 0x0142 (rowOne 1 8 anyCmd) b = true ∧ isIdle (taken 0 b) = true ∧
      (taken 0 b).tb.slots.any (fun x => x.1 == (cmdOf b 0).first) = true ∧ bgBusy (taken 0 b) 1 = false) ∧
    Meets (cmd 0x0143 [sel 0 0] ready) (fun b => passes 0 0x0143 (rowNone 1 false anyCmd) b = true ∧
      (taken 0 b).tb.st = .locked ∧ followMode (taken 0 b) = false ∧ isFollower (taken 0 b) = false ∧
      (taken 0 b).tb.phaseOfs = 0) ∧
    Meets (cmd 0x0143 [sel 0 0] { ready with tb := { ready.tb with phaseOfs := 5 } }) (fun b =>
      passes 0 0x0143 (rowNone 1 false anyCmd) b = true ∧ (taken 0 b).tb.st = .locked ∧ followMode (taken 0 b) = false ∧
      isFollower (taken 0 b) = false ∧ (taken 0 b).tb.phaseOfs ≠ 0) :=
  ⟨meets (by decide +kernel), meets (by decide +kernel), meets (by decide +kernel), meets (by decide +kernel),
   meets (by decide +kernel), meets (by decide +kernel), meets (by decide +kernel)⟩

/-- The block with this tile. -/
def withTile (i : Nat) (t : Tile) (s : State) : State := { s with tile := tabPut s.tile i t }

/-- A queue of class C3 that takes records. -/
def withQueue (s : State) : State :=
  withCfg .queue 5 [pack [(1, 1), (2, 3), (2, 0), (3, 0), (4, 0), (2, 1), (6, 0), (5, 12), (39, 0)], 0, 0, 0] s

/-- An enabled queue; the band commands while running, a slot never stored, and TB.REALIGN in FOLLOW mode and on a follower. -/
theorem witness_ResetQueue_and_Timebase_refused :
    let slew := fun (s : State) => withCfg .mode 0 [setFld (cfgW s .mode 0 0) 15 15 1] s
    Meets (cmd 0x0A40 [selWord 0 0 4095] (withQueue ready)) (fun b =>
      passes 0 0x0A40 (fun _ c => { len := lenIs c 1, range := selPlain c false [0] && selRange c 1048576 1048576 }) b = true ∧
      (cmdOf b 0).last < queueCount (taken 0 b) ∧ anyEnabled (cmdOf b 0) (taken 0 b) = true) ∧
    Meets (cmd 0x0141 [sel 0 7] running) (fun b => passes 0 0x0141 (rowOne 1 8 anyCmd) b = true ∧
      isIdle (taken 0 b) = false ∧ (taken 0 b).tb.st = .locked) ∧
    Meets (cmd 0x0140 [sel 0 0] running) (fun b => passes 0 0x0140 (rowNone 1 false anyCmd) b = true ∧ isIdle (taken 0 b) = false) ∧
    Meets (cmd 0x0142 [sel 0 7] running) (fun b => passes 0 0x0142 (rowOne 1 8 anyCmd) b = true ∧ isIdle (taken 0 b) = false) ∧
    Meets (cmd 0x0142 [sel 0 7] ready) (fun b => passes 0 0x0142 (rowOne 1 8 anyCmd) b = true ∧ isIdle (taken 0 b) = true ∧
      (taken 0 b).tb.slots.any (fun x => x.1 == (cmdOf b 0).first) = false) ∧
    Meets (cmd 0x0143 [sel 0 0] (slew ready)) (fun b => passes 0 0x0143 (rowNone 1 false anyCmd) b = true ∧
      (taken 0 b).tb.st = .locked ∧ followMode (taken 0 b) = true) ∧
    Meets (cmd 0x0143 [sel 0 0] follower) (fun b => passes 0 0x0143 (rowNone 1 false anyCmd) b = true ∧
      (taken 0 b).tb.st = .locked ∧ isFollower (taken 0 b) = true) :=
  ⟨meets (by decide +kernel), meets (by decide +kernel), meets (by decide +kernel), meets (by decide +kernel),
   meets (by decide +kernel), meets (by decide +kernel), meets (by decide +kernel)⟩

/-- A local arm of a REC_TEAM tile of a team; readouts of a tile DISARMED, in HOLD and in READING, and to no queue. -/
theorem witness_RecorderCommands_refused :
    let arm : State → Cmd → Row := fun _ c => { len := lenIs c 2, range := selPlain c false [0, 1] && selNone c && c.w 1 != 0 }
    let at_ := fun (st : RecSt) => cmd 0x0543 [sel 0 5, 1] (withQueue (withTile 0 { rcd := { st := st } } ready))
    let read := fun (b : State) => passes 0 0x0543 (rowQueue 2 (fun c => c.w 1 != 0)) b = true ∧ maskTiles (cmdOf b 0) = [0]
    Meets (cmd 0x0540 [sel 0 0, 1] (withCfg .rcd 0 [pack [(18, 0), (1, 1), (45, 0)], 0] master)) (fun b =>
      passes 0 0x0540 arm b = true ∧ ((maskTiles (cmdOf b 0)).any (fun ti => (tileGet (taken 0 b) ti).calOut)) = false ∧
      (cmdOf b 0).opt = 0 ∧ teamEn (taken 0 b) = true ∧
      ((maskTiles (cmdOf b 0)).any (fun ti => cfgF (taken 0 b) .rcd ti 0 45 45 == 1)) = true) ∧
    Meets (at_ .disarmed) (fun b => read b ∧ (tileGet (taken 0 b) 0).rcd.st = .disarmed) ∧
    Meets (at_ .hold) (fun b => read b ∧ (tileGet (taken 0 b) 0).rcd.st = .hold) ∧
    Meets (at_ .reading) (fun b => read b ∧ (tileGet (taken 0 b) 0).rcd.st = .reading) ∧
    Meets (cmd 0x0543 [sel 0 5, 1] ready) (fun b => read b ∧ queueTakes (taken 0 b) (cmdOf b 0).first = false) :=
  ⟨meets (by decide +kernel), meets (by decide +kernel), meets (by decide +kernel), meets (by decide +kernel),
   meets (by decide +kernel)⟩

theorem witness_RecorderCommands :
    let arm : State → Cmd → Row := fun _ c => { len := lenIs c 2, range := selPlain c false [0, 1] && selNone c && c.w 1 != 0 }
    Meets (cmd 0x0540 [sel 0 0, 1] ready) (fun b => passes 0 0x0540 arm b = true ∧
      ((maskTiles (cmdOf b 0)).any (fun ti => (tileGet (taken 0 b) ti).calOut)) = false ∧ (cmdOf b 0).opt = 0 ∧
      (teamEn (taken 0 b) && (maskTiles (cmdOf b 0)).any (fun ti => cfgF (taken 0 b) .rcd ti 0 45 45 == 1)) = false) ∧
    Meets (cmd 0x0540 [sel 1 0, 1] master) (fun b => passes 0 0x0540 arm b = true ∧
      ((maskTiles (cmdOf b 0)).any (fun ti => (tileGet (taken 0 b) ti).calOut)) = false ∧ (cmdOf b 0).opt = 1 ∧
      isMaster (taken 0 b) = true) ∧
    Meets (cmd 0x0541 [sel 0 0, 1] ready) (fun b => passes 0 0x0541 (rowNone 2 false (fun c => c.w 1 != 0)) b = true) ∧
    Meets (cmd 0x0542 [sel 0 0, 1] ready) (fun b => passes 0 0x0542 (rowNone 2 false (fun c => c.w 1 != 0)) b = true) ∧
    Meets (cmd 0x0543 [sel 0 5, 1] (withQueue (withTile 0 { rcd := { st := .frozen } } ready))) (fun b =>
      passes 0 0x0543 (rowQueue 2 (fun c => c.w 1 != 0)) b = true ∧ queueTakes (taken 0 b) (cmdOf b 0).first = true ∧
      ∀ ti ∈ maskTiles (cmdOf b 0), (tileGet (taken 0 b) ti).rcd.st ≠ .disarmed ∧ (tileGet (taken 0 b) ti).rcd.st ≠ .hold ∧
        (tileGet (taken 0 b) ti).rcd.st ≠ .reading) :=
  ⟨meets (by decide +kernel), meets (by decide +kernel), meets (by decide +kernel), meets (by decide +kernel),
   meets (by decide +kernel)⟩

/-- W2 to W4 of a CAL.ZERO: one shot a block, channel 0 of EM0, two events of at least 1 µs apart. -/
def zeroWords : List Word :=
  [1, pack [(16, 1), (2, 0), (6, 0), (8, 0), (8, 0), (8, 0), (16, 1)], 0, pack [(16, 2), (16, 1), (16, 1), (16, 1)]]

/-- The checks of CAL.LIN and CAL.ZERO that concern the device. -/
abbrev calFree (t : State) (mask : Nat) : Prop := t.tb.st = .locked ∧ t.safe.safe = false ∧ teamCalibrates t = false ∧
  ((tilesOf mask).any (fun ti =>
    let r := (tileGet t ti).rcd.st
    r == .filling || r == .frozen || r == .reading)) = false

/-- EM0 is ARMED. -/
def armedEm (s : State) : State := withCfg .emCh 0 [0, pack [(26, 0), (2, 2), (36, 0)]] s

theorem witness_CalibrationCommands :
    Meets (cmd 0x0840 [sel 0 0, 1] ready) (fun b => bgBusy (taken 0 b) 8 = false ∧
      passes 0 0x0840 (rowNone 2 false (fun c => c.w 1 != 0)) b = true ∧ calFree (taken 0 b) ((cmdOf b 0).w 1).toNat) ∧
    Meets (cmd 0x0841 (sel 0 0 :: zeroWords) (armedEm ready)) (fun b => bgBusy (taken 0 b) 8 = false ∧
      passes 0 0x0841 (rowNone 5 false zeroRange) b = true ∧ calFree (taken 0 b) ((cmdOf b 0).w 1).toNat ∧
      ((cmdOf b 0).w 1).toNat.testBit (fld ((cmdOf b 0).w 2) 45 40) = true ∧
      cfgF (taken 0 b) .emCh (fld ((cmdOf b 0).w 2) 45 40) 1 37 36 = 2) ∧
    Meets (cmd 0x0842 [sel 0 0] master) (fun b => bgBusy (taken 0 b) 8 = false ∧
      passes 0 0x0842 (rowNone 1 false anyCmd) b = true ∧ membersLocked (taken 0 b) = true ∧
      teamCalibrates (taken 0 b) = false ∧ isMaster (taken 0 b) = true ∧ (taken 0 b).team.formed = true) ∧
    Meets (cmd 0x0843 [sel 0 0] ready) (fun b => bgBusy (taken 0 b) 8 = false ∧
      passes 0 0x0843 (rowNone 1 false anyCmd) b = true ∧ calRunning (taken 0 b) = false) ∧
    Meets (cmd 0x0844 [sel 2 0] { ready with ctl := { ready.ctl with bg := [{ group := 8 }] } }) (fun b =>
      bgBusy (taken 0 b) 8 = true ∧
      passes 0 0x0844 (fun _ c => { len := lenIs c 1, range := selPlain c false [0, 1, 2] && selNone c }) b = true ∧
      calRunning (taken 0 b) = false ∧ (cmdOf b 0).opt = 2 ∧
      (laterCfgs (restoreUser 2 (taken 0 b))).all (userOk (taken 0 b) (taken 0 b).fact.mac) = true) :=
  ⟨meets (by decide +kernel), meets (by decide +kernel), meets (by decide +kernel), meets (by decide +kernel),
   meets (by decide +kernel)⟩

/-- CAL.LIN and CAL.ZERO refused: unlocked, in the safe state, beside a calibration of the team, of a tile that fills, beside a
command of the group, with EM OFF, and with TILE_MASK zero. -/
theorem witness_CalibrationCommands_refused :
    let lin := fun (s : State) => cmd 0x0840 [sel 0 0, 1] s
    let zero := fun (s : State) => cmd 0x0841 (sel 0 0 :: zeroWords) s
    let linOk := fun (b : State) => passes 0 0x0840 (rowNone 2 false (fun c => c.w 1 != 0)) b = true
    let zeroOk := fun (b : State) => passes 0 0x0841 (rowNone 5 false zeroRange) b = true
    let coast : State := { ready with tb := { ready.tb with st := .coast } }
    let safe : State := { ready with safe := { ready.safe with safe := true } }
    let fills := withTile 0 { rcd := { st := .filling } } ready
    let busy : State := { ready with ctl := { ready.ctl with bg := [{ group := 8 }] } }
    [lin coast, zero coast].all (fun s => (taken 0 (begin_ 0 s)).tb.st != .locked) = true ∧
    linOk (begin_ 0 (lin coast)) ∧ zeroOk (begin_ 0 (zero coast)) ∧
    linOk (begin_ 0 (lin safe)) ∧ zeroOk (begin_ 0 (zero safe)) ∧ (taken 0 (begin_ 0 (lin safe))).safe.safe = true ∧
    (taken 0 (begin_ 0 (zero safe))).safe.safe = true ∧
    linOk (begin_ 0 (lin fills)) ∧ zeroOk (begin_ 0 (zero fills)) ∧ (tileGet (taken 0 (begin_ 0 (lin fills))) 0).rcd.st = .filling ∧
    (tileGet (taken 0 (begin_ 0 (zero fills))) 0).rcd.st = .filling ∧
    linOk (begin_ 0 (lin busy)) ∧ zeroOk (begin_ 0 (zero busy)) ∧ bgBusy (taken 0 (begin_ 0 (lin busy))) 8 = true ∧
    bgBusy (taken 0 (begin_ 0 (zero busy))) 8 = true ∧ calFree (taken 0 (begin_ 0 (lin busy))) 1 ∧
    calFree (taken 0 (begin_ 0 (zero busy))) 1 ∧
    zeroOk (begin_ 0 (zero ready)) ∧ calFree (taken 0 (begin_ 0 (zero ready))) 1 ∧
    cfgF (taken 0 (begin_ 0 (zero ready))) .emCh 0 1 37 36 ≠ 2 ∧
    passes 0 0x0840 (rowNone 2 false anyCmd) (begin_ 0 (cmd 0x0840 [sel 0 0, 0] ready)) = true ∧
    passes 0 0x0841 (rowNone 5 false anyCmd) (begin_ 0 (cmd 0x0841 [sel 0 0, 0, 0, 0, 0] ready)) = true ∧
    zeroRange (cmdOf (begin_ 0 (cmd 0x0841 [sel 0 0, 0, 0, 0, 0] ready)) 0) = false := by decide +kernel

/-- CAL.TEAM unlocked, beside a calibration of a member, and off the master; CAL.SAVE_USER and CAL.RESTORE beside a calibration, a
copy that is not valid, and a layer that leaves a skew no room. -/
theorem witness_CalibrationCommands_team_refused :
    let team := fun (s : State) => begin_ 0 (cmd 0x0842 [sel 0 0] s)
    let ok := fun (b : State) => passes 0 0x0842 (rowNone 1 false anyCmd) b = true
    let row : State → Cmd → Row := fun _ c => { len := lenIs c 1, range := selPlain c false [0, 1, 2] && selNone c }
    let cal : State := { ready with cal := { ready.cal with st := 2, kind := 1 } }
    let back := fun (o : Nat) (s : State) => begin_ 0 (cmd 0x0844 [sel o 0] s)
    let unlocked : State := { master with team := { master.team with peerLock := 0 } }
    let member : State := { master with team := { master.team with peerCal := 2 } }
    ok (team unlocked) ∧ membersLocked (taken 0 (team unlocked)) = false ∧
    ok (team member) ∧ membersLocked (taken 0 (team member)) = true ∧ teamCalibrates (taken 0 (team member)) = true ∧
    ok (team ready) ∧ membersLocked (taken 0 (team ready)) = true ∧ teamCalibrates (taken 0 (team ready)) = false ∧
    isMaster (taken 0 (team ready)) = false ∧
    passes 0 0x0843 (rowNone 1 false anyCmd) (begin_ 0 (cmd 0x0843 [sel 0 0] cal)) = true ∧
    calRunning (taken 0 (begin_ 0 (cmd 0x0843 [sel 0 0] cal))) = true ∧
    passes 0 0x0844 row (back 0 cal) = true ∧ calRunning (taken 0 (back 0 cal)) = true ∧
    passes 0 0x0844 row (back 1 ready) = true ∧ calRunning (taken 0 (back 1 ready)) = false ∧
    copyGood (taken 0 (back 1 ready)) (taken 0 (back 1 ready)).pwr.mram.copy1 = false ∧
    (let t := taken 0 (back 2 { ready with cal := { ready.cal with factoryOk := true }, fact := { skew := [(0, 1000000)] } })
     calRunning t = false ∧ (laterCfgs (restoreUser 2 t)).all (userOk t t.fact.mac) = false) := by decide +kernel

/-- A readable copy of the image directory with slot 3 valid. -/
def dirCopy : ImageDir :=
  let d : ImageDir := { seqNo := 1, slots := [(3, 0)], whole := true }
  { d with crc := dirCrc d }

theorem witness_ResetAndImage :
    let sel1 : State → Cmd → Row := fun _ c =>
      { len := lenIs c 1, range := selPlain c false [0] && c.first == c.last && (decide (c.first < 4) || c.first == 0xFFFFF) }
    let reset := rowNone 2 false (fun c => (c.w 1).toNat == 0x5A)
    let valid : State := { ready with pwr := { ready.pwr with mram := { dir1 := dirCopy } } }
    Meets (cmd 0x0040 [sel 0 0, 0x5A] ready) (fun b => passes 0 0x0040 reset b = true ∧ isIdle (taken 0 b) = true) ∧
    Meets (cmd 0x0040 [sel 0 0, 0x5A] running) (fun b => passes 0 0x0040 reset b = true ∧ isIdle (taken 0 b) = false) ∧
    Meets (cmd 0x0041 [sel 0 0, 1] ready) (fun b => bgBusy (taken 0 b) 0 = false ∧
      passes 0 0x0041 (rowNone 2 false (fun c => onlyBits (c.w 1) [(0, 0)])) b = true) ∧
    Meets (cmd 0x0C40 [sel 0 3] ready) (fun b => bgBusy (taken 0 b) 12 = false ∧
      passes 0 0x0C40 (rowOne 1 4 anyCmd) b = true ∧ imageBytes (taken 0 b) ≤ 504 * 1024) ∧
    Meets (cmd 0x0C41 [sel 0 3] valid) (fun b => bgBusy (taken 0 b) 12 = false ∧ passes 0 0x0C41 sel1 b = true ∧
      (cmdOf b 0).first < 4 ∧ slotMarked (taken 0 b).pwr.mram (cmdOf b 0).first = true) ∧
    Meets (cmd 0x0C41 [sel 0 0xFFFFF] ready) (fun b => bgBusy (taken 0 b) 12 = false ∧ passes 0 0x0C41 sel1 b = true ∧
      (cmdOf b 0).first = 0xFFFFF) ∧
    Meets (cmd 0x0C41 [sel 0 2] valid) (fun b => bgBusy (taken 0 b) 12 = false ∧ passes 0 0x0C41 sel1 b = true ∧
      (cmdOf b 0).first < 4 ∧ slotMarked (taken 0 b).pwr.mram (cmdOf b 0).first = false) ∧
    Meets (cmd 0x0C42 [sel 0 3] valid) (fun b => bgBusy (taken 0 b) 12 = false ∧ passes 0 0x0C42 (rowOne 1 4 anyCmd) b = true ∧
      slotMarked (taken 0 b).pwr.mram (cmdOf b 0).first = true) :=
  ⟨meets (by decide +kernel), meets (by decide +kernel), meets (by decide +kernel), meets (by decide +kernel),
   meets (by decide +kernel), meets (by decide +kernel), meets (by decide +kernel), meets (by decide +kernel)⟩

theorem witness_Readout :
    let jrnl : State := withQueue { ready with ctl := { ready.ctl with jrnl := [{ jseq := 1 }], jseq := 1 } }
    Meets (cmd 0x0042 [sel 0 5, 1] jrnl) (fun b =>
      passes 0 0x0042 (rowQueue 2 (fun c => onlyBits (c.w 1) [(31, 0)])) b = true ∧
      queueTakes (taken 0 b) (cmdOf b 0).first = true ∧
      (jHeld (taken 0 b)).filter (fun e => decide (fld ((cmdOf b 0).w 1) 31 0 ≤ e.jseq)) ≠ []) ∧
    Meets (cmd 0x0042 [sel 0 5, 2] jrnl) (fun b =>
      passes 0 0x0042 (rowQueue 2 (fun c => onlyBits (c.w 1) [(31, 0)])) b = true ∧
      queueTakes (taken 0 b) (cmdOf b 0).first = true ∧
      (jHeld (taken 0 b)).filter (fun e => decide (fld ((cmdOf b 0).w 1) 31 0 ≤ e.jseq)) = []) ∧
    Meets (cmd 0x0042 [sel 0 6, 1] jrnl) (fun b =>
      passes 0 0x0042 (rowQueue 2 (fun c => onlyBits (c.w 1) [(31, 0)])) b = true ∧
      queueTakes (taken 0 b) (cmdOf b 0).first = false) ∧
    Meets (cmd 0x0043 [sel 0 6] (withQueue ready)) (fun b => passes 0 0x0043 (rowQueue 1 anyCmd) b = true ∧
      queueTakes (taken 0 b) (cmdOf b 0).first = false) ∧
    Meets (cmd 0x0043 [sel 0 5] (withQueue ready)) (fun b => passes 0 0x0043 (rowQueue 1 anyCmd) b = true ∧
      queueTakes (taken 0 b) (cmdOf b 0).first = true) ∧
    Meets (cmd 0x0C43 [sel 0 5] (withQueue ready)) (fun b => passes 0 0x0C43 (rowQueue 1 anyCmd) b = true ∧
      queueTakes (taken 0 b) (cmdOf b 0).first = true) ∧
    Meets (cmd 0x0C43 [sel 0 6] (withQueue ready)) (fun b => passes 0 0x0C43 (rowQueue 1 anyCmd) b = true ∧
      queueTakes (taken 0 b) (cmdOf b 0).first = false) :=
  ⟨meets (by decide +kernel), meets (by decide +kernel), meets (by decide +kernel), meets (by decide +kernel),
   meets (by decide +kernel), meets (by decide +kernel), meets (by decide +kernel)⟩

/-! ### Witnesses: power, reset and boot -/

theorem witness_ResetPowerAndBoot :
    let boot := fun (n : Nat) => ({ ready with ctl := { ready.ctl with bootStage := n } } : State)
    MeetsAny { State.reset with pwr := { io33 := true } } (fun b => b.pwr.inReset = true ∧ b.pwr.io33 = true ∧
      b.pwr.coreOk = true) ∧
    MeetsAny { State.reset with pwr := { io33 := true, coreOk := false, rstLow := false } } (fun b => b.pwr.coreOk = false ∧
      b.pwr.inReset = true ∧ b.pwr.rstLow = false ∧ b.pwr.tripHold = false ∧ b.pwr.io33 = true) ∧
    MeetsAny { State.reset with pwr := { rstLow := false } } (fun b => b.pwr.io33 = false ∧ b.pwr.inReset = true ∧
      b.pwr.rstLow = false ∧ b.pwr.tripHold = false ∧ b.pwr.coreOk = true) ∧
    MeetsAny State.reset (fun b => b.pwr.io33 = false ∧ b.pwr.rstLow = true) ∧ MeetsAny ready (fun b => b.pwr.inReset = false ∧ b.pwr.io33 = true) ∧
    679 < 680 ∧ 2899 < 2900 ∧
    Meets (boot 2) (fun b => [2, 3, 4, 0xE1].contains b.ctl.bootStage = true ∧ b.pwr.triedOther = false) ∧
    Meets { boot 0xE1 with pwr := { ready.pwr with triedOther := true } } (fun b =>
      [2, 3, 4, 0xE1].contains b.ctl.bootStage = true ∧ b.pwr.triedOther = true) ∧
    Meets (boot 5) (fun b => b.ctl.bootStage = 5 ∧ b.ctl.fwFault = false) ∧
    Meets (boot 6) (fun b => b.ctl.bootStage = 6 ∧ b.ctl.fwFault = false) ∧
    Meets (boot 7) (fun b => b.ctl.bootStage = 7 ∧ b.ctl.fwFault = false) :=
  ⟨meetsAny (by decide +kernel), meetsAny (by decide +kernel), meetsAny (by decide +kernel), meetsAny (by decide +kernel), meetsAny (by decide +kernel),
   by decide, by decide,
   meets (by decide +kernel), meets (by decide +kernel), meets (by decide +kernel), meets (by decide +kernel),
   meets (by decide +kernel)⟩

theorem witness_ResetLeaves :
    (tapActs (tapCapture (tapSelect (.other 0) ready))) = false ∧ tapActs (tapCapture (tapSelect (.other 0) { ready with
      pwr := { ready.pwr with rstLow := true } })) = true ∧
    (let s : State := { ready with ctl := { ready.ctl with bootStage := 8 } }
     s.ctl.bootStage = 8 ∧ s.safe.selftest = false ∧ s.ctl.fwFault = false) ∧ State.reset.safe.selftest = true ∧
    ({ State.reset with pwr := { hardLatch := true } } : State).pwr.hardLatch = true ∧
    ({ State.reset with pwr := { sdCause := 1 } } : State).pwr.sdCause ≠ 0 ∧ State.reset.pwr.sdCause = 0 := by decide

theorem witness_TemperatureDroopAndThrottle :
    let p := fun (p : Pwr) => ({ ready with pwr := p } : State)
    Meets (p { ready.pwr with shutAt := some 0 }) (fun b => b.pwr.shutAt = some 0 ∧ b.pwr.nvmNow = none) ∧
    MeetsAny (p { ready.pwr with shut := true }) (fun b => b.pwr.inReset = false ∧ b.pwr.shut = true) ∧
    Meets (p { ready.pwr with droop2 := true }) (fun b => b.pwr.droop2 = true ∧ b.pwr.droop1 = false) ∧
    Meets ready (fun b => b.pwr.droop1 = false ∧ b.pwr.droop2 = false) ∧
    Meets (p { ready.pwr with droop1 := true, droop2 := true }) (fun b => b.pwr.droop1 = true ∧ b.pwr.droop2 = true) ∧
    Meets (p { ready.pwr with droop1 := true }) (fun b => b.pwr.droop1 = true ∧ b.pwr.droop2 = false) ∧
    Meets (p { ready.pwr with div := 2, relAt := some 0 }) (fun b => b.pwr.div = 2 ∧ b.pwr.relAt = some 0) ∧
    Meets (p { ready.pwr with div := 1, relAt1 := some 0 }) (fun b => b.pwr.div = 1 ∧ b.pwr.relAt1 = some 0) :=
  ⟨meets (by decide +kernel), meetsAny (by decide +kernel), meets (by decide +kernel), meets (by decide +kernel),
   meets (by decide +kernel), meets (by decide +kernel),
   meets (by decide +kernel), meets (by decide +kernel)⟩

theorem witness_SampleAndThrottleRules :
    let s : State := { ready with pwr := { ready.pwr with hot := 3, droop1 := true, droop2 := true } }
    (2000 : Int) ≤ 2000 ∧ 3 ≤ s.pwr.hot ∧ s.pwr.droop2 = true ∧ s.pwr.droop1 = true := by decide

theorem witness_PageWrites :
    let w := fun (retry : Bool) => ({ ready with pwr := { ready.pwr with nvmNow := some (.bootSlot 1), nvmRetry := retry } } : State)
    Meets (w false) (fun b => b.pwr.nvmNow = some (.bootSlot 1) ∧ b.pwr.nvmRetry = false) ∧
    Meets (w true) (fun b => b.pwr.nvmNow = some (.bootSlot 1) ∧ b.pwr.nvmRetry = true) ∧
    Meets { ready with pwr := { ready.pwr with logBuf := [{}] } } (fun b => b.pwr.logBuf[logQueued b]? = some {}) ∧
    Meets { ready with pwr := { ready.pwr with shutAt := some 0 } } (fun b => b.pwr.shutAt.isSome = true) ∧
    Meets ready (fun b => mirrorBusy b = false) :=
  ⟨meets (by decide +kernel), meets (by decide +kernel), meets (by decide +kernel), meets (by decide +kernel), meets (by decide +kernel)⟩

/-! ### Witnesses: the timebase -/

/-- The block with this timebase. -/
def withTb (t : Tb) : State := { ready with tb := t }

/-- Counts at the edges of the windows: EXP is 10,240 at 100 MHz (R39), 4,915 and 8,448 for the SPLL and the NPLL. -/
theorem witness_LockAndReference_windows :
    let acq := fun (n : Nat) => withTb { ready.tb with st := .acquire, good := n }
    Meets (withTb { ready.tb with judging := true }) (fun b => b.tb.refPresent = true ∧ b.tb.judging = true ∧
      lockExp (refHz b) = 10240) ∧
    Meets (acq 3) (fun b => b.tb.st = .acquire ∧ b.tb.judging = false ∧ within 10242 (lockExp (refHz b)) 2 = true ∧ b.tb.good = 3) ∧
    Meets (acq 2) (fun b => b.tb.st = .acquire ∧ b.tb.judging = false ∧ within 10238 (lockExp (refHz b)) 2 = true ∧ b.tb.good < 3) ∧
    Meets (acq 0) (fun b => b.tb.st = .acquire ∧ b.tb.judging = false ∧ within 10243 (lockExp (refHz b)) 2 = false) ∧
    Meets ready (fun b => b.tb.st = .locked ∧ b.tb.judging = false ∧ within 10248 (lockExp (refHz b)) 8 = true) ∧
    Meets ready (fun b => b.tb.st = .locked ∧ b.tb.judging = false ∧ within 10249 (lockExp (refHz b)) 8 = false) ∧
    Meets (withTb { ready.tb with spll := { lock := true }, npll := { lock := true } }) (fun b => b.tb.sdPresent = true ∧
      b.tb.spll.lock = true ∧ within 4924 4915 8 = false ∧ b.tb.npll.lock = true ∧ within 8457 8448 8 = false) ∧
    Meets (withTb { ready.tb with spll := { good := 3 }, npll := { good := 3 } }) (fun b => b.tb.sdPresent = true ∧
      b.tb.spll.lock = false ∧ within 4917 4915 2 = true ∧ b.tb.spll.good = 3 ∧
      b.tb.npll.lock = false ∧ within 8450 8448 2 = true ∧ b.tb.npll.good = 3) :=
  ⟨meets (by decide +kernel), meets (by decide +kernel), meets (by decide +kernel), meets (by decide +kernel),
   meets (by decide +kernel), meets (by decide +kernel), meets (by decide +kernel), meets (by decide +kernel)⟩

theorem witness_LockAndReference_reference :
    [TpllSt.reset, .coast, .fault].all (fun st =>
      let b := begin_ 0 (withTb { ready.tb with st := st, refPresent := false })
      b.tb.refPresent == false && b.tb.st == st) = true ∧
    [TpllSt.locked, .slewing, .coast].all (fun st =>
      let b := begin_ 0 (withTb { ready.tb with st := st })
      b.tb.refPresent == true && b.tb.st == st) = true ∧
    Meets (withTb { ready.tb with st := .search, epochSet := false }) (fun b => b.tb.refPresent = true ∧ b.tb.st = .search ∧
      b.tb.epochSet = false) ∧
    Meets (withTb { ready.tb with reacqAt := some 0 }) (fun b => b.tb.reacqAt = some 0) :=
  ⟨by decide +kernel, by decide +kernel, meets (by decide +kernel), meets (by decide +kernel)⟩

/-- A window of channel 5 ends after the last good edge. -/
theorem witness_CoastBegins :
    let s : State := { ready with chan := [(5, { pix := { opened := true, winEnd := some 1 } })] }
    (chanGet s 5).pix.winEnd = some 1 ∧ s.now - 0 < 1 := by decide +kernel

/-- Counts 1,000 ppm off and at the expected value; AON periods at the edges of 25 µs to 40 µs. -/
theorem witness_FrequencyPhaseAndSpread_checks :
    Meets ready (fun b => b.tb.refPresent = true ∧ b.tb.epochSet = true ∧ b.tb.freqFault = false ∧
      ppmOver 0 (freqExp (refHz b)) = true) ∧
    Meets ready (fun b => b.tb.refPresent = true ∧ b.tb.epochSet = true ∧ b.tb.freqFault = false ∧
      ppmOver (freqExp (refHz b)) (freqExp (refHz b)) = false) ∧
    Meets (withTb { ready.tb with refPresent := false }) (fun b => b.tb.refPresent = false ∧ b.tb.epochSet = true ∧
      b.tb.freqFault = false ∧ ppmOver 0 (4 * b.tb.aonCal / 4096) = true ∧
      ppmOver (4 * b.tb.aonCal / 4096) (4 * b.tb.aonCal / 4096) = false) ∧
    Meets (withTb { ready.tb with aonBad := 3, aonGood := 62 }) (fun b => tpllLocked b = true ∧ b.tb.aonBad = 3 ∧
      b.tb.aonGood < 63 ∧ aonOut (25 * fineUs - 1) = true ∧ aonOut (25 * fineUs) = false) ∧
    Meets (withTb { ready.tb with aonGood := 63 }) (fun b => tpllLocked b = true ∧ b.tb.aonBad ≠ 3 ∧ 63 ≤ b.tb.aonGood ∧
      aonOut (40 * fineUs) = false ∧ aonOut (40 * fineUs + 1) = true) ∧
    Meets (withTb { ready.tb with holdAt := some 0 }) (fun b => b.tb.holdAt = some 0 ∧ b.safe.active.testBit 15 = false) ∧
    Meets (withTb { ready.tb with lockAt := some 0, freqHold := true }) (fun b => b.tb.lockAt = some 0 ∧
      b.tb.freqHold = true ∧ tpllLocked b = true) :=
  ⟨meets (by decide +kernel), meets (by decide +kernel), meets (by decide +kernel), meets (by decide +kernel),
   meets (by decide +kernel), meets (by decide +kernel), meets (by decide +kernel)⟩

/-- A jump of 409 fine units is within 50 ps, one of 410 beyond it (a fine unit is 1 ns / 8,192). -/
theorem witness_FrequencyPhaseAndSpread_phase :
    Meets (withTb { ready.tb with st := .coast }) (fun b => tpllLocked b = false) ∧
    50 * 4096 ≥ (409 : Int).natAbs * 500 ∧ 50 * 4096 < (410 : Int).natAbs * 500 ∧
    Meets ready (fun b => tpllLocked b = true ∧ isFollower b = false ∧ followMode b = false) ∧
    Meets (withCfg .mode 0 [0x000007D00000E400] ready) (fun b => tpllLocked b = true ∧ isFollower b = false ∧ followMode b = true) ∧
    Meets follower (fun b => tpllLocked b = true ∧ isFollower b = true) ∧
    Meets (withCfg .mode 0 [0x000007D000006440] ready) (fun b => cfgF b .mode 0 0 8 6 = 1 ∧ b.tb.epochSet = true) ∧
    Meets (withCfg .mode 0 [0x000007D000006480] ready) (fun b => cfgF b .mode 0 0 8 6 = 2 ∧ b.tb.epochSet = true) :=
  ⟨meets (by decide +kernel), by decide, by decide, meets (by decide +kernel), meets (by decide +kernel),
   meets (by decide +kernel), meets (by decide +kernel), meets (by decide +kernel)⟩

/-! ### Witnesses: teams and calibration -/

/-- The mode word with HUDDLE_EN. -/
def huddleMode (s : State) : State := withCfg .mode 0 [0x000007D000006408] s

theorem witness_TeamEvents_huddle :
    Meets (huddleMode ready) (fun b => cfgF b .mode 0 0 3 3 ≠ 0 ∧ b.tb.epochSet = true ∧ isFollower b = false ∧
      stepsNow b = true) ∧
    Meets (huddleMode { ready with cal := { left := [0], shotAt := [(1, 0)] } }) (fun b => cfgF b .mode 0 0 3 3 ≠ 0 ∧
      b.tb.epochSet = true ∧ isFollower b = false ∧ isIdle b = true ∧ zeroOpen b = true) ∧
    Meets (huddleMode running) (fun b => cfgF b .mode 0 0 3 3 ≠ 0 ∧ b.tb.epochSet = true ∧ isFollower b = false ∧
      isIdle b = false) ∧
    Meets (huddleMode follower) (fun b => cfgF b .mode 0 0 3 3 ≠ 0 ∧ b.tb.epochSet = true ∧ isFollower b = true ∧
      cfgF b .team 0 0 61 61 = 0 ∧ isIdle b = true) ∧
    Meets ready (fun b => cfgF b .mode 0 0 3 3 = 0) ∧
    Meets { master with team := { master.team with huddleAt := some 0 } } (fun b => b.team.huddleAt = some 0) ∧
    Meets ready (fun b => isIdle b = true) ∧ Meets running (fun b => isIdle b = false ∧ quietNow b = true) ∧
    Meets (withTile 0 { cur := some { l := 1 } } running) (fun b => isIdle b = false ∧ quietNow b = false) :=
  ⟨meets (by decide +kernel), meets (by decide +kernel), meets (by decide +kernel), meets (by decide +kernel),
   meets (by decide +kernel), meets (by decide +kernel), meets (by decide +kernel), meets (by decide +kernel),
   meets (by decide +kernel)⟩

/-- Downstream: FORM heard by a follower, by a master from its member, and of another team; and no hop there. -/
theorem witness_TeamEvents_below :
    Meets follower (fun b => b.team.downlink = true ∧ isFollower b = true) ∧
    Meets master (fun b => b.team.downlink = true ∧ isFollower b = false ∧ 1 = teamSizeM1 b ∧ 2 ≠ teamSizeM1 b) ∧
    Meets { master with team := { master.team with downlink := false } } (fun b => b.team.downlink = false) ∧
    Meets { follower with team := { follower.team with formed := false } } (fun b => b.team.formed = false) :=
  ⟨meets (by decide +kernel), meets (by decide +kernel), meets (by decide +kernel), meets (by decide +kernel)⟩

theorem witness_TeamEvents_messages :
    Meets follower (fun b => teamEn b = true ∧ isFollower b = true ∧ 0 + 1 = devNum b ∧ 1 = teamSizeM1 b ∧ 1 + 1 ≠ devNum b ∧
      2 ≠ teamSizeM1 b) ∧
    Meets follower (fun b => (0 : Fin 16).val ≠ devNum b ∧ b.team.peerSafe.testBit (0 : Fin 16) = false) ∧
    Meets { follower with team := { follower.team with peerSafe := 1 } } (fun b => (0 : Fin 16).val ≠ devNum b ∧
      b.team.peerSafe.testBit (0 : Fin 16) = true) ∧
    Meets follower (fun b => teamEn b = true ∧ b.team.uplink = true ∧ b.team.downlink = true ∧ b.team.formed = true) :=
  ⟨meets (by decide +kernel), meets (by decide +kernel), meets (by decide +kernel), meets (by decide +kernel)⟩

/-- An estimate beyond the limit (20 × 4,096 / 500 = 163 fine units) and one within. -/
theorem witness_TeamEvents_watch :
    let w := fun (alarm : Bool) => ({ follower with team := { follower.team with watchHas := true, watchAlarm := alarm } } : State)
    let far := fun (b : State) (est : Int) =>
      let x : State := { b with team := { b.team with watch := (est :: b.team.watch).take 1024 } }
      x.team.watchHas && watchFar x
    Meets (w false) (fun b => teamEn b = true ∧ b.team.formed = true ∧ far b 1000000 = true ∧ b.team.watchAlarm = false) ∧
    Meets (w true) (fun b => teamEn b = true ∧ b.team.formed = true ∧ far b 1000000 = true ∧ b.team.watchAlarm = true) ∧
    Meets (w true) (fun b => teamEn b = true ∧ b.team.formed = true ∧ far b 0 = false) :=
  ⟨meets (by decide +kernel), meets (by decide +kernel), meets (by decide +kernel)⟩

/-- The block with this calibration unit. -/
def withCal (c : Cal) (s : State) : State := { s with cal := c }

theorem witness_Calibrations_step :
    Meets (withCal { loading := true } { ready with ctl := { ready.ctl with bootStage := 5 } }) (fun b =>
      b.cal.loading = true ∧ 5 ≤ b.ctl.bootStage ∧ b.ctl.fwFault = false) ∧
    Meets (withCal { loadedAt := some 0 } ready) (fun b => b.cal.loadedAt = some 0 ∧ b.cal.stale = false) ∧
    Meets (withTile 3 { calAsk := true } (withCal { st := 1, kind := 1 } ready)) (fun b => calRunning b = true ∧
      (tileGet b (3 : Fin 64)).calAsk = true ∧ tileFree b (3 : Fin 64) = true) ∧
    Meets (withCal { st := 2, kind := 1, left := [63] } ready) (fun b => calRunning b = true ∧ b.cal.kind = 1 ∧
      b.cal.left.contains (63 : Fin 64).val = true ∧ b.cal.redo = []) ∧
    Meets (withCal { st := 2, kind := 3 } ready) (fun b => calRunning b = true ∧ b.cal.kind = 3 ∧ b.cal.redo = []) :=
  ⟨meets (by decide +kernel), meets (by decide +kernel), meets (by decide +kernel), meets (by decide +kernel),
   meets (by decide +kernel)⟩

/-- A CAL.ZERO of one shot a block on channel 0. -/
def zeroCal : Cal := { st := 2, kind := 2, left := [0], req := zeroWords }

/-- A shot to come, a full block without events, the firing time used up, and two events without spread. -/
theorem witness_Calibrations_zero :
    let next := fun (b : State) =>
      let z := decideAll false (reach (zeroOver b) b)
      ({ z with cal := { z.cal with blocks := z.cal.blocks + 1, shot := 0, shotAt := [] } } : State)
    let all := fun (b : State) => (next b).cal.left.all (fun ch => zeroPass (next b) (tabGet [] (next b).cal.events ch))
    Meets (withCal zeroCal ready) (fun b => calRunning b = true ∧ b.cal.kind = 2 ∧ b.cal.st = 2 ∧ b.cal.shot < zeroF b 1 15 0 ∧
      pulsesOf b (zeroF b 1 45 40) (zeroF b 1 39 32) b.now ≠ []) ∧
    Meets (withCal { zeroCal with firedAt := some 0 } ready) (fun b => b.cal.firedAt = some 0 ∧ b.cal.shot < zeroF b 1 15 0) ∧
    Meets (withCal { zeroCal with shot := 1 } ready) (fun b => calRunning b = true ∧ b.cal.kind = 2 ∧ b.cal.st = 2 ∧
      b.cal.shot = zeroF b 1 15 0 ∧ all b = false ∧ (next b).cal.fired + blockUs (next b) ≤ 400000) ∧
    Meets (withCal { zeroCal with shot := 1, fired := 399999 } ready) (fun b => b.cal.shot = zeroF b 1 15 0 ∧ all b = false ∧
      400000 < (next b).cal.fired + blockUs (next b)) ∧
    Meets (withCal { zeroCal with shot := 1, events := [(0, [(0, 5), (0, 5)])] } ready) (fun b => b.cal.shot = zeroF b 1 15 0 ∧
      all b = true) :=
  ⟨meets (by decide +kernel), meets (by decide +kernel), meets (by decide +kernel), meets (by decide +kernel), meets (by decide +kernel)⟩

/-- A hop measurement of 1,024 exchanges alike. -/
def hopAlike (w1 : Int) : Vector Stamps 1024 := Vector.replicate 1024 ⟨0, w1, 0, 0⟩

/-- The measurements of 64 steps, as the statement lists them. -/
def hopLists (ms : Vector (List (Vector Stamps 1024)) 64) : List (List HopMeas) := ms.toList.map (fun r => r.map Vector.toList)

/-- Values alike, and one 48 ns off, of a member that R248 leaves the whole field of TEAM_OFS. -/
theorem witness_Calibrations_team :
    let good := hopLists (Vector.replicate 64 [hopAlike 0])
    let wild := hopLists ((Vector.replicate 64 [hopAlike 0]).set 0 [hopAlike 400000])
    let room : List (Int × Int) := [(-8388608, 8388607)]
    let bad := fun (b : State) (ms : List (List HopMeas)) => (((upTo 1 b.cal.teamN).map (fun d =>
      memberRes (memberVals b ms d) (room.getD (d - 1) (0, 0)))).filter (fun r => r.2.cause != 0)).length
    Meets (withCal { st := 2, kind := 3, teamN := 1 } master) (fun b => isFollower b = false ∧ calRunning b = true ∧ b.cal.kind = 3 ∧
      good.all (fun r => decide (r.length = b.cal.teamN)) = true ∧
      wild.all (fun r => decide (r.length = b.cal.teamN)) = true ∧ bad b good = 0 ∧ bad b wild ≠ 0) ∧
    Meets follower (fun b => isFollower b = true ∧ good.all (fun r => decide (devNum b ≤ r.length)) = true) ∧
    Meets { master with team := { master.team with calApply := some (5, 0) } } (fun b => b.team.calApply = some (5, 0)) ∧
    Meets { master with team := { master.team with autoCalAt := some 0 } } (fun b => b.team.autoCalAt = some 0 ∧
      teamCalDev b = stOk ∧ bgBusy b 8 = false) :=
  ⟨meets (by decide +kernel), meets (by decide +kernel), meets (by decide +kernel), meets (by decide +kernel)⟩

/-! ### Witnesses: comparators, the Playbook and windows -/

/-- The block with this monitor. -/
def withMon (i : Nat) (m : Mon) (s : State) : State := { s with mon := tabPut s.mon i m }

/-- A monitor word with FILT_EN, BLANK_EN and MC_EN as given. -/
def mcWord (filt blank en : Nat) : Word :=
  pack [(2, 1), (2, 0), (2, 0), (1, en), (1, filt), (1, blank), (3, 0), (4, 1), (4, 1), (6, 0), (18, 0), (10, 0x3FF), (10, 0)]

theorem witness_Monitors_outputs :
    Meets ready (fun b => (monGet b 0).held = true) ∧
    Meets (withMon 0 { held := false } ready) (fun b => (monGet b 0).held = false ∧ (monGet b 0).hold = none) ∧
    Meets (withCfg .mc 0 [mcWord 0 1 0, pack [(8, 0), (2, 1), (6, 0), (16, 0), (16, 1), (16, 0)]]
        { ready with pb := { upds := [0] } }) (fun b =>
      sortBy (fun (t : Int) => (t - b.now).toNat) ((blankEnds b 0).filter (fun (t : Int) => decide (b.now ≤ t))) = [4096]) ∧
    Meets (withCfg .mc 0 [mcWord 1 0 0, 0] (withMon 0 { held := false } ready)) (fun b => (monGet b 0).held = false ∧
      fld (monW b 0 0) 56 56 = 1) ∧
    Meets (withMon 0 { held := false, hold := some true } ready) (fun b => (monGet b 0).hold = some true) :=
  ⟨meets (by decide +kernel), meets (by decide +kernel), meets (by decide +kernel), meets (by decide +kernel),
   meets (by decide +kernel)⟩

theorem witness_Monitors_resolution :
    let en := withCfg .mc 0 [mcWord 0 0 1, 0] ready
    Meets en (fun b => (monGet b 0).held = true ∧ fld (monW b 0 0) 57 57 = 1) ∧
    Meets ready (fun b => (monGet b 0).held = true ∧ fld (monW b 0 0) 57 57 = 0) ∧
    Meets (withMon 0 { periods := 320 } en) (fun b => (monGet b 0).held = true ∧ fld (monW b 0 0) 57 57 = 1 ∧
      320 ≤ (monGet b 0).periods ∧ (monGet b 0).unresolved = false ∧ (0 : Fin 34).val < 32) ∧
    Meets (withMon 32 { periods := 320 } (withCfg .mp 0 [mcWord 0 0 1] ready)) (fun b => (monGet b 32).held = true ∧
      fld (monW b 32 0) 57 57 = 1 ∧ 320 ≤ (monGet b 32).periods ∧ (monGet b 32).unresolved = false ∧ 32 ≤ (32 : Fin 34).val) :=
  ⟨meets (by decide +kernel), meets (by decide +kernel), meets (by decide +kernel), meets (by decide +kernel)⟩

/-- The block with this receive comparator and channel 1023. -/
def withRx (r : Rx) (c : Chan) (s : State) : State := { s with rx := [(1023, r)], chan := [(1023, c)] }

/-- An event at 100 ticks, with no event before, 4 ns after one, and a fine unit less than that after one. -/
theorem witness_ReceiveEvents :
    Meets (withRx { settling := true } {} ready) (fun b => (rxGet b 1023).settling = true) ∧
    Meets (withRx { active := true } {} ready) (fun b =>
      let t := tdcTime b 1023 100 0
      let x := reach t b
      (rxGet x 1023).active = true ∧ (rxGet x 1023).out = false ∧ x.tb.epochSet = true ∧
      inDead (chanGet x 1023) t = false ∧ tdcCut x 1023 = false) ∧
    Meets (withRx { active := true } { lastEvt := some (tdcTime ready 1023 100 0 - 4 * fineNs) } ready) (fun b =>
      let t := tdcTime b 1023 100 0
      inDead (chanGet (reach t b) 1023) t = false) ∧
    Meets (withRx { active := true } { lastEvt := some (tdcTime ready 1023 100 0 - 4 * fineNs + 1) } ready) (fun b =>
      let t := tdcTime b 1023 100 0
      (chanGet (reach t b) 1023).lastEvt = some (tdcTime ready 1023 100 0 - 4 * fineNs + 1) ∧
      t < tdcTime ready 1023 100 0 - 4 * fineNs + 1 + 4 * fineNs) ∧
    Meets ready (fun b => (rxGet b 1023).active = false) :=
  ⟨meets (by decide +kernel), meets (by decide +kernel), meets (by decide +kernel), meets (by decide +kernel),
   meets (by decide +kernel)⟩

theorem witness_ReceiveEvents_lost :
    let s := withRx { active := true } { lastEvt := some 0 } ready
    let dead := fun (b : State) => tdcCut b 1023 = false ∧ (rxGet b 1023).active = true ∧ (rxGet b 1023).out = false ∧
      inDead (chanGet b 1023) b.now = true
    Meets s (fun b => dead b ∧ (tileGet b (1023 / 16)).win = .disarmed) ∧
    Meets (withTile 63 { win := .armed } s) (fun b => dead b ∧ (tileGet b (1023 / 16)).win ≠ .disarmed ∧
      postShot (tileGet b (1023 / 16)) b.now = none ∧ preShot (tileGet b (1023 / 16)) b.now = none) ∧
    Meets (withTile 63 { win := .armed, shots := [{ preAt := 0, origin := 1, l := 1 }] } s) (fun b => dead b ∧
      (tileGet b (1023 / 16)).win ≠ .disarmed ∧ postShot (tileGet b (1023 / 16)) b.now = none ∧
      (preShot (tileGet b (1023 / 16)) b.now).isSome = true) ∧
    Meets (withTile 63 { win := .post, cur := some { l := 1 } } s) (fun b => dead b ∧
      (tileGet b (1023 / 16)).win ≠ .disarmed ∧ (postShot (tileGet b (1023 / 16)) b.now).isSome = true) :=
  ⟨meets (by decide +kernel), meets (by decide +kernel), meets (by decide +kernel), meets (by decide +kernel)⟩

/-- The Playbook as given, the block otherwise ready. -/
def withPb (p : Pb) : State := { ready with pb := p }

/-- A segment entry: a stream's, with an end action. -/
def entryOf (stream action : Nat) : Obj := [pack [(1, 1), (1, stream), (2, action), (60, 0x10000)], 1]

theorem witness_Walk_fetch :
    let fetch : Pb := { st := .running, walk := .fetch, entry := entryOf 0 0 }
    let ring : Pb := { fetch with entry := entryOf 1 0, header := true, wr := 1 }
    let free := fun (b : State) => (mirrorMode b = false ∨ cfgF b .pb 0 3 28 28 ≠ 1 ∨ b.pb.mirrorLocked = true) ∧ b.pb.walk = .fetch
    Meets (withPb fetch) (fun b => free b ∧ b.pb.st = .running ∧ streamed b = false) ∧
    Meets (withPb { fetch with st := .skipping }) (fun b => free b ∧ b.pb.st = .skipping ∧ streamed b = false) ∧
    Meets (withPb { ring with wr := 0 }) (fun b => free b ∧ b.pb.st = .running ∧ streamed b = true ∧ b.pb.header = true ∧
      b.pb.rd = b.pb.wr) ∧
    Meets (withPb ring) (fun b => free b ∧ b.pb.st = .running ∧ streamed b = true ∧ b.pb.header = true ∧ b.pb.rd ≠ b.pb.wr ∧
      b.pb.gapAt.contains b.pb.rd = false ∧ (reservedOk .desc 0 (curDesc b) && rangeOk .desc 0 (curDesc b)) = true) :=
  ⟨meets (by decide +kernel), meets (by decide +kernel), meets (by decide +kernel), meets (by decide +kernel)⟩

/-- A volley of 1,025 pulses on its way: more than 2,048 edges. -/
def longOffer : Offer := { ch := 0, pulses := List.replicate 1025 {} }

theorem witness_Walk_expand :
    let p : Pb := { st := .running, walk := .expand [0, 0, 0, 0] 0 }
    Meets (withPb p) (fun b => b.pb.walk = .expand [0, 0, 0, 0] 0 ∧ b.pb.st = .running ∧ mirrorMode b = false ∧
      heldFull b = false) ∧
    Meets (withPb { p with offers := [longOffer] }) (fun b => b.pb.walk = .expand [0, 0, 0, 0] 0 ∧ b.pb.st = .running ∧
      mirrorMode b = false ∧ heldFull b = true) :=
  ⟨meets (by decide +kernel), meets (by decide +kernel)⟩

theorem witness_Walk_decide :
    let d : Pb := { st := .running, walk := .decide, entry := entryOf 0 0 }
    Meets (withPb { d with stop := some 2 }) (fun b => b.pb.walk = .decide ∧ b.pb.stop = some 2) ∧
    Meets (withPb { d with latch := some 255 }) (fun b => b.pb.walk = .decide ∧ b.pb.stop ≠ some 2 ∧ b.pb.latch = some 255) ∧
    Meets (withPb { d with entry := entryOf 0 2 }) (fun b => b.pb.walk = .decide ∧ b.pb.stop ≠ some 2 ∧ b.pb.latch = none ∧
      dF b.pb.entry 0 61 60 = 2) ∧
    Meets (withPb { d with entry := entryOf 0 1 }) (fun b => b.pb.walk = .decide ∧ b.pb.stop ≠ some 2 ∧ b.pb.latch = none ∧
      dF b.pb.entry 0 61 60 = 1) ∧
    Meets (withPb d) (fun b => b.pb.walk = .decide ∧ b.pb.stop ≠ some 2 ∧ b.pb.latch = none ∧ dF b.pb.entry 0 61 60 ≠ 1 ∧
      dF b.pb.entry 0 61 60 ≠ 2) ∧
    Meets (withPb { st := .stopping }) (fun b => b.pb.st = .stopping ∧ allDone b = true) ∧
    Meets (withPb { st := .stopping, offers := [{}] }) (fun b => b.pb.st = .stopping ∧ allDone b = false) :=
  ⟨meets (by decide +kernel), meets (by decide +kernel), meets (by decide +kernel), meets (by decide +kernel),
   meets (by decide +kernel), meets (by decide +kernel), meets (by decide +kernel)⟩

/-- The Playbook on the mirror: two edges 12.5 ms apart, one spacing each. -/
def mirrorPb : State :=
  withMon 32 { held := false, filt := true }
    (withCfg .pb 0 [0x00000032000007D0, setFld 0x30D40000 63 62 1, 0, setFld 0x00C8000140000000 31 30 0, 0]
      { withPb { mpEdges := [-102400000, -204800000], mirrorLocked := true, mpGood := 7 } with cal := {} })

theorem witness_ShotsAndWindows_clock :
    Meets (withPb { gridOn := true }) (fun b => b.pb.gridOn = true ∧ b.pb.gridOld = []) ∧
    Meets (withPb { gridOn := true, gridOld := [(0, 10, 20)], gridK := 1 }) (fun b => b.pb.gridOn = true ∧
      b.pb.gridOld = [(0, 10, 20)] ∧ 0 + (b.pb.gridK : Int) * 10 < 20) ∧
    Meets (withPb { gridOn := true, gridOld := [(0, 10, 20)], gridK := 2 }) (fun b => b.pb.gridOn = true ∧
      b.pb.gridOld = [(0, 10, 20)] ∧ 20 ≤ 0 + (b.pb.gridK : Int) * 10) ∧
    Meets (withPb { gridOn := true, gridOld := [(0, 10, 20), (20, 10, 40)], gridK := 2 }) (fun b => b.pb.gridOn = true ∧
      b.pb.gridOld = (0, 10, 20) :: [(20, 10, 40)] ∧ 20 ≤ 0 + (b.pb.gridK : Int) * 10) ∧
    Meets ready (fun b => b.pb.gridOn = false) ∧ Meets ready (fun b => (monGet b 32).held = true) ∧
    Meets (withMon 32 { held := false, filt := true } (withCfg .mp 0 [mcWord 1 0 1] ready)) (fun b =>
      cfgF b .mp 0 0 56 56 = 1 ∧ (monGet b 32).crossNew = false) :=
  ⟨meets (by decide +kernel), meets (by decide +kernel), meets (by decide +kernel), meets (by decide +kernel), meets (by decide +kernel), meets (by decide +kernel), meets (by decide +kernel)⟩

/-- An edge where it is predicted, one without a prediction, and one 1 ms late, beyond the tolerance of 200 ticks. -/
theorem witness_ShotsAndWindows_mirror :
    let on := fun (b : State) => (monGet b 32).held = false ∧ b.tb.epochSet = true ∧
      (cfgF b .mp 0 0 56 56 = 1 → (monGet b 32).filt = true ∧ (monGet b 32).crossNew = true)
    let sp := fun (b : State) =>
      let x : State := { b with pb := { b.pb with mpEdges := (mpStamp b :: b.pb.mpEdges).take 65 } }
      (mirrorSpacing x).getD x.pb.gridPer
    Meets mirrorPb (fun b => on b ∧ mirrorNext b = some 0 ∧ b.pb.mirrorLocked = true ∧ 500 * fineNs ≤ sp b ∧
      (mpStamp b - 0).natAbs ≤ cfgF b .pb 0 3 63 48 * 4096) ∧
    Meets (withMon 32 { held := false, filt := true, crossNew := true, hist := [(true, 0)] } (withCfg .mp 0 [mcWord 1 0 1] ready)) (fun b => on b ∧
      cfgF b .mp 0 0 56 56 = 1 ∧ mirrorNext b = none) ∧
    Meets { mirrorPb with now := 8192000 } (fun b => on b ∧ mirrorNext b = some 0 ∧ 500 * fineNs ≤ sp b ∧
      cfgF b .pb 0 3 63 48 * 4096 < (mpStamp b - 0).natAbs) :=
  ⟨meets (by decide +kernel), meets (by decide +kernel), meets (by decide +kernel)⟩

theorem witness_ShotsAndWindows_windows :
    Meets (withPb { links := [(3, { words := [{ at_ := 5 }] })] }) (fun b =>
      (tabGet ({} : Link) b.pb.links (3 : Fin 4)).words = [{ at_ := 5 }]) ∧
    Meets (withTile 63 { shots := [{ origin := 5 }] } ready) (fun b =>
      let x := passDue true (63 : Fin 64) (tileGet b (63 : Fin 64)).shots.length b
      (tileGet x (63 : Fin 64)).cur = none ∧ (tileGet x (63 : Fin 64)).shots = [{ origin := 5 }] ∧
      ({ origin := 5 } : ShotEnt).judge = .acquired) ∧
    Meets (withTile 63 { cur := some { l := 16 } } ready) (fun b => (tileGet b (63 : Fin 64)).cur = some { l := 16 }) ∧
    Meets (withTile 63 { win := .hold, rearm := 5 } ready) (fun b => (tileGet b (63 : Fin 64)).win = .hold) ∧
    Meets ready (fun b => (tileGet b (63 : Fin 64)).win ≠ .hold) :=
  ⟨meets (by decide +kernel), meets (by decide +kernel), meets (by decide +kernel), meets (by decide +kernel),
   meets (by decide +kernel)⟩

/-- A stream whose source is the host ring (1) or datagrams (2), its refill ring of 256 entries. -/
def streamOf (src : Nat) (p : Pb) : State :=
  withCfg .stream 0 [pack [(16, 0), (16, 0), (4, 8), (2, src), (5, 8), (21, 0)], 0] (withPb p)

/-- Datagrams of 0, 1, 44 and 45 entries; a ring with room for 44 and for none. -/
theorem witness_Streaming :
    let es := fun (n : Nat) => List.replicate n (#v[0, 0, 0, 0] : Vector Word 4)
    Meets (streamOf 1 {}) (fun b => cfgF b .stream 0 0 27 26 = 1) ∧
    Meets ready (fun b => cfgF b .stream 0 0 27 26 ≠ 1) ∧
    Meets (streamOf 2 {}) (fun b => cfgF b .stream 0 0 27 26 = 2 ∧ 44 < (es 45).length ∧ (es 44).length ≤ ringRoom (underCheck b) ∧
      (underCheck b).pb.netSeq = none) ∧
    Meets (streamOf 2 { wr := 255 }) (fun b => cfgF b .stream 0 0 27 26 = 2 ∧ ringRoom (underCheck b) < (es 1).length) ∧
    Meets (streamOf 2 { netSeq := some (2 ^ 32 - 1) }) (fun b => cfgF b .stream 0 0 27 26 = 2 ∧
      (underCheck b).pb.netSeq = some (2 ^ 32 - 1) ∧ 0 % 2 ^ 32 = (2 ^ 32 - 1 + 1) % 2 ^ 32 ∧
      1 % 2 ^ 32 ≠ (2 ^ 32 - 1 + 1) % 2 ^ 32 ∧ (es 1).length ≤ ringRoom (underCheck b)) :=
  ⟨meets (by decide +kernel), meets (by decide +kernel), meets (by decide +kernel), meets (by decide +kernel),
   meets (by decide +kernel)⟩

theorem witness_JumpsAndSegments :
    dF (cfgObj ready .seg 4095) 0 63 63 = 0 ∧
    dF (cfgObj (withCfg .seg 4095 (entryOf 0 0) ready) .seg 4095) 0 63 63 = 1 := by decide +kernel

/-! ### Witnesses: recorders, emitters, trips, engines -/

/-- Tile 63 with its recorder in a state. -/
def withRec (st : RecSt) : State := withTile 63 { rcd := { st := st } } ready

theorem witness_Recorders :
    [RecSt.hold, .armed, .filling, .reading].all (fun st =>
      (tileGet (begin_ 0 (withRec st)) (63 : Fin 64)).rcd.st == st) = true ∧
    Meets (withRec .reading) (fun b => cfgF b .rcd (63 : Fin 64) 0 44 44 ≠ 1) ∧
    Meets (withCfg .rcd 63 [pack [(19, 0), (1, 1), (12, 0), (16, 1), (16, 1)], 0] (withRec .reading)) (fun b =>
      cfgF b .rcd (63 : Fin 64) 0 44 44 = 1) ∧
    Meets { master with team := { master.team with armAt := [7, 5], trigs := [(1, 7), (0, 7)] } } (fun b =>
      5 ∈ b.team.armAt ∧ (∀ u ∈ b.team.armAt, 5 ≤ u) ∧ firstTrig (recSends true b).team.trigs = some (0, 7)) :=
  ⟨by decide +kernel, meets (by decide +kernel), meets (by decide +kernel), meets (by decide +kernel)⟩

theorem witness_RecorderTrigger :
    [RecSt.hold, .disarmed, .frozen, .reading, .armed].all (fun st => (tileGet (withRec st) 63).rcd.st == st) = true ∧
    teamOnly (withRec .armed) 63 1 = false ∧
    (let s := withTile 63 { rcd := { st := .armed } } (withCfg .rcd 63 [pack [(18, 0), (1, 1), (45, 0)], 0] master)
     teamOnly s 63 1 = true ∧ (tileGet s 63).rcd.st = .armed ∧ s.team.trigs = [] ∧ (tileGet s 63).rcd.sent = none) ∧
    (let s := withTile 63 { rcd := { st := .armed, sent := some (2, 5) } } (withCfg .rcd 63 [pack [(18, 0), (1, 1), (45, 0)], 0] master)
     teamOnly s 63 1 = true ∧ (tileGet s 63).rcd.sent = some (2, 5) ∧ trigCycle 2 5 = trigCycle 1 8191 ∧
     trigCycle 2 5 ≠ trigCycle 1 8192 ∧ teamEn s = true ∧ (devNum s, 5 - teamOfs s) ∉ s.team.trigs) := by decide +kernel

/-- The block with this emitter channel. -/
def withEm (i : Nat) (e : EmCh) (s : State) : State := { s with em := tabPut s.em i e }

/-- A volley whose rising edge at 100,000 is next. -/
def oneVol : Vol := { seq := 9, pulses := [{ rise := 100000, width := 8192 }] }

theorem witness_SchedulerAndEmitters_edges :
    let o : Offer := { ch := 63, pulses := [{}] }
    let full : Vol := { pulses := List.replicate 1024 {} }
    Meets (withPb { offers := [o] }) (fun b => b.pb.offers.find? (fun o => o.ch == (63 : Fin 64).val) = some o ∧
      queueFull o b = false) ∧
    Meets (withEm 63 { vols := [full] } (withPb { offers := [o] })) (fun b =>
      b.pb.offers.find? (fun o => o.ch == (63 : Fin 64).val) = some o ∧ queueFull o b = true) ∧
    Meets (withEm 63 { vols := [oneVol] } ready) (fun b => earliest (nextEdges b (63 : Fin 64)) = some (100000, 100000, oneVol) ∧
      (emGet b (63 : Fin 64)).latched = false) ∧
    Meets (withEm 63 { vols := [oneVol], latched := true } ready) (fun b =>
      earliest (nextEdges b (63 : Fin 64)) = some (100000, 100000, oneVol) ∧ (emGet b (63 : Fin 64)).latched = true) :=
  ⟨meets (by decide +kernel), meets (by decide +kernel), meets (by decide +kernel), meets (by decide +kernel)⟩

/-- A launched rising edge at 0: seen 409 and 410 fine units later, and never; 3,277 later is no match. -/
theorem witness_SchedulerAndEmitters_loopback :
    Meets (withEm 63 { lbWait := [(true, 0)] } ready) (fun b =>
      (emGet b (63 : Fin 64)).lbWait.find? (fun w => w.1 == true && closer 3277 w.2 409) = some (true, 0) ∧
      ((409 : Int) - 0).natAbs ≤ 409 ∧
      (emGet b (63 : Fin 64)).lbWait.find? (fun w => w.1 == true && closer 3277 w.2 410) = some (true, 0) ∧
      409 < ((410 : Int) - 0).natAbs ∧
      (emGet b (63 : Fin 64)).lbWait.find? (fun w => w.1 == true && closer 3277 w.2 3277) = none ∧
      (emGet b (63 : Fin 64)).lbWait.find? (fun w => w.1 == true) = some (true, 0) ∧
      (emGet b (63 : Fin 64)).lbWait.find? (fun w => w.1 == false) = none) := meets (by decide +kernel)

/-- 500 ps and 499 ps low, on and in reset. -/
theorem witness_TripBalls : ready.on = true ∧ State.reset.on = false ∧ 500 ≤ 500 ∧ 499 < 500 := by decide

theorem witness_TripAndBudgetRules :
    (emGet ready 0).latched = false ∧ (emGet (withEm 0 { latched := true } ready) 0).latched = true ∧
    inSafeMap ready 35 = false ∧ State.reset.safe.safe = true ∧ (emGet ready 0).out = 0 ∧
    (let s : State := { ready with safe := { ready.safe with todo := [{ bit := 6 }] } }
     s.safe.todo.any (isSafeCause s) = true) := by decide +kernel

/-- Quadrant 3 as given. -/
def withEng (e : Eng) (s : State) : State := { s with eng := [(3, e)] }

theorem witness_EnginesHaltAndTags_engine :
    let c : Closed := { ch := 800, at_ := 5 }
    Meets (withEng { closed := [c] } ready) (fun b => nextClosed (engGet b (3 : Fin 4)).closed = some c ∧
      (engGet b (3 : Fin 4)).pass = none ∧ tagWait b (3 : Fin 4) c = false ∧ swapWait b c = false) ∧
    Meets (withTile 50 { pend := [{ t := 1000000, win := 1, tag := 5 }] } (withEng { closed := [{ c with pix := { acqSeqs := [5] } }] } ready)) (fun b =>
      nextClosed (engGet b (3 : Fin 4)).closed = some { c with pix := { acqSeqs := [5] } } ∧
      swapWait b { c with pix := { acqSeqs := [5] } } = true) ∧
    Meets ready (fun b => (engGet b (3 : Fin 4)).closed = []) ∧
    Meets (withEng { pass := some { px := c } } ready) (fun b => (engGet b (3 : Fin 4)).pass = some { px := c }) ∧
    Meets (withEng { tail := [{ px := c }] } ready) (fun b => (engGet b (3 : Fin 4)).tail = [{ px := c }]) :=
  ⟨meets (by decide +kernel), meets (by decide +kernel), meets (by decide +kernel), meets (by decide +kernel), meets (by decide +kernel)⟩

theorem witness_EnginesHaltAndTags_tags :
    Meets { ready with chan := [(1023, { haltWait := true })] } (fun b => (chanGet b (1023 : Fin 1024)).haltWait = true ∧
      (chanGet b (1023 : Fin 1024)).held = false) ∧
    4096 * 256 - 1 < 4096 * 256 ∧
    Meets { ready with pers := [(3, { clearing := true })] } (fun b => (persGet b (3 : Fin 4)).clearing = true) ∧
    Meets ready (fun b => (persGet b (3 : Fin 4)).clearing = false) :=
  ⟨meets (by decide +kernel), by decide, meets (by decide +kernel), meets (by decide +kernel)⟩

theorem witness_BankSwap :
    (engGet ready 3).run = false ∧ 0 = (engGet ready 3).bank ∧ 1 ≠ (engGet ready 3).bank ∧
    (engGet (withEng { run := true } ready) 3).run = true ∧ (engGet (withEng { run := true } ready) 3).queued = none ∧
    (engGet (withEng { run := true, queued := some (0, 7) } ready) 3).queued = some (0, 7) := by decide +kernel

/-! ### Witnesses: host interface, output, supervision -/

/-- The first and last offsets of the mailbox region; ALERT clear; read-only offsets. -/
theorem witness_HostRegisters :
    wfSlot 0x8000 = true ∧ wfSlot 0xBFFC = true ∧ (0 : BitVec 32).toNat.testBit 6 = false ∧
    Meets ready (fun b => b.outq.newest ≤ b.outq.seenSeq) ∧
    [0x0000, 0x0004, 0x7FFC, 0xC000, 0xFFFC].all (fun off => wfOffset off && !wfSlot off
      && ([0x0008, 0x000C, 0x0018, 0x001C, 0x0034].contains off == false)) = true :=
  ⟨by decide, by decide, by decide, meets (by decide +kernel), by decide⟩

/-- Eleven and twelve PCI Express commands queued: SPI still finds an entry. -/
theorem witness_MailboxStates :
    let q := fun (n : Nat) => ({ ready with ctl := { ready.ctl with queue := List.range n } } : State)
    mbxIface 15 = 0 ∧ (mbxGet (q 11) 15).st ≠ .posted ∧ entryFree 0 (q 11) = true ∧ entryFree 0 (q 12) = false ∧
    mbxIface 16 = 1 ∧ entryFree 1 (q 15) = true ∧ entryFree 1 (q 16) = false ∧ mbxIface 24 = 2 ∧ mbxIface 15 ≠ 1 ∧
    (mbxGet (post 15 0 0 0 [] ready) 15).st = .posted ∧
    (mbxGet { ready with ctl := { ready.ctl with mbx := [(15, { st := .done })] } } 15).st = .done ∧
    (mbxGet ready 15).st ≠ .done := by decide +kernel

theorem witness_MailboxWindow :
    wfSlot 0x8000 = true ∧ wfSlot 0x80FC = true ∧ wfSlot 0x8100 = true ∧ mbxIface ((0x80FC - 0x8000) / 512) = 0 ∧
    (mbxGet ready 0).st ≠ .posted ∧ (0x80FC - 0x8000) % 512 < 256 ∧ 256 ≤ (0x8100 - 0x8000) % 512 ∧
    tabWf {} ready.ctl.mbx = true ∧ tabWf 0 (mbxGet ready 0).cmd = true ∧ tabWf {} (post 15 0 0 0 [1] ready).ctl.mbx = true ∧
    tabWf 0 (mbxGet (post 15 0 0 0 [1] ready) 15).cmd = true ∧ 24 < 32 ∧
    2 ^ 32 - 1 < 2 ^ 32 ∧ 0x80F8 ≠ 0x80FC ∧ (List.replicate 30 (0 : Word)).length ≤ 30 ∧ 16 < 24 ∧ 15 < 16 := by decide +kernel

/-- A WRITE_C of one word 0 to 0x0034 with its CRC, and another CRC. -/
theorem witness_SpiAndUdp_spi :
    let crc : BitVec 32 := BitVec.ofNat 32 (crc32c (spiCrcBytes 0x12 0x0034 1 [0, 0, 0, 0]))
    (0x0034 : BitVec 16).toNat % 4 = 0 ∧ (0x0035 : BitVec 16).toNat % 4 ≠ 0 ∧ 1 ≤ (1 : BitVec 8).toNat ∧ (64 : BitVec 8).toNat ≤ 64 ∧ 64 < (65 : BitVec 8).toNat ∧
    ([0, 0, 0, 0] : List (BitVec 8)).length = 4 * (1 : BitVec 8).toNat ∧
    crc32c (spiCrcBytes 0x12 (0x0034 : BitVec 16).toNat 1 (([0, 0, 0, 0] : List (BitVec 8)).map BitVec.toNat)) = crc.toNat ∧
    crc32c (spiCrcBytes 0x12 (0x0034 : BitVec 16).toNat 1 (([0, 0, 0, 0] : List (BitVec 8)).map BitVec.toNat))
      ≠ (crc + 1).toNat ∧
    crc32c (spiCrcBytes 0x12 (0x0035 : BitVec 16).toNat 1 (([0, 0, 0, 0] : List (BitVec 8)).map BitVec.toNat))
      = (BitVec.ofNat 32 (crc32c (spiCrcBytes 0x12 0x0035 1 [0, 0, 0, 0])) : BitVec 32).toNat := by decide +kernel

/-- A datagram of SYS.GET_INFO for mailbox 31 (Table 9 of ch. 11). -/
def infoDatagram : List Word :=
  [pack [(8, 31), (8, 1), (48, 0)], pack [(16, 0x0060), (16, 8), (16, 1), (16, 0)], 0, sel 0 0]

theorem witness_SpiAndUdp_udp :
    let m := fun (x : Mbx) => ({ ready with ctl := { ready.ctl with mbx := [(31, x)] } } : State)
    udpOk ⟨infoDatagram, []⟩ = true ∧ udpOk {} = false ∧ fld (infoDatagram.getD 0 0) 63 56 = 31 ∧
    Meets (m { st := .posted }) (fun b => (mbxGet b 31).st = .posted) ∧
    Meets (m { st := .done, src := some { ip := 1, port := 2 }, last := ⟨infoDatagram.drop 1, []⟩ }) (fun b =>
      (mbxGet b 31).st = .done ∧ (mbxGet b 31).src = some { ip := 1, port := 2 } ∧ (mbxGet b 31).last = ⟨infoDatagram.drop 1, []⟩) ∧
    Meets (m { st := .done, src := some { ip := 1, port := 3 }, last := ⟨infoDatagram.drop 1, []⟩ }) (fun b =>
      (mbxGet b 31).st = .done ∧ (mbxGet b 31).src = some { ip := 1, port := 3 } ∧ 3 ≠ 2) ∧
    udpOk ⟨infoDatagram, [0]⟩ = false ∧ udpOk ⟨[pack [(8, 31), (8, 1), (48, 0)], pack [(16, 0x0060), (16, 9), (16, 1), (16, 0)], 0, sel 0 0], [0]⟩ = true ∧
    Meets ready (fun b => (mbxGet b 31).st ≠ .posted ∧ (mbxGet b 31).st = .idle) :=
  ⟨by decide +kernel, by decide +kernel, by decide +kernel, meets (by decide +kernel), meets (by decide +kernel),
   meets (by decide +kernel), by decide +kernel, by decide +kernel,
   meets (by decide +kernel)⟩

theorem witness_PublicationAndQueues_pair :
    let c := fun (u : List (Nat × Nat)) => ({ ready with ctl := { ready.ctl with unpub := u } } : State)
    Meets ready (fun b => b.ctl.unpub = []) ∧
    Meets (c [(1, 5)]) (fun b => b.ctl.unpub = [(1, 5)] ∧ 1 ≠ b.ctl.pubEpoch) ∧
    Meets (c [(0, 0)]) (fun b => b.ctl.unpub = (b.ctl.pubEpoch, b.ctl.pubDigest) :: []) ∧
    Meets (c [(0, 5)]) (fun b => b.ctl.unpub = [(b.ctl.pubEpoch, 5)] ∧ 5 ≠ b.ctl.pubDigest) :=
  ⟨meets (by decide +kernel), meets (by decide +kernel), meets (by decide +kernel), meets (by decide +kernel)⟩

/-- The alerts of the SPI buffer: the 31st after the last acknowledged is accepted, the 32nd waits. -/
theorem witness_PublicationAndQueues_queues :
    let q := fun (r : QRun) => ({ ready with outq := { q := [(5, r)] } } : State)
    let alert := fun (n : Nat) => List.replicate 4 (0 : Word) ++ [pack [(32, n), (32, 0)], 0, 0]
    Meets (withQueue ready) (fun b => 5 < queueCount b ∧ cfgF b .queue 5 0 63 63 = 1 ∧ cfgF b .queue 5 0 60 59 = 0) ∧
    Meets (q { irqWait := true }) (fun b => (qRun b 5).irqWait = true) ∧
    Meets ready (fun b => (qRun b 5).irqWait = false) ∧
    Meets (q { dgram := { frags := [[0]] } }) (fun b => (qRun b 5).dgram.frags ≠ []) ∧
    Meets { ready with outq := { c0Spi := [(5, alert 31)] } } (fun b => c0Get b 2 = [(5, alert 31)] ∧
      destAccepts 2 5 (alert 31) b = true) ∧
    Meets { ready with outq := { c0Spi := [(5, alert 32)] } } (fun b => c0Get b 2 = [(5, alert 32)] ∧
      destAccepts 2 5 (alert 32) b = false) ∧
    Meets (withCfg .port 2 [0, 0x8000, 0] ready) (fun b => cfgF b .port 2 1 30 15 ≠ 0 ∧ b.ctl.fwFault = false ∧
      b.ctl.mbxReady = true) :=
  ⟨meets (by decide +kernel), meets (by decide +kernel), meets (by decide +kernel), meets (by decide +kernel),
   meets (by decide +kernel), meets (by decide +kernel), meets (by decide +kernel)⟩

/-- A journal of 4,096 entries and one fewer, the oldest not mirrored. -/
theorem witness_JournalAppends :
    let s : State := { ready with ctl := { ready.ctl with jrnl := { jseq := 1 } :: List.replicate 4095 {} } }
    4096 ≤ s.ctl.jrnl.length ∧ s.ctl.jrnl.length ≤ 4096 ∧ s.ctl.jmirr < (s.ctl.jrnl.getD 0 {}).jseq ∧
    ready.ctl.jrnl.length < 4096 := by
  refine ⟨?_, ?_, by decide, by decide⟩ <;> simp only [List.length_cons, List.length_replicate] <;> decide

/-- The block with port 1 as given. -/
def withPort (p : Port) (s : State) : State := { s with sw := { s.sw with ports := [(1, p)] } }

theorem witness_SwitchEvents_frames :
    Meets (withPort { link := true } ready) (fun b => (portGet b (1 : Fin 2)).link = true ∧ wfFrame (frameOf 64) = true) ∧
    Meets ready (fun b => (portGet b (1 : Fin 2)).link = false) ∧
    Meets (withPort { sending := some (3, {}) } ready) (fun b => (portGet b (1 : Fin 2)).sending = some (3, {})) ∧
    Meets (withCfg .port 1 [pack [(2, 1), (62, 0)], 0, 0] (withTb { ready.tb with npll := { lock := true } })) (fun b =>
      (portGet b (1 : Fin 2)).link = false ∧ cfgF b .port (1 : Fin 2) 0 63 62 ≠ 0 ∧ b.tb.npll.lock = true) :=
  ⟨meets (by decide +kernel), meets (by decide +kernel), meets (by decide +kernel), meets (by decide +kernel)⟩

theorem witness_SwitchEvents_time :
    let on := fun (p : Port) => withCfg .time 1 [pack [(1, 1), (16, 800), (4, 13), (43, 0)]] (withPort p ready)
    Meets (on { link := true, asCapable := true, gmKnown := true }) (fun b => asOn b (1 : Fin 2) = true ∧
      (portGet b (1 : Fin 2)).asCapable = true ∧ (portGet b (1 : Fin 2)).gmKnown = true) ∧
    Meets ready (fun b => asOn b (1 : Fin 2) = false) ∧
    Meets (withPort { admin := some {} } ready) (fun b => (portGet b (1 : Fin 2)).admin = some {}) ∧
    Meets (withPort { oper := some {} } ready) (fun b => (portGet b (1 : Fin 2)).oper = some {}) :=
  ⟨meets (by decide +kernel), meets (by decide +kernel), meets (by decide +kernel), meets (by decide +kernel)⟩

/-- A service 32 AON periods after the last, and at once. -/
theorem witness_Supervision_controller :
    let wd := fun (up : Nat) => ({ ready with up := up, safe := { ready.safe with wdAt := some 0 } } : State)
    Meets { ready with safe := { ready.safe with selftest := true } } (fun b => b.safe.selftest = true) ∧
    Meets ready (fun b => b.ctl.fwFault = false) ∧
    Meets (wd (32 * 256000000)) (fun b => b.safe.wdAt = some 0 ∧ b.ctl.fwFault = false ∧ 0 + 32 * b.tb.aonCal ≤ b.up) ∧
    Meets (wd 0) (fun b => b.safe.wdAt = some 0 ∧ b.ctl.fwFault = false ∧ b.up < 0 + 32 * b.tb.aonCal) :=
  ⟨meets (by decide +kernel), meets (by decide +kernel), meets (by decide +kernel), meets (by decide +kernel)⟩

theorem witness_Supervision_errors :
    Meets { ready with safe := { ready.safe with ceOver := 17 } } (fun b => b.safe.ceOver ≠ 0) ∧
    Meets ready (fun b => b.safe.ceOver = 0) ∧
    0x400 ≤ 0x420 ∧ 0x450 ≠ 0x420 :=
  ⟨meets (by decide +kernel), meets (by decide +kernel), by decide, by decide⟩

/-- 193 sixteenths of a degree apart and 192; lock held for 1 s. -/
theorem witness_Supervision_temperature :
    let s : State := { ready with up := 1000 * fineMs, tb := { ready.tb with lockAt := some 0 } }
    Meets s (fun b => plausSuspended b = false ∧ 192 < (sampleMean b - 193).natAbs) ∧
    Meets s (fun b => plausSuspended b = false ∧ (sampleMean b - 192).natAbs ≤ 192 ∧ b.safe.sameCnt < 1000 ∧
      b.safe.missing < 4 ∧ b.pwr.samples.any sampleWild = false) ∧
    Meets { s with safe := { s.safe with sameCnt := 1000, sameInf := [(0, -81)] } } (fun b => plausSuspended b = false ∧
      1000 ≤ b.safe.sameCnt ∧
      ∃ p ∈ (b.safe.sameCnt, (0 : Int)) :: b.safe.sameInf.filter (fun x => decide (b.safe.sameCnt ≤ x.1 + 1000)),
      ∃ q ∈ (b.safe.sameCnt, (0 : Int)) :: b.safe.sameInf.filter (fun x => decide (b.safe.sameCnt ≤ x.1 + 1000)), 80 < q.2 - p.2) ∧
    Meets { s with safe := { s.safe with sameCnt := 1001, sameInf := [(0, -81)] } } (fun b => plausSuspended b = false ∧
      b.safe.missing < 4 ∧ 1000 ≤ b.safe.sameCnt ∧
      ∀ p ∈ (b.safe.sameCnt, (0 : Int)) :: b.safe.sameInf.filter (fun x => decide (b.safe.sameCnt ≤ x.1 + 1000)),
      ∀ q ∈ (b.safe.sameCnt, (0 : Int)) :: b.safe.sameInf.filter (fun x => decide (b.safe.sameCnt ≤ x.1 + 1000)), q.2 - p.2 ≤ 80) ∧
    Meets { s with safe := { s.safe with missing := 4 } } (fun b => 4 ≤ b.safe.missing) ∧
    Meets ready (fun b => plausSuspended b = true ∧ b.safe.missing < 4 ∧ b.pwr.samples.any sampleWild = false) :=
  ⟨meets (by decide +kernel), meets (by decide +kernel), meets (by decide +kernel), meets (by decide +kernel),
   meets (by decide +kernel), meets (by decide +kernel)⟩

theorem witness_Supervision_host :
    let set := fun (live heart : Nat) => withCfg .safe 0
      [pack [(2, 0), (4, 3), (10, 0), (16, heart), (16, live), (16, 1)], pack [(36, 0), (16, 16), (12, 0)], 0] ready
    Meets (set 1 1) (fun b => cfgF b .safe 0 0 31 16 ≠ 0 ∧ b.safe.active.testBit 17 = false ∧ cfgF b .safe 0 0 47 32 ≠ 0) ∧
    Meets (set 0 0) (fun b => cfgF b .safe 0 0 31 16 = 0 ∧ cfgF b .safe 0 0 47 32 = 0) :=
  ⟨meets (by decide +kernel), meets (by decide +kernel)⟩

theorem witness_StoppedControllerIsSafe :
    SafeInv { ready with safe := { ready.safe with wdAt := some 0 } } ∧
    Meets { ready with safe := { ready.safe with wdAt := some 0 } } (fun b => b.ctl.fwFault = false ∧
      b.safe.wdAt = some 0 ∧ b.safe.todo = [] ∧ b.tb.coast = false ∧
      (monCatch (decideCause 6 0 7 b)).safe.todo = (decideCause 6 0 7 b).safe.todo ∧
      (let x := decideCause 7 0 0 (safeUpd (fun u => { u with wdAt := none }) (reachUp (0 + 320 * b.tb.aonCal) b))
       (monCatch x).safe.todo = x.safe.todo)) ∧
    isNext (exec (.lockstepMismatch 0 7) ready) = true ∧
    isNext (exec (.watchdogTimeout 0) { ready with safe := { ready.safe with wdAt := some 0 } }) = true :=
  ⟨by unfold SafeInv; decide, meets (by decide +kernel), by decide +kernel, by decide +kernel⟩

/-! ### Witnesses: clauses at their other cases -/

/-- With the controller stopped SAFE.GET_STATUS alone is answered. -/
theorem witness_QueueIsServedInOrder_stopped :
    let s := fun (op : Nat) => cmd op [sel 0 0] { ready with ctl := { ready.ctl with fwFault := true } }
    nextMbx (s 0x0B60) = some 0 ∧ nextMbx (s 0x0060) = none := by decide +kernel

/-- EM.SET_LIMITS takes effect at once while running. -/
theorem witness_SettingWaitsWhileRunning_soon :
    (Instr.emSetLimits 0 0).setOp = some (0, 0, 0x0202) ∧
    Meets (cmd 0x0202 (sel 0 0 :: resetWords 0 .emLim 0) running) (fun b => nextMbx b = some 0 ∧ (cmdOf b 0).opcode = 0x0202 ∧
      writerKind 0x0202 (cmdOf b 0).opt = some .emLim ∧
      headStatus (taken 0 b) (cmdOf b 0) (writeRow .emLim (cmdOf b 0)) = stOk ∧ (cmdOf b 0).txn = 0 ∧
      isIdle (taken 0 b) = false ∧ tapsBusy (taken 0 b) (cfgAt (taken 0 b) 1) (writeOps .emLim (cmdOf b 0)) = false ∧
      setBoundary (taken 0 b) 1 (writeOps .emLim (cmdOf b 0)) = some 1 ∧
      soonSet (taken 0 b) 1 (writeOps .emLim (cmdOf b 0)) = true ∧
      setStatus (taken 0 b) 1 (writeOps .emLim (cmdOf b 0)) = stOk) :=
  ⟨by decide, meets (by decide +kernel)⟩

/-- TEAM.HUDDLE on a block of no team, on a master whose team runs, and on one whose team is not formed. -/
theorem witness_BlockActions_huddle :
    let row := rowNone 3 false (fun c => onlyBits (c.w 1) [(35, 0)] && onlyBits (c.w 2) [(35, 0)])
    Meets (cmd 0x0940 [sel 0 0, 0, 0] ready) (fun b => passes 0 0x0940 row b = true ∧ isMaster (taken 0 b) = false) ∧
    Meets (cmd 0x0940 [sel 0 0, 0, 0] { master with team := { master.team with peerIdle := 0 } }) (fun b =>
      passes 0 0x0940 row b = true ∧ isMaster (taken 0 b) = true ∧ teamIdle (taken 0 b) = false) ∧
    Meets (cmd 0x0940 [sel 0 0, 0, 0] { master with team := { master.team with formed := false } }) (fun b =>
      passes 0 0x0940 row b = true ∧ isIdle (taken 0 b) = true ∧ teamIdle (taken 0 b) = true ∧
      isMaster (taken 0 b) = true ∧ (taken 0 b).team.formed = false) :=
  ⟨meets (by decide +kernel), meets (by decide +kernel), meets (by decide +kernel)⟩

/-- Team arming with a tile out of service, off the master, on a master whose team is not formed, and on one formed. -/
theorem witness_RecorderCommands_arm :
    let arm : State → Cmd → Row := fun _ c => { len := lenIs c 2, range := selPlain c false [0, 1] && selNone c && c.w 1 != 0 }
    let out := fun (b : State) => (maskTiles (cmdOf b 0)).any (fun ti => (tileGet (taken 0 b) ti).calOut)
    Meets (cmd 0x0540 [sel 1 0, 1] (withTile 0 { calOut := true } ready)) (fun b =>
      passes 0 0x0540 arm b = true ∧ out b = true) ∧
    Meets (cmd 0x0540 [sel 1 0, 1] ready) (fun b => passes 0 0x0540 arm b = true ∧ out b = false ∧ (cmdOf b 0).opt = 1 ∧
      isMaster (taken 0 b) = false) ∧
    Meets (cmd 0x0540 [sel 1 0, 1] { master with team := { master.team with formed := false } }) (fun b =>
      passes 0 0x0540 arm b = true ∧ out b = false ∧ (cmdOf b 0).opt = 1 ∧ isMaster (taken 0 b) = true ∧
      (taken 0 b).team.formed = false) ∧
    Meets (cmd 0x0540 [sel 1 0, 1] master) (fun b => passes 0 0x0540 arm b = true ∧ out b = false ∧ (cmdOf b 0).opt = 1 ∧
      isMaster (taken 0 b) = true ∧ (taken 0 b).team.formed = true) :=
  ⟨meets (by decide +kernel), meets (by decide +kernel), meets (by decide +kernel), meets (by decide +kernel)⟩

theorem witness_CalibrationCommands_team :
    Meets (cmd 0x0842 [sel 0 0] master) (fun b => passes 0 0x0842 (rowNone 1 false anyCmd) b = true ∧
      membersLocked (taken 0 b) = true ∧ teamCalibrates (taken 0 b) = false) := meets (by decide +kernel)

/-- SYS.RESET beside a SYS.SELECT_BOOT that runs, and alone. -/
theorem witness_ResetImageAndReadout_busy :
    let reset := rowNone 2 false (fun c => (c.w 1).toNat == 0x5A)
    Meets (cmd 0x0040 [sel 0 0, 0x5A] { ready with ctl := { ready.ctl with bg := [{ group := 0 }] } }) (fun b =>
      passes 0 0x0040 reset b = true ∧ isIdle (taken 0 b) = true ∧ bgBusy (taken 0 b) 0 = true) ∧
    Meets (cmd 0x0040 [sel 0 0, 0x5A] ready) (fun b =>
      passes 0 0x0040 reset b = true ∧ isIdle (taken 0 b) = true ∧ bgBusy (taken 0 b) 0 = false) :=
  ⟨meets (by decide +kernel), meets (by decide +kernel)⟩

/-- An all-zero partition, and one whose header gives another CRC for the table of sense constants. -/
theorem witness_ResetPowerAndBoot_factory :
    factBad ready.fact [] = none ∧ factBad { ready.fact with crcs := [(8, 0)] } [] = some 8 ∧
    factBad ready.fact [⟨8, 5, 1⟩] = some 8 := by decide +kernel

/-- The identification code stands in the data register; BYPASS is one bit. -/
theorem witness_ResetLeaves_tap :
    (tapCapture (tapSelect .idcode ready)).tap.dr.length = 32 ∧ (tapCapture (tapSelect .bypass ready)).tap.dr = [false] ∧
    ({ ready with tap := { st := .updateIr, irShift := [true, true] } } : State).tap.st = .updateIr := by
  decide +kernel

theorem witness_PageWrites_mirror :
    Meets { ready with pwr := { ready.pwr with nvmNow := some (.journal 1) } } (fun b => mirrorBusy b = true) :=
  meets (by decide +kernel)

/-- A reference lost while a coast was about to end; AON periods before and after the last good edge. -/
theorem witness_CoastBegins_edges :
    Meets (withTb { ready.tb with st := .reacquire, holdAt := some 0 }) (fun b => b.tb.refPresent = true ∧
      b.tb.st = .reacquire ∧ b.tb.holdAt.isSome = true ∧ b.tb.judging = false) ∧
    ({ ready with up := 10 } : State).up < ({ ready with up := 10 } : State).tb.aonAt + 11 ∧
    ({ ready with up := 10 } : State).tb.aonAt + 10 ≤ ({ ready with up := 10 } : State).up :=
  ⟨meets (by decide +kernel), by decide, by decide⟩

/-- A jump as announced, and one without an announcement. -/
theorem witness_FrequencyPhaseAndSpread_follower :
    Meets { follower with team := { follower.team with stepDelta := some 1000 } } (fun b => tpllLocked b = true ∧
      isFollower b = true ∧ b.team.stepDelta = some 1000 ∧ ((1000 : Int) - 900).natAbs * 500 ≤ 50 * 4096) ∧
    Meets follower (fun b => tpllLocked b = true ∧ isFollower b = true ∧ announced 1000 b = false ∧
      50 * 4096 < (1000 : Int).natAbs * 500) ∧
    Meets (withTb { ready.tb with refPresent := false }) (fun b =>
      ppmOver ((4 * b.tb.aonCal + 2048) / 4096) ((4 * b.tb.aonCal + 2048) / 4096) = false) :=
  ⟨meets (by decide +kernel), meets (by decide +kernel), meets (by decide +kernel)⟩

/-- HUDDLE_OUT due on a follower, on an idle master and on one that runs; hops up and down. -/
theorem witness_TeamEvents_hops :
    let due := fun (s : State) => ({ s with team := { s.team with huddleAt := some 0 } } : State)
    let run := fun (s : State) => ({ s with pb := { st := .running } } : State)
    Meets (due follower) (fun b => b.team.huddleAt = some 0 ∧ isMaster b = false) ∧
    Meets (due master) (fun b => b.team.huddleAt = some 0 ∧ isMaster b = true ∧ isIdle b = true ∧ zeroOpen b = false) ∧
    Meets (due { master with cal := { left := [0], shotAt := [(1, 10 ^ 9)] } }) (fun b => b.team.huddleAt = some 0 ∧
      isMaster b = true ∧ isIdle b = true ∧ zeroOpen b = true) ∧
    Meets (run (due master)) (fun b => b.team.huddleAt = some 0 ∧ isMaster b = true ∧ isIdle b = false) ∧
    Meets (huddleMode (run follower)) (fun b => cfgF b .mode 0 0 3 3 ≠ 0 ∧ b.tb.epochSet = true ∧ isIdle b = false ∧
      isFollower b = true) ∧
    Meets follower (fun b => b.team.uplink = true ∧ isFollower b = true ∧ 1 ≤ devNum b ∧ ([7] : List Int)[devNum b - 1]? = some 7 ∧
      hopOpen b (sideOf b (0 : Fin 16)) = true) ∧
    Meets { follower with team := { follower.team with uplink := false } } (fun b => teamEn b = true ∧ b.team.uplink = false ∧
      (0 : Fin 16).val ≠ devNum b ∧ hopOpen b (sideOf b (0 : Fin 16)) = false) :=
  ⟨meets (by decide +kernel), meets (by decide +kernel), meets (by decide +kernel), meets (by decide +kernel), meets (by decide +kernel),
   meets (by decide +kernel), meets (by decide +kernel)⟩

/-- An exchange 1 ns longer out than back, beyond the limit of 20 ns times two in half units, and a fair one. -/
theorem witness_TeamEvents_exchange :
    let far := fun (b : State) (a0 w1 w2 a3 : Int) =>
      let est := (w1 - a0) - (a3 - w2) - 2 * hopAsym b (devNum b)
      let x : State := { b with team := { b.team with watch := (est :: b.team.watch).take 1024 } }
      x.team.watchHas && watchFar x
    Meets { follower with team := { follower.team with watchHas := true } } (fun b => teamEn b = true ∧
      b.team.formed = true ∧ b.team.watchAlarm = false ∧ far b 0 10000 0 0 = true ∧ far b 0 100 100 200 = false) :=
  meets (by decide +kernel)

/-- A gap and an entry out of range at the reading position; STOP AT_FRAME before a FRAME descriptor. -/
theorem witness_Walk_gaps :
    let ring : Pb := { st := .running, walk := .fetch, entry := entryOf 1 0, header := true, wr := 1 }
    let badDesc : Obj := [0, 0, BitVec.allOnes 64, BitVec.allOnes 64]
    let free := fun (b : State) => (mirrorMode b = false ∨ cfgF b .pb 0 3 28 28 ≠ 1 ∨ b.pb.mirrorLocked = true) ∧
      b.pb.walk = .fetch ∧ b.pb.st = .running ∧ streamed b = true ∧ b.pb.header = true ∧ b.pb.rd ≠ b.pb.wr
    Meets (withPb { ring with gapAt := [0] }) (fun b => free b ∧ b.pb.gapAt.contains b.pb.rd = true) ∧
    Meets (withCfg .desc 0 badDesc (withCfg .stream 0 [pack [(16, 0), (16, 0), (4, 8), (28, 0)], 0] (withPb ring))) (fun b => free b ∧
      b.pb.gapAt.contains b.pb.rd = false ∧ (reservedOk .desc 0 (curDesc b) && rangeOk .desc 0 (curDesc b)) = false) ∧
    Meets (withPb { st := .running, walk := .expand [0, 2 ^ 34, 2 ^ 34, 2 ^ 34] 0, stop := some 1 }) (fun b =>
      b.pb.walk = .expand [0, 2 ^ 34, 2 ^ 34, 2 ^ 34] 0 ∧ b.pb.st = .running ∧ heldFull b = false ∧
      dFlag [0, 2 ^ 34, 2 ^ 34, 2 ^ 34] 34 = true ∧ b.pb.stop = some 1) ∧
    Meets (withPb { st := .running, walk := .expand [0, 2 ^ 34, 2 ^ 34, 2 ^ 34] 0 }) (fun b =>
      heldFull b = false ∧ dFlag [0, 2 ^ 34, 2 ^ 34, 2 ^ 34] 34 = true ∧ b.pb.stop ≠ some 1) :=
  ⟨meets (by decide +kernel), meets (by decide +kernel), meets (by decide +kernel), meets (by decide +kernel)⟩

theorem witness_ShotsAndWindows_timeout :
    Meets mirrorPb (fun b => mirrorNext b = some 0 ∧ b.pb.mirrorLocked = true) ∧
    Meets mirrorPb (fun b => let u := monInputs 33 true false b
      (monGet u 32).held = false ∧ u.tb.epochSet = true ∧ mirrorNext u = some 0) :=
  ⟨meets (by decide +kernel), meets (by decide +kernel)⟩

/-- The block with DEV_MAC 2, IPv4 address 0x0A000001 and the ports 5000 and 5001, port 1 up. -/
def netBlock (s : State) : State :=
  withCfg .ctrlPort 0 [5000] (withCfg .port 2 [pack [(48, 2), (16, 0)], pack [(32, 0x0A000001), (32, 0)], 0]
    { s with sw := { s.sw with ports := [(1, { link := true })] } })

/-- A frame for the device with a datagram for this port. -/
def netFrame (port : Nat) : EthFrame := { frameOf 64 with udp := some (0x0A000001, port) }

/-- Stream datagrams in a frame that the device accepts, after a bad one, and in one that it does not accept. -/
theorem witness_Streaming_frames :
    let on := fun (p : Pb) => netBlock (withCfg .stream 0 [pack [(16, 0), (16, 0), (4, 8), (2, 2), (5, 8), (5, 0), (16, 5001)], 0] (withPb p))
    let f := netFrame 5001
    let ok := fun (b : State) => (frameRx 1 f b).1 = true ∧ f.udp.map (fun u => u.2) = some (cfgF b .stream 0 0 15 0) ∧
      cfgF (frameRx 1 f b).2 .stream 0 0 27 26 = 2
    wfFrame f = true ∧
    Meets (on {}) (fun b => ok b ∧ (underCheck (frameRx 1 f b).2).pb.netSeq = none ∧ 1 ≤ ringRoom (underCheck (frameRx 1 f b).2)) ∧
    Meets (on { netBad := true, netSeq := some 4 }) (fun b => ok b ∧ (underCheck (frameRx 1 f b).2).pb.netSeq = some 4 ∧
      (underCheck (frameRx 1 f b).2).pb.netBad = true) ∧
    Meets (on { wr := 255 }) (fun b => ok b ∧ ringRoom (underCheck (frameRx 1 f b).2) < 1) ∧
    Meets (on { netSeq := some (2 ^ 32 - 1) }) (fun b => ok b ∧
      (underCheck (frameRx 1 f b).2).pb.netSeq = some (2 ^ 32 - 1)) ∧
    Meets (netBlock (withCfg .stream 0 [pack [(16, 0), (16, 0), (4, 8), (2, 1), (5, 8), (5, 0), (16, 5001)], 0] ready)) (fun b =>
      (frameRx 1 f b).1 = true ∧ f.udp.map (fun u => u.2) = some (cfgF b .stream 0 0 15 0) ∧
      cfgF (frameRx 1 f b).2 .stream 0 0 27 26 ≠ 2) ∧
    Meets ready (fun b => (frameRx 1 f b).1 = false) :=
  ⟨by decide +kernel, meets (by decide +kernel), meets (by decide +kernel), meets (by decide +kernel), meets (by decide +kernel),
   meets (by decide +kernel), meets (by decide +kernel)⟩

/-- A trigger of a lower cause in the 1 ns of the one taken, filling and frozen at once, and later ones. -/
theorem witness_RecorderTrigger_lower :
    let r : Rec := { st := .filling, cause := 5, trigDt := 8192 }
    let f : Rec := { r with st := .frozen, freezeAt := some 8192 }
    (tileGet (withTile 63 { rcd := r } ready) 63).rcd = r ∧ (tileGet (withTile 63 { rcd := f } ready) 63).rcd = f ∧
    trigCycle 4 8191 = trigCycle r.cause r.trigDt ∧ trigCycle 4 8192 ≠ trigCycle r.cause r.trigDt ∧ 4 < r.cause ∧ r.cause ≤ 5 ∧
    f.freezeAt = some f.trigDt := by decide +kernel

/-- Edges seen through the reference converter: at its time, and an edge that a trip has forced low. -/
theorem witness_SchedulerAndEmitters_reference :
    Meets (withEm 63 { lbWait := [(true, 4096 * 2 + 2048)] } ready) (fun b =>
      let t := refTime b (63 : Fin 64) true 2 0
      ((emGet b (63 : Fin 64)).lbWait.find? (fun w => w.1 == true && closer 3277 w.2 t)).isSome = true) ∧
    Meets (withEm 63 { cuts := 1 } ready) (fun b => 0 < (emGet b (63 : Fin 64)).cuts ∧
      (emGet b (63 : Fin 64)).lbWait.find? (fun w => w.1 == false && closer 3277 w.2 (refTime b (63 : Fin 64) false 2 0)) = none) ∧
    Meets ready (fun b => (emGet b (63 : Fin 64)).cuts = 0) :=
  ⟨meets (by decide +kernel), meets (by decide +kernel), meets (by decide +kernel)⟩

/-- One mailbox rung and one released; ALERT cleared with and without newer alerts; 64-bit offsets. -/
theorem witness_HostRegisters_one :
    maskBits 32 (0x8000 : BitVec 32).toNat = [15] ∧ mbxIface 15 = 0 ∧
    Meets ready (fun b => (mbxGet b 15).st ≠ .posted ∧ entryFree 0 b = true ∧ b.ctl.mbxReady = true) ∧
    Meets { ready with ctl := { ready.ctl with mbx := [(15, { st := .done })] } } (fun b => (mbxGet b 15).st = .done) ∧
    Meets { ready with outq := { newest := 2, seenSeq := 1 } } (fun b => b.outq.seenSeq < b.outq.newest) ∧
    (64 : BitVec 32).toNat.testBit 6 = true ∧ wfSlot 0x8008 = true ∧ 0x8008 % 8 = 0 ∧ wfOffset 0x0018 = true ∧ 0x0018 % 8 = 0 ∧
    wfSlot 0x0018 = false :=
  ⟨by decide +kernel, by decide, meets (by decide +kernel), meets (by decide +kernel), meets (by decide +kernel),
   by decide, by decide, by decide, by decide, by decide, by decide⟩

/-- Control datagrams in an accepted frame, and in one for another port or on a port that is down. -/
theorem witness_SpiAndUdp_frames :
    let f := netFrame 5000
    Meets (netBlock ready) (fun b => wfFrame f = true ∧ (frameRx 1 f b).1 = true ∧
      f.udp.map (fun u => u.2) = some (cfgF b .ctrlPort 0 0 15 0) ∧ entryFree 2 (frameRx 1 f b).2 = true ∧
      (frameRx 1 f b).2.ctl.mbxReady = true ∧ (mbxGet (frameRx 1 f b).2 31).st = .idle) ∧
    Meets (netBlock ready) (fun b => (netFrame 5001).udp.map (fun u => u.2) ≠ some (cfgF b .ctrlPort 0 0 15 0)) ∧
    Meets ready (fun b => (frameRx 1 f b).1 = false) :=
  ⟨meets (by decide +kernel), meets (by decide +kernel), meets (by decide +kernel)⟩

/-- A record that waits for the next read of CONS. -/
theorem witness_PublicationAndQueues_wait :
    Meets { ready with outq := { q := [(5, { wait := [[[0]]] })] } } (fun b => 5 < queueCount b ∧ (qRun b 5).wait ≠ [] ∧
      cfgF b .queue 5 0 60 59 = 0) := meets (by decide +kernel)

/-- A frame whose datagram the device accepts and one for another station; a frame on the line with no window near, and a
preemptable one of 1,500 bytes suspended 200 ns before the window that begins in 1.3 µs; a sync and an answer to a delay request; no frame on the line. -/
theorem witness_SwitchEvents_line :
    let cut : Port := { link := true, preempt := true, sending := some (3, { len := 1500 }), oper := some { cycleNs := 1000, entries := [(128, 500)] },
                        gateEnd := 13000 }
    let at_ := fun (b : State) (f : Frame) =>
      holdFor 1 (reachUp ((portGet b 1).sendAt + lineTime (f.len - (portGet b 1).sentB + 20)) b)
    Meets (netBlock ready) (fun b => (frameRx 1 (netFrame 5000) b).1 = true ∧
      (netFrame 5000).udp.map (fun u => u.2) = some (cfgF (frameRx 1 (netFrame 5000) b).2 .ctrlPort 0 0 15 0)) ∧
    Meets (netBlock ready) (fun b => (frameRx 1 { netFrame 5000 with dstMac := 7 } b).1 = false) ∧
    ([{}, { info := .sync 0 }, { info := .pdelayResp 0 }] : List Frame).all (fun f =>
      (portGet (at_ (begin_ 0 (withPort { sending := some (3, f) } ready)) f) 1).sending.isSome) = true ∧
    Meets (withPort cut ready) (fun b => (portGet b 1).sending = some (3, { len := 1500 }) ∧
      (portGet (at_ b { len := 1500 }) 1).sending = none) ∧
    Meets ready (fun b => (portGet b 1).sending = none) :=
  ⟨meets (by decide +kernel), meets (by decide +kernel), by decide +kernel, meets (by decide +kernel),
   meets (by decide +kernel)⟩

/-- Frames for the device, for another station and for all; a gate list in force on a port that sends nothing; 802.1AS
behind both ports. -/
theorem witness_SwitchEvents_more :
    let free := fun (b : State) (f : EthFrame) => wfFrame f = true ∧ (portGet b (1 : Fin 2)).link = true ∧
      filterOf b 1 f = none ∧ recoverOf b f = none ∧ f.arpFor = none
    let take := fun (b : State) (f : EthFrame) => f.dstMac = devMac b ∧ admitP2 b 1 f = true
    let as := fun (s : State) => withCfg .time 0 [pack [(1, 1), (16, 800), (4, 13), (43, 0)]]
      (withCfg .time 1 [pack [(1, 1), (16, 800), (4, 13), (43, 0)]]
        { s with sw := { s.sw with ports := [(0, { link := true, asCapable := true, gmKnown := true }), (1, { link := true, asCapable := true })] } })
    Meets (netBlock ready) (fun b => free b (netFrame 5000) ∧ take b (netFrame 5000) ∧ devAccepts b 1 (netFrame 5000) = true) ∧
    Meets (netBlock ready) (fun b => free b (netFrame 7) ∧ take b (netFrame 7) ∧ devAccepts b 1 (netFrame 7) = false) ∧
    Meets (netBlock ready) (fun b => free b { frameOf 64 with dstMac := bcast } ∧ bcast ≠ devMac b) ∧
    Meets (as ready) (fun b => asOn b (1 : Fin 2) = true ∧ (portGet b (1 : Fin 2)).asCapable = true ∧
      (portGet b (1 - (1 : Fin 2).val)).asCapable = true ∧ (portGet b (1 - (1 : Fin 2).val)).gmKnown = true ∧
      cfgF b .time 2 0 63 56 ≠ 1) ∧
    Meets (withPort { oper := some { cycleNs := 1000, entries := [(1, 500)] } } ready) (fun b =>
      (portGet b (1 : Fin 2)).oper = some { cycleNs := 1000, entries := [(1, 500)] } ∧
      (portGet (reachSched 1 (portGet b (1 : Fin 2)).gateEnd b) (1 : Fin 2)).sending = none) :=
  ⟨meets (by decide +kernel), meets (by decide +kernel), meets (by decide +kernel), meets (by decide +kernel),
   meets (by decide +kernel)⟩

/-! ### Values worked in the spec's own examples -/

/-- The echo of ch. 08's worked pixel: background 154, half-maximum crossings 1.3684 (26/19) below and 1.6316 (31/19)
above the peak, corrected time 1,643,035, TIME 0x6448, RANGE 300,641, SCORE 298. The y values are in tenths; δ = 18/136.8. -/
theorem test_echo_example :
    let b38 := 24 * 64 * 107374182
    min (2 ^ 28 - 1) (rndDiv ((b38 : Nat) : Int) (2 ^ 30)).toNat = 154 ∧
    crossing 456 0 [456, 312, 84] = ((624, 456), true) ∧ 624 * 19 = 26 * 456 ∧
    crossing 456 0 [456, 372, 144] = ((744, 456), true) ∧ 744 * 19 = 31 * 456 ∧
    rndDiv (18 * 65536 * 10) 1368 = 8623 ∧
    correctedTime 0 6 64 432 8623 0 0 = 1643035 ∧
    rndDiv 1643035 64 = 0x6448 ∧ rangeOf 1643035 0 = 300641 ∧
    scoreOf 64 (6 * 8192) (10 * 8192 * 8192) b38 0 (456 * 8192 * 2 ^ 38 / 10) = 298 := by decide +kernel

/-- A lone return of 24 counts in bin 400 through the flat part of the chain, by hand from Table 1 of ch. 08: T = 8, one
tap h[7] = 2, so y[407] = 48 alone; with 3.5 bins of G taken off, the time is (400 + 7 + ½ − 3½) bins of 4,096. -/
theorem test_echo_chain :
    let cfg : Obj := [pack [(7, 0), (2, 0), (1, 1), (1, 0), (4, 8), (8, 4), (8, 0x50), (1, 0), (2, 1), (3, 3), (27, 0)], pack [(24, 64), (40, 0)]]
    let r := echoChain cfg { shotsAcq := 24, k := 6, bins := [(400, 24)] } 0 ([0, 0, 0, 0, 0, 0, 0, 2] : List Int) 0 0
    r.echoes.map (fun e => (e.time, e.amp, e.width)) = [(404 * 64, 24 * 16, 16)] ∧ r.found = 1 ∧ r.dropped = 0 := by
  decide +kernel

/-- Factory tables that are flat over temperature: K_SKEW −731, L 47 up to code 3,968 and 11 from 4,032 on, K_USER +41. -/
def edgeBlock : State :=
  withCfg .calEm 5 [pack [(24, 41), (40, 0)], 0]
    { ready with
      cal := { factoryOk := true }
      fact := { skew := (List.range 5).map (fun t => (25 + t, -731))
                lE := (List.range 325).map (fun k => (5 * 325 + k, if k % 65 < 63 then 47 else 11)) } }

/-- The launch points of ch. 03: cycle 2,468 at code 4,002, and with f = 4,090 the next cycle at code 5. -/
theorem test_launch_example :
    launchPoint edgeBlock 5 (2469 * 4096 + 549) = (2468, 4002) ∧
    launchPoint edgeBlock 5 (2469 * 4096 + 549 + 135) = (2469, 5) := by decide +kernel

/-- The weights of ch. 03's example: 13,600 in band B4 and 13,000 in band B2. -/
theorem test_weight_example :
    let s := withCfg .stretch 5 [0, 0, 0, 164, 800, 800] (withCfg .volley 0 [0x8004000000000000, 0, 0, 0] ready)
    (pulsesOf s 5 0 0).map (fun p => (p.rise, p.width)) = [(0, 16384)] ∧
    volleyWeight { s with cal := { s.cal with bandActive := 4 } } (pulsesOf s 5 0 0) 200 = 13600 ∧
    volleyWeight s (pulsesOf s 5 0 0) 200 = 13000 := by decide +kernel

/-- The descriptor of ch. 04's example: its origin lies 1,733 ticks after the anchor, it opens a pixel, fires EM5. -/
theorem test_descriptor_example :
    let d : Obj := [0x20, 0x00106C5000000000, 0, 0x00000009000500C8]
    originOf ready d 0 = 1733 * 4096 ∧ maskBits 64 (d.getD 0 0).toNat = [5] ∧ (entOf ready d 0 0).opens = true ∧
    (entOf ready d 0 0).closes = false ∧ dF d 2 59 52 = 0 := by decide +kernel

/-- The receive word of ch. 05's example, from the reset word and the fields it names, is accepted. -/
theorem test_rx_example :
    ([(47, 47, 1), (45, 45, 1), (31, 26, 10), (19, 10, 500), (9, 0, 150)] : List (Nat × Nat × Nat)).foldl
        (fun w f => setFld w f.1 f.2.1 f.2.2) ((resetWords 0 .rx 0).getD 0 0)
      = 0x0000A8882807D096 ∧
    rangeOk .rx 0 [0x0000A8882807D096] = true ∧ reservedOk .rx 0 [0x0000A8882807D096] = true := by decide +kernel

/-- The short pre-window of ch. 06's example: hold-off 46,000 ticks, next origin 47,905 ticks later: bin 0 is observed for
113 ticks, bin 1 for all its 256. With 48,000 ticks the next shot is refused. -/
theorem test_window_example :
    let d : Obj := [0x20, 0, 0, 0]
    let o : Int := 47905 * 4096
    let e : ShotEnt := { origin := o, p := 2048, l := 4096, preAt := 46000 * 4096 }
    preExpoLsb e 0 = 113 * 64 ∧ preExpoLsb e 1 = 256 * 64 ∧
    holdEnd (withCfg .winTile 5 [pack [(17, 1), (47, 46000)]] ready) 5 0 = 46000 * 4096 ∧
    judgeTile (withCfg .winTile 5 [pack [(17, 1), (47, 48000)]] (withTile 5 { at_ := 48000 * 4096 } ready)) d o 5 = some .refused ∧
    judgeTile (withCfg .profile 0 [BitVec.allOnes 64, 0] (withCfg .winTile 5 [pack [(17, 1), (47, 46000)]] (withTile 5 { at_ := 46000 * 4096 } ready))) d o 5
      = some .acquired := by decide +kernel

/-- EM5's limits through mailbox 3 (ch. 12): epoch 41 expected, the 500th command. -/
def em5 : State :=
  { ready with ctl := { ready.ctl with
      epoch := 41, seq := 500, queue := [3]
      mbx := [(3, { st := .posted, cmd := slotOf [0x0202001801050000, 0x0000002900000000, 0x0000000000500005,
        0x0004FB0000003520, 0x00000000000EF100] })] } }

/-- What a test looks at in a next state. -/
def after {α : Type} (f : State → α) : Host.Outcome State Fault Refusal → Option α
  | .next t => some (f t)
  | .fault _ => none
  | .refused _ => none

/-- Response word 1 reads 0x0000_0003_0000_01F4 with LENGTH 0, and the limits are in force. -/
theorem test_em5_example :
    after (fun t => ((mbxGet t 3).st, tabGet 0 (mbxGet t 3).resp 0, tabGet 0 (mbxGet t 3).resp 1, cfgObj t .emLim 5,
        t.ctl.epoch)) (exec (.emSetLimits 0 3) em5)
      = some (.done, 0x0202000001050000, 0x00000003000001F4, [0x0004FB0000003520, 0x00000000000EF100], 42) := by
  decide +kernel

/-- With another expected epoch nothing is written: EPOCH_MISMATCH (R303). -/
theorem test_em5_epoch :
    after (fun t => (fld (tabGet 0 (mbxGet t 3).resp 1) 63 48, cfgObj t .emLim 5))
      (exec (.emSetLimits 0 3) { em5 with ctl := { em5.ctl with epoch := 40 } }) = some (0x0011, [0, 0]) := by
  decide +kernel

end Sys2Proof.Machine.Tests
end

section
/-! # Family 11, the control interface: taking a command, and the states of a mailbox -/

namespace Sys2Proof.Machine

/-! ### The switch leaves the control unit alone -/

@[simp] theorem startFrame_ctl (p q at_ : Nat) (s : State) : (startFrame p q at_ s).ctl = s.ctl := by
  simp only [startFrame]; split <;> simp

@[simp] theorem resumeFrame_ctl (p : Nat) (s : State) : (resumeFrame p s).ctl = s.ctl := by
  simp [resumeFrame, apply_ite State.ctl]

@[simp] theorem cutFrame_ctl (p at_ : Nat) (s : State) : (cutFrame p at_ s).ctl = s.ctl := by
  simp only [cutFrame]; split <;> simp [apply_ite State.ctl]

@[simp] theorem holdFor_ctl (p : Nat) (s : State) : (holdFor p s).ctl = s.ctl := by
  have cut (t : Int) : (holdCut p t s).ctl = s.ctl := by
    simp only [holdCut]; split <;> simp [apply_ite State.ctl]
  simp only [holdFor]; split <;> simp [cut]

@[simp] theorem preemptFrame_ctl (p q : Nat) (s : State) : (preemptFrame p q s).ctl = s.ctl := by
  simp [preemptFrame, apply_ite State.ctl]

@[simp] theorem portServe_ctl (p : Nat) (s : State) : (portServe p s).ctl = s.ctl := by
  simp only [portServe, nextFrame]; (repeat' split) <;> simp

@[simp] theorem egressPut_ctl (p q : Nat) (f : Frame) (s : State) : (egressPut p q f s).ctl = s.ctl := by
  simp only [egressPut]; (repeat' split) <;> simp

@[simp] theorem udpReply_ctl (m : Nat) (src : UdpSrc) (ws : List Word) (s : State) : (udpReply m src ws s).ctl = s.ctl :=
  egressPut_ctl ..

/-! ### The words of a response (R291, R292) -/

/-- Words stored one after another from place n stand at their places, and every other place is untouched. -/
theorem tabGet_storeFrom (ws : List Word) (n : Nat) (t : Tab Word) (i : Nat) :
    tabGet 0 ((ws.zipIdx n).foldl (fun t p => tabSet 0 t p.2 p.1) t) i =
      if n ≤ i ∧ i < n + ws.length then ws.getD (i - n) 0 else tabGet 0 t i := by
  induction ws generalizing n t with
  | nil => rw [if_neg (by simp)]; rfl
  | cons w ws ih =>
    rw [List.zipIdx_cons, List.foldl_cons, ih, List.length_cons]
    rcases Nat.lt_trichotomy i n with lt | rfl | gt
    · rw [if_neg (by omega), if_neg (by omega), tabGet_tabSet_other 0 t w (by omega)]
    · simp
    · obtain ⟨k, rfl⟩ := Nat.exists_eq_add_of_lt gt
      rw [tabGet_tabSet_other 0 t w (by omega), show n + k + 1 - (n + 1) = k by omega,
        show n + k + 1 - n = k + 1 by omega, List.getD_cons_succ]
      exact if_congr (by omega) rfl rfl

/-- A slot reads back the words it was made of, and zero behind them. -/
theorem tabGet_slotOf (ws : List Word) (i : Nat) : tabGet 0 (slotOf ws) i = ws.getD i 0 := by
  rw [slotOf, tabGet_storeFrom, tabGet_nil]
  split
  · rfl
  · rw [List.getD_eq_default _ _ (by omega)]

section
variable (s : State) (m status : Nat) (raised staged resent : Bool) (seq : Nat) (ws : List Word)

/-- STATUS of a response (word 1 [63:48]). -/
theorem respWords_status :
    fld ((respWords s m status raised staged resent seq ws).getD 1 0) 63 48 = status % 2 ^ 16 := by
  simp only [respWords, List.getD_cons_succ, List.getD_cons_zero, fld, pack, List.foldl, BitVec.toNat_ofNat,
    Nat.shiftRight_eq_div_pow]
  omega

/-- SEQ of a response (word 1 [31:0]). -/
theorem respWords_seq :
    fld ((respWords s m status raised staged resent seq ws).getD 1 0) 31 0 = seq % 2 ^ 32 := by
  simp only [respWords, List.getD_cons_succ, List.getD_cons_zero, fld, pack, List.foldl, BitVec.toNat_ofNat,
    Nat.shiftRight_eq_div_pow]
  omega

end

/-! ### A response -/

section
variable (m status : Nat) (raised staged : Bool) (seq : Nat) (ws : List Word) (s : State)

/-- What a response changes in the control unit: its mailbox, and IRQ bit 0 in the copy of the mailbox's interface. -/
theorem respond_ctl : (respond m status raised staged seq ws s).ctl =
    { s.ctl with
      mbx := tabSet {} s.ctl.mbx m
        { mbxGet s m with st := .done, resp := slotOf (respWords s m status raised staged false seq ws) }
      irqPendP := if mbxIface m = 0 then s.ctl.irqPendP ||| 1 else s.ctl.irqPendP
      irqPendS := if mbxIface m = 1 then s.ctl.irqPendS ||| 1 else s.ctl.irqPendS } := by
  simp only [respond]
  split
  · next pci => simp [pci, irqP]
  · next spi => simp [spi, irqS]
  · next notPci notSpi =>
    rw [if_neg notPci, if_neg notSpi]
    split <;> simp

@[simp] theorem respond_seq : (respond m status raised staged seq ws s).ctl.seq = s.ctl.seq := by rw [respond_ctl]

@[simp] theorem respond_queue : (respond m status raised staged seq ws s).ctl.queue = s.ctl.queue := by rw [respond_ctl]

@[simp] theorem respond_jrnl : (respond m status raised staged seq ws s).ctl.jrnl = s.ctl.jrnl := by rw [respond_ctl]

@[simp] theorem respond_busyCount : (respond m status raised staged seq ws s).ctl.busyCount = s.ctl.busyCount := by
  rw [respond_ctl]

/-- A response leaves its mailbox DONE with its words; the command slot stays. -/
@[simp] theorem mbxGet_respond_same : mbxGet (respond m status raised staged seq ws s) m =
    { mbxGet s m with st := .done, resp := slotOf (respWords s m status raised staged false seq ws) } := by
  simp only [mbxGet, respond_ctl, tabGet_tabSet_same]

end

/-! ### Taking a command (R296) -/

@[simp] theorem takeSeq_seq (m : Nat) (s : State) : (takeSeq m s).2.ctl.seq = (s.ctl.seq + 1) % 2 ^ 32 := rfl

@[simp] theorem takeSeq_queue (m : Nat) (s : State) : (takeSeq m s).2.ctl.queue = s.ctl.queue.filter (· != m) := rfl

/-- A refused command is numbered as any other. -/
theorem refuse_seq (m status : Nat) (s : State) : (refuse m status s).ctl.seq = (s.ctl.seq + 1) % 2 ^ 32 :=
  respond_seq ..

/-- Settles O14: the queue loses the mailbox by a filter, and the response of a refusal leaves the count alone. -/
theorem takingNumbersCommands : Obligations.TakingNumbersCommands := by
  unfold Obligations.TakingNumbersCommands
  intro s m
  refine ⟨takeSeq_fst m s, takeSeq_seq m s, ?gone, ?order, ?kept, fun status => refuse_seq m status s, rfl, rfl⟩
  case gone => simp
  case order => exact List.filter_sublist
  case kept =>
    intro k queued other
    simp [queued, other]

/-! ### Doorbell and release, one equation per case (Table 8 of ch. 11; R290, R291, R293, R297) -/

section
variable {iface m : Nat} {s : State}

theorem ring_ignored (h : mbxIface m ≠ iface ∨ (mbxGet s m).st = .posted) : ring iface m s = dbIgnore s := if_pos h

theorem ring_posts (own : mbxIface m = iface) (idle : (mbxGet s m).st ≠ .posted) (free : entryFree iface s = true) :
    ring iface m s = mbxPut m { mbxGet s m with st := .posted }
      { s with ctl := { s.ctl with queue := s.ctl.queue ++ [m]
                                   early := if s.ctl.mbxReady then s.ctl.early else s.ctl.early ++ [m] } } := by
  rw [ring, if_neg (by simp [own, idle]), if_pos free]

theorem ring_busy (own : mbxIface m = iface) (idle : (mbxGet s m).st ≠ .posted) (full : entryFree iface s = false) :
    ring iface m s = respond m stBusy false false 0 []
      { s with ctl := { s.ctl with busyCount := satAdd 16 s.ctl.busyCount 1 } } := by
  rw [ring, if_neg (by simp [own, idle]), if_neg (by simp [full])]

theorem releaseMbx_ignored (h : mbxIface m ≠ iface ∨ (mbxGet s m).st ≠ .done) : releaseMbx iface m s = dbIgnore s :=
  if_pos h

theorem releaseMbx_done (own : mbxIface m = iface) (done : (mbxGet s m).st = .done) :
    releaseMbx iface m s = mbxPut m { mbxGet s m with st := .idle } s := by
  rw [releaseMbx, if_neg (by simp [own, done])]

/-- 16 entries in all, at most 12 for PCI Express and UDP together (R297). -/
theorem entryFree_iff : entryFree iface s = true ↔ s.ctl.queue.length < 16 ∧
    (iface = 1 ∨ (s.ctl.queue.filter (fun k => mbxIface k != 1)).length < 12) := by
  simp [entryFree]

end

/-- Settles O53: each case of a doorbell and of a release is one equation of the state, and the BUSY answer is a response
of status BUSY and SEQ 0. -/
theorem mailboxStates : Obligations.MailboxStates := by
  unfold Obligations.MailboxStates
  intro iface m s
  refine ⟨?posts, ?busy, entryFree_iff, ring_ignored, ?released, releaseMbx_ignored⟩
  case posts =>
    intro own idle free
    simp [ring_posts own idle free]
  case busy =>
    intro own idle full
    rw [ring_busy own idle full, mbxGet_respond_same]
    refine ⟨rfl, respond_queue .., respond_busyCount .., ?busyCode, ?zeroSeq, rfl, respond_jrnl .., respond_seq ..⟩
    case busyCode => rw [tabGet_slotOf, respWords_status]; rfl
    case zeroSeq => rw [tabGet_slotOf, respWords_seq]; rfl
  case released =>
    intro own done
    simp [releaseMbx_done own done]

end Sys2Proof.Machine
end

section
/-! # The step: the queue, the factory partition and the safe-state invariant along every command -/

namespace Sys2Proof.Machine

/-- What every command does to a block: the waiting commands and the factory partition stay, and the safe-state invariant is
kept. -/
structure Sound (s t : State) : Prop where
  pending : t.pending = s.pending
  fact : t.fact = s.fact
  inv : SafeInv s → SafeInv t

namespace Sound

theorem trans {s t u : State} (a : Sound s t) (b : Sound t u) : Sound s u :=
  ⟨b.pending.trans a.pending, b.fact.trans a.fact, fun h => b.inv (a.inv h)⟩

/-- The invariant speaks of nothing but what `held` names. -/
theorem ofHeld {s t : State} (h : t.held = s.held) : Sound s t where
  pending := held_pending h
  fact := held_fact h
  inv := by
    unfold SafeInv
    rw [held_safe h, held_safeN h, held_inReset h, held_io33 h, held_fwFault h, held_mbxReady h]
    exact id

/-- Dealing with decisions enters the safe state with SAFE_N, and stops the controller with its mailboxes. -/
theorem ofReacted {s t : State} (r : Reacted s t) : Sound s t where
  pending := r.pending
  fact := r.fact
  inv := by
    rintro ⟨pin, reset, rail, stopped⟩
    refine ⟨?pin, ?reset, ?rail, ?stopped⟩
    case pin =>
      rcases r.safe with ⟨safe, low, _, _⟩ | ⟨_, safe, low⟩
      · rw [safe, low, pin]
      · rw [safe, low]
    case reset =>
      rw [r.inReset]
      intro held
      rcases r.safe with ⟨safe, _⟩ | ⟨_, safe, _⟩
      · rw [safe, reset held]
      · exact safe
    case rail => rwa [r.io33, r.inReset]
    case stopped =>
      rcases r.ctl with ⟨fault, ready⟩ | ⟨_, ready⟩
      · rwa [fault, ready]
      · exact fun _ => ready

end Sound

/-- A command keeps what its own effect keeps, since the time before it and the end of the step do. -/
theorem done_sound {dt : Nat} {f : State → State} {s t : State} (sound : ∀ x, Sound x (f x)) (h : done dt f s = .next t) :
    Sound s t := by
  cases h
  exact (Sound.ofReacted (begin_reacted dt s)).trans ((sound _).trans (.ofReacted (settle_reacted s _)))

/-- The same of a command that acts only while the block is on. -/
theorem doneOn_sound {dt : Nat} {f : State → State} {s t : State} (sound : ∀ x, x.on = true → Sound x (f x))
    (h : doneOn dt f s = .next t) : Sound s t := by
  refine done_sound (fun x => ?_) h
  split
  · exact .ofHeld rfl
  · next on => exact sound x (by simpa [State.on] using on)

/-- A command whose own effect changes nothing that `held` names. -/
theorem Sound.ofKept {dt : Nat} {s t : State} (h : ∃ f, KeepsHeld f ∧ done dt f s = .next t) : Sound s t := by
  obtain ⟨f, keeps, h⟩ := h
  exact done_sound (fun x => .ofHeld (keeps x)) h

theorem Sound.ofKeptOn {dt : Nat} {s t : State} (h : ∃ f, KeepsHeld f ∧ doneOn dt f s = .next t) : Sound s t := by
  obtain ⟨f, keeps, h⟩ := h
  exact doneOn_sound (fun x _ => .ofHeld (keeps x)) h

/-! ### Reset and power -/

theorem resetDevice_sound (s : State) : Sound s (resetDevice s) :=
  ⟨rfl, rfl, fun _ => ⟨rfl, fun _ => rfl, fun _ => rfl, fun _ => rfl⟩⟩

/-- The release ends the reset and changes nothing else that `held` names but the latch of its cause. -/
theorem releaseReset_held (temp : Int) (s : State) : (releaseReset temp s).held =
    (s.pending, s.fact, s.safe.safe, s.safe.safeNLow, s.safe.firstCause, s.safe.entries, s.ctl.fwFault, s.ctl.mbxReady,
     false, s.pwr.shut, s.pwr.io33) := by
  unfold releaseReset
  simp

/-- Reset is released only where VDDIO_33 is good. -/
theorem releaseReset_sound (temp : Int) {s : State} (rail : s.pwr.io33 = true) : Sound s (releaseReset temp s) := by
  have e := releaseReset_held temp s
  have held : (releaseReset temp s).held = (pwrUpd (fun p => { p with inReset := false }) s).held := by simp [e]
  refine ⟨(held_pending held :), (held_fact held :), fun ⟨pin, _, _, stopped⟩ => ?_⟩
  unfold SafeInv
  rw [held_safe held, held_safeN held, held_inReset held, held_io33 held, held_fwFault held, held_mbxReady held]
  exact ⟨pin, by simp, by simp [rail], stopped⟩

theorem startFree_sound (temp : Int) (s : State) : Sound s (startFree temp s) := by
  unfold startFree
  split
  · next free =>
    simp only [Bool.and_eq_true] at free
    exact releaseReset_sound temp free.1.1.1.2
  · exact .ofHeld rfl

theorem tapReset_sound (s : State) : Sound s (tapReset s) := .ofHeld (by simp [tapReset])

/-- The loss of VDDIO_33 leaves the device held in reset, where it is. -/
theorem ioLost_resetDevice_sound (s : State) : Sound s (ioLost (resetDevice s)) :=
  ⟨rfl, rfl, fun _ => ⟨rfl, fun _ => rfl, fun _ => rfl, fun _ => rfl⟩⟩

theorem execResetAssert_sound {dt low s t} (h : execResetAssert dt low s = .next t) : Sound s t := by
  refine done_sound (fun x => ?_) h
  split
  · exact (resetDevice_sound x).trans (.ofHeld (by simp))
  · exact .ofHeld rfl

theorem execPowerLoss_sound {dt s t} (h : execPowerLoss dt s = .next t) : Sound s t :=
  done_sound (fun x => (ioLost_resetDevice_sound x).trans (tapReset_sound _)) h

theorem execThermalHardTrip_sound {dt s t} (h : execThermalHardTrip dt s = .next t) : Sound s t :=
  done_sound (fun x => (resetDevice_sound x).trans (.ofHeld (by simp))) h

/-- VDDIO_33 is up again: the invariant asks nothing more of the block. -/
theorem railsSeen_sound (core io : Nat) (s : State) : Sound s (railsSeen core io s) :=
  ⟨rfl, rfl, fun ⟨pin, reset, _, stopped⟩ => ⟨pin, reset, fun low => absurd low (by simp [railsSeen]), stopped⟩⟩

theorem execPowerOnDetect_sound {dt core io s t} (h : execPowerOnDetect dt core io s = .next t) : Sound s t := by
  refine done_sound (fun x => (railsSeen_sound core.mv io x).trans ?_) h
  split
  · exact (ioLost_resetDevice_sound _).trans (tapReset_sound _)
  split
  · exact resetDevice_sound _
  · exact startFree_sound _ _

theorem execResetRelease_sound {dt temp s t} (h : execResetRelease dt temp s = .next t) : Sound s t :=
  done_sound (fun x => (Sound.ofHeld (by simp)).trans (startFree_sound _ _)) h

/-- VDDIO_33 comes up only on a block that is held in reset, so in the safe state: SAFE_N is driven low with SAFE. -/
theorem powerUp_sound {s : State} (down : s.pwr.io33 = false) :
    Sound s (safeUpd (fun u => { u with safeNLow := true }) (pwrUpd (fun p => { p with io33 := true, ioTol := true }) s)) :=
  ⟨rfl, rfl, fun ⟨_, reset, rail, stopped⟩ => ⟨reset (rail down), reset, fun low => absurd low (by simp), stopped⟩⟩

theorem execPowerUp_sound {dt s t} (h : execPowerUp dt s = .next t) : Sound s t := by
  refine done_sound (fun x => ?_) h
  split
  · exact .ofHeld (by simp)
  · next down => exact (powerUp_sound (by simpa using down)).trans (startFree_sound _ _)

/-! ### The end of the boot, shutdown, SYS.RESET and SAFE.CLEAR -/

/-- The mailboxes are served at the end of the boot only where the controller runs. -/
theorem bootReady_sound (s : State) : Sound s (bootReady s) := by
  have e := bootReady_held s
  refine ⟨congrArg (fun h => h.1) e, congrArg (fun h => h.2.1) e, fun ⟨pin, reset, rail, stopped⟩ => ?_⟩
  have safe : (bootReady s).safe.safe = s.safe.safe := congrArg (fun h => h.2.2.1) e
  have low : (bootReady s).safe.safeNLow = s.safe.safeNLow := congrArg (fun h => h.2.2.2.1) e
  have fault : (bootReady s).ctl.fwFault = s.ctl.fwFault := congrArg (fun h => h.2.2.2.2.2.2.1) e
  have ready : (bootReady s).ctl.mbxReady = _ := congrArg (fun h => h.2.2.2.2.2.2.2.1) e
  have inReset : (bootReady s).pwr.inReset = s.pwr.inReset := congrArg (fun h => h.2.2.2.2.2.2.2.2.1) e
  have io33 : (bootReady s).pwr.io33 = s.pwr.io33 := congrArg (fun h => h.2.2.2.2.2.2.2.2.2.2) e
  refine ⟨by rw [safe, low, pin], by rwa [inReset, safe], by rwa [io33, inReset], ?_⟩
  rw [fault, ready]
  intro f
  simp [f, stopped f]

theorem execBootComplete_sound {dt s t} (h : execBootComplete dt s = .next t) : Sound s t := by
  refine doneOn_sound (fun x _ => ?_) h
  split
  · exact (Sound.ofHeld (by simp)).trans (bootReady_sound _)
  · exact .ofHeld rfl

theorem execSelftestDone_sound {dt fail s t} (h : execSelftestDone dt fail s = .next t) : Sound s t := by
  refine doneOn_sound (fun x _ => ?_) h
  split
  · split <;> exact (Sound.ofHeld (by simp)).trans (bootReady_sound _)
  · exact .ofHeld rfl

/-- A shutdown serves the mailboxes no more, and changes nothing else that the invariant names. -/
theorem shutDown_sound (s : State) : Sound s (shutDown s) := by
  let x := calAbort 6 { s with ctl := { s.ctl with bg := [] } }
  refine (Sound.ofHeld (t := x) (by simp [x])).trans ?_
  exact ⟨rfl, rfl, fun ⟨pin, reset, rail, _⟩ => ⟨pin, reset, rail, fun _ => rfl⟩⟩

theorem execShutdownEnter_sound {dt s t} (h : execShutdownEnter dt s = .next t) : Sound s t := by
  refine doneOn_sound (fun x _ => ?_) h
  split
  · split
    · exact (Sound.ofHeld (by simp)).trans (shutDown_sound _)
    · exact .ofHeld rfl
  · exact .ofHeld rfl

@[simp] theorem taken_held (m : Nat) (s : State) : (taken m s).held = s.held := by simp [taken]

/-- A command that is taken leaves what `held` names to its own function. -/
theorem take_cases (m op : Nat) (f : Cmd → Nat → State → State) (s : State) :
    take m op f s = s ∨ take m op f s = f (cmdOf s m) s.ctl.seq (taken m s) := by
  unfold take
  split
  · exact .inr rfl
  · exact .inl rfl

theorem on_iff {s : State} : s.on = true ↔ s.pwr.inReset = false ∧ s.pwr.shut = false := by simp [State.on]

/-- SYS.RESET acts on a block that is out of reset, so with VDDIO_33 good. -/
theorem execSysReset_sound {dt mbx s t} (h : execSysReset dt mbx s = .next t) : Sound s t := by
  refine doneOn_sound (fun x on => ?_) h
  have out : (taken mbx x).pwr.inReset = false := (held_inReset (taken_held _ x)).trans (on_iff.mp on).1
  rcases take_cases mbx 0x0040 _ x with e | e
  · rw [e]; exact .ofHeld rfl
  rw [e]
  refine (Sound.ofHeld (taken_held mbx x)).trans ?_
  dsimp only
  generalize taken mbx.val x = u at out
  split
  · exact .ofHeld (by simp)
  split
  · exact .ofHeld (by simp)
  split
  · exact .ofHeld (by simp)
  · refine ⟨?_, ?_, fun inv => ?_⟩
    · exact (congrArg (fun h => h.1) (releaseReset_held _ (resetDevice u)))
    · exact (congrArg (fun h => h.2.1) (releaseReset_held _ (resetDevice u)))
    · have rail : u.pwr.io33 = true := by
        by_contra low
        exact absurd (inv.2.2.1 (by simpa using low)) (by simp [out])
      exact (releaseReset_sound _ (s := resetDevice u) rail).inv ((resetDevice_sound u).inv inv)

/-- The clear takes SAFE and SAFE_N together, of a block that is out of reset. -/
theorem clearSafe_sound {s : State} (out : s.pwr.inReset = false) : Sound s (clearSafe s) := by
  let x := { s with safe := { s.safe with safe := false, safeNLow := false }, tb := { s.tb with freqFault := false } }
  have cleared : Sound s x :=
    ⟨rfl, rfl, fun ⟨_, _, rail, stopped⟩ => ⟨rfl, fun held => absurd held (by simp [x, out]), rail, stopped⟩⟩
  exact cleared.trans (.ofHeld (by simp [clearSafe, x]))

@[simp] theorem clearWait_held (m : Nat) (s : State) : (clearWait m s).held = s.held := by simp [clearWait]

theorem execSafeClear_sound {dt mbx s t} (h : execSafeClear dt mbx s = .next t) : Sound s t := by
  refine doneOn_sound (fun x on => ?_) h
  refine (Sound.ofHeld (clearWait_held mbx x)).trans ?_
  have out : (taken mbx (clearWait mbx x)).pwr.inReset = false :=
    (held_inReset ((taken_held _ _).trans (clearWait_held _ x))).trans (on_iff.mp on).1
  unfold runAct
  rcases take_cases mbx 0x0B40 _ (clearWait mbx x) with e | e
  · rw [e]; exact .ofHeld rfl
  rw [e]
  refine (Sound.ofHeld (taken_held mbx (clearWait mbx x))).trans ?_
  dsimp only
  generalize taken mbx.val (clearWait mbx.val x) = u at out
  split
  · exact .ofHeld (by simp)
  split
  · exact .ofHeld (by simp)
  · refine Sound.trans (t := if u.safe.safe then clearSafe u else u) ?_ (.ofHeld (by simp [apply_ite State.held]))
    split
    · exact clearSafe_sound out
    · exact .ofHeld rfl

/-! ### Every command -/

/-- Every command keeps the waiting commands, the factory partition and the safe-state invariant. -/
theorem exec_sound {i : Instr} {s t : State} (h : exec i s = .next t) : Sound s t := by
  cases i
  case resetAssert => exact execResetAssert_sound h
  case powerOnDetect => exact execPowerOnDetect_sound h
  case powerLoss => exact execPowerLoss_sound h
  case resetRelease => exact execResetRelease_sound h
  case bootImageVerified => exact .ofKeptOn (execBootImageVerified_held h)
  case factoryCheckDone => exact .ofKeptOn (execFactoryCheckDone_held h)
  case lpddr5Trained => exact .ofKeptOn (execLpddr5Trained_held h)
  case bootComplete => exact execBootComplete_sound h
  case lockWindowEnd => exact .ofKeptOn (execLockWindowEnd_held h)
  case bandSearchDone => exact .ofKeptOn (execBandSearchDone_held h)
  case refPresent => exact .ofKeptOn (execRefPresent_held h)
  case refLoss => exact .ofKeptOn (execRefLoss_held h)
  case tpllReacqTimeout => exact .ofKeptOn (execTpllReacqTimeout_held h)
  case freqCheckWindow => exact .ofKeptOn (execFreqCheckWindow_held h)
  case aonPeriod => exact .ofKeptOn (execAonPeriod_held h)
  case aonFreqCheck => exact .ofKeptOn (execAonFreqCheck_held h)
  case aonEdgeTimeout => exact .ofKeptOn (execAonEdgeTimeout_held h)
  case holdoverExpire => exact .ofKeptOn (execHoldoverExpire_held h)
  case phaseJump => exact .ofKeptOn (execPhaseJump_held h)
  case ssTransfer => exact .ofKeptOn (execSsTransfer_held h)
  case sdRefclkLoss => exact .ofKeptOn (execSdRefclkLoss_held h)
  case huddleIn => exact .ofKeptOn (execHuddleIn_held h)
  case huddleOutDrive => exact .ofKeptOn (execHuddleOutDrive_held h)
  case quietIntervalStart => exact .ofKeptOn (execQuietIntervalStart_held h)
  case calStandbyLoaded => exact .ofKeptOn (execCalStandbyLoaded_held h)
  case calStaleTimeout => exact .ofKeptOn (execCalStaleTimeout_held h)
  case rxSettleDone => exact .ofKeptOn (execRxSettleDone_held h)
  case descFetch => exact .ofKeptOn (execDescFetch_held h)
  case shotExpand => exact .ofKeptOn (execShotExpand_held h)
  case segmentDecisionPoint => exact .ofKeptOn (execSegmentDecisionPoint_held h)
  case pbHalt => exact .ofKeptOn (execPbHalt_held h)
  case shotClockEvent => exact .ofKeptOn (execShotClockEvent_held h)
  case mp0Edge => exact .ofKeptOn (execMp0Edge_held h)
  case mirrorEdgeTimeout => exact .ofKeptOn (execMirrorEdgeTimeout_held h)
  case steerUpdateEdge => exact .ofKeptOn (execSteerUpdateEdge_held h)
  case shotOrigin => exact .ofKeptOn (execShotOrigin_held h)
  case postWindowEnd => exact .ofKeptOn (execPostWindowEnd_held h)
  case rearm => exact .ofKeptOn (execRearm_held h)
  case streamDmaFetch => exact .ofKeptOn (execStreamDmaFetch_held h)
  case streamDatagram => exact .ofKeptOn (execStreamDatagram_held h)
  case volleyOffer => exact .ofKeptOn (execVolleyOffer_held h)
  case accountantBucket => exact .ofKeptOn (execAccountantBucket_held h)
  case edgeLaunch => exact .ofKeptOn (execEdgeLaunch_held h)
  case loopbackCheck => exact .ofKeptOn (execLoopbackCheck_held h)
  case driverBiasSettled => exact .ofKeptOn (execDriverBiasSettled_held h)
  case tripNAssert => exact .ofKept (execTripNAssert_held h)
  case mcOutputChange => exact .ofKeptOn (execMcOutputChange_held h)
  case mcBlankEnd => exact .ofKeptOn (execMcBlankEnd_held h)
  case mcHoldEnd => exact .ofKeptOn (execMcHoldEnd_held h)
  case mcResolveSample => exact .ofKeptOn (execMcResolveSample_held h)
  case monitorUnresolved => exact .ofKeptOn (execMonitorUnresolved_held h)
  case rxEvent => exact .ofKeptOn (execRxEvent_held h)
  case pileLostEvent => exact .ofKeptOn (execPileLostEvent_held h)
  case recEpochMarker => exact .ofKeptOn (execRecEpochMarker_held h)
  case recHoldEnd => exact .ofKeptOn (execRecHoldEnd_held h)
  case trigInEdge => exact .ofKeptOn (execTrigInEdge_held h)
  case recPostTimeout => exact .ofKeptOn (execRecPostTimeout_held h)
  case recReadoutDone => exact .ofKeptOn (execRecReadoutDone_held h)
  case recTeamArmTime => exact .ofKeptOn (execRecTeamArmTime_held h)
  case recTeamTriggerTime => exact .ofKeptOn (execRecTeamTriggerTime_held h)
  case enginePassStart => exact .ofKeptOn (execEnginePassStart_held h)
  case enginePassDone => exact .ofKeptOn (execEnginePassDone_held h)
  case enginePublish => exact .ofKeptOn (execEnginePublish_held h)
  case haltDeferredClose => exact .ofKeptOn (execHaltDeferredClose_held h)
  case persTagSweep => exact .ofKeptOn (execPersTagSweep_held h)
  case persTagClearDone => exact .ofKeptOn (execPersTagClearDone_held h)
  case calTileLeaveService => exact .ofKeptOn (execCalTileLeaveService_held h)
  case calLinPassEnd => exact .ofKeptOn (execCalLinPassEnd_held h)
  case calLinTimeout => exact .ofKeptOn (execCalLinTimeout_held h)
  case calZeroBlockEnd => exact .ofKeptOn (execCalZeroBlockEnd_held h)
  case calZeroTimeout => exact .ofKeptOn (execCalZeroTimeout_held h)
  case calTeamMeasureDone => exact .ofKeptOn (execCalTeamMeasureDone_held h)
  case calTeamApplyTime => exact .ofKeptOn (execCalTeamApplyTime_held h)
  case calTeamTimeout => exact .ofKeptOn (execCalTeamTimeout_held h)
  case autoCalStart => exact .ofKeptOn (execAutoCalStart_held h)
  case nolgilForm => exact .ofKeptOn (execNolgilForm_held h)
  case nolgilArm => exact .ofKeptOn (execNolgilArm_held h)
  case nolgilTrigger => exact .ofKeptOn (execNolgilTrigger_held h)
  case nolgilEpoch => exact .ofKeptOn (execNolgilEpoch_held h)
  case nolgilStepNotice => exact .ofKeptOn (execNolgilStepNotice_held h)
  case nolgilCalApply => exact .ofKeptOn (execNolgilCalApply_held h)
  case nolgilState => exact .ofKeptOn (execNolgilState_held h)
  case hopDown => exact .ofKeptOn (execHopDown_held h)
  case hopUp => exact .ofKeptOn (execHopUp_held h)
  case skewWatchExchange => exact .ofKeptOn (execSkewWatchExchange_held h)
  case hostDoorbell => exact .ofKeptOn (execHostDoorbell_held h)
  case hostRelease => exact .ofKeptOn (execHostRelease_held h)
  case mbxSlotWrite => exact .ofKeptOn (execMbxSlotWrite_held h)
  case irqPendingClear => exact .ofKeptOn (execIrqPendingClear_held h)
  case spiAlertAck => exact .ofKeptOn (execSpiAlertAck_held h)
  case spiAlertRead => exact .ofKeptOn (execSpiAlertRead_held h)
  case pbStreamDoorbell => exact .ofKeptOn (execPbStreamDoorbell_held h)
  case registerWrite => exact .ofKeptOn (execRegisterWrite_held h)
  case spiWrite => exact .ofKeptOn (execSpiWrite_held h)
  case spiRead => exact .ofKeptOn (execSpiRead_held h)
  case spiWriteC => exact .ofKeptOn (execSpiWriteC_held h)
  case spiReadC => exact .ofKeptOn (execSpiReadC_held h)
  case udpCtrlDatagram => exact .ofKeptOn (execUdpCtrlDatagram_held h)
  case txnTimeout => exact .ofKeptOn (execTxnTimeout_held h)
  case cfgPublish => exact .ofKeptOn (execCfgPublish_held h)
  case journalMirrorWrite => exact .ofKeptOn (execJournalMirrorWrite_held h)
  case mramPageWriteDone => exact .ofKeptOn (execMramPageWriteDone_held h)
  case logFlush => exact .ofKeptOn (execLogFlush_held h)
  case consRead => exact .ofKeptOn (execConsRead_held h)
  case queueIrqCoal => exact .ofKeptOn (execQueueIrqCoal_held h)
  case datagramFlush => exact .ofKeptOn (execDatagramFlush_held h)
  case c0StoreDrain => exact .ofKeptOn (execC0StoreDrain_held h)
  case ethFrameRx => exact .ofKeptOn (execEthFrameRx_held h)
  case gptpMessageRx => exact .ofKeptOn (execGptpMessageRx_held h)
  case gptpMessageTx => exact .ofKeptOn (execGptpMessageTx_held h)
  case gateIntervalEnd => exact .ofKeptOn (execGateIntervalEnd_held h)
  case gateListApply => exact .ofKeptOn (execGateListApply_held h)
  case cbRecoveryReset => exact .ofKeptOn (execCbRecoveryReset_held h)
  case portLinkChange => exact .ofKeptOn (execPortLinkChange_held h)
  case telemetryPeriod => exact .ofKeptOn (execTelemetryPeriod_held h)
  case selftestDone => exact execSelftestDone_sound h
  case lockstepMismatch => exact .ofKeptOn (execLockstepMismatch_held h)
  case watchdogService => exact .ofKeptOn (execWatchdogService_held h)
  case watchdogTimeout => exact .ofKeptOn (execWatchdogTimeout_held h)
  case eccRateWindow => exact .ofKeptOn (execEccRateWindow_held h)
  case scrub => exact .ofKeptOn (execScrub_held h)
  case memoryScrub => exact .ofKeptOn (execMemoryScrub_held h)
  case tempPlausibilityCheck => exact .ofKeptOn (execTempPlausibilityCheck_held h)
  case tpllFreqHoldEnd => exact .ofKeptOn (execTpllFreqHoldEnd_held h)
  case hostSilent => exact .ofKeptOn (execHostSilent_held h)
  case heartbeat => exact .ofKeptOn (execHeartbeat_held h)
  case tempSample => exact .ofKept (execTempSample_held h)
  case shutdownEnter => exact execShutdownEnter_sound h
  case thermalHardTrip => exact execThermalHardTrip_sound h
  case droopAssert => exact .ofKeptOn (execDroopAssert_held h)
  case droopDeassert => exact .ofKeptOn (execDroopDeassert_held h)
  case throttleStepUp => exact .ofKeptOn (execThrottleStepUp_held h)
  case sysSetCtrlPort => exact .ofKeptOn (execSysSetCtrlPort_held h)
  case sysReset => exact execSysReset_sound h
  case sysSelectBoot => exact .ofKeptOn (execSysSelectBoot_held h)
  case sysReadJournal => exact .ofKeptOn (execSysReadJournal_held h)
  case sysReadConfig => exact .ofKeptOn (execSysReadConfig_held h)
  case sysGetStatus => exact .ofKeptOn (execSysGetStatus_held h)
  case tbSetTpll => exact .ofKeptOn (execTbSetTpll_held h)
  case tbSetMode => exact .ofKeptOn (execTbSetMode_held h)
  case tbSetEpoch => exact .ofKeptOn (execTbSetEpoch_held h)
  case tbBandSearch => exact .ofKeptOn (execTbBandSearch_held h)
  case tbBandStore => exact .ofKeptOn (execTbBandStore_held h)
  case tbBandHop => exact .ofKeptOn (execTbBandHop_held h)
  case tbRealign => exact .ofKeptOn (execTbRealign_held h)
  case tbGetStatus => exact .ofKeptOn (execTbGetStatus_held h)
  case emSetChannel => exact .ofKeptOn (execEmSetChannel_held h)
  case emSetLimits => exact .ofKeptOn (execEmSetLimits_held h)
  case emSetVolley => exact .ofKeptOn (execEmSetVolley_held h)
  case emSetStretch => exact .ofKeptOn (execEmSetStretch_held h)
  case emClearTrip => exact .ofKeptOn (execEmClearTrip_held h)
  case emGetStatus => exact .ofKeptOn (execEmGetStatus_held h)
  case pbLoadDesc => exact .ofKeptOn (execPbLoadDesc_held h)
  case pbSetSegment => exact .ofKeptOn (execPbSetSegment_held h)
  case pbSetJump => exact .ofKeptOn (execPbSetJump_held h)
  case pbSetConfig => exact .ofKeptOn (execPbSetConfig_held h)
  case pbSetStl => exact .ofKeptOn (execPbSetStl_held h)
  case pbStreamOpen => exact .ofKeptOn (execPbStreamOpen_held h)
  case pbArmJump => exact .ofKeptOn (execPbArmJump_held h)
  case pbJump => exact .ofKeptOn (execPbJump_held h)
  case pbStart => exact .ofKeptOn (execPbStart_held h)
  case pbStop => exact .ofKeptOn (execPbStop_held h)
  case pbStreamClose => exact .ofKeptOn (execPbStreamClose_held h)
  case pbClearUnderrun => exact .ofKeptOn (execPbClearUnderrun_held h)
  case pbGetStatus => exact .ofKeptOn (execPbGetStatus_held h)
  case cmpSetRx => exact .ofKeptOn (execCmpSetRx_held h)
  case cmpSetRxTile => exact .ofKeptOn (execCmpSetRxTile_held h)
  case cmpSetMc => exact .ofKeptOn (execCmpSetMc_held h)
  case cmpSetMp => exact .ofKeptOn (execCmpSetMp_held h)
  case cmpSetMargin => exact .ofKeptOn (execCmpSetMargin_held h)
  case cmpGetStatus => exact .ofKeptOn (execCmpGetStatus_held h)
  case winSetProfile => exact .ofKeptOn (execWinSetProfile_held h)
  case winSetTile => exact .ofKeptOn (execWinSetTile_held h)
  case winSetRec => exact .ofKeptOn (execWinSetRec_held h)
  case winArmRec => exact .ofKeptOn (execWinArmRec_held h)
  case winDisarmRec => exact .ofKeptOn (execWinDisarmRec_held h)
  case winTrigRec => exact .ofKeptOn (execWinTrigRec_held h)
  case winReadRec => exact .ofKeptOn (execWinReadRec_held h)
  case winGetStatus => exact .ofKeptOn (execWinGetStatus_held h)
  case histSetTile => exact .ofKeptOn (execHistSetTile_held h)
  case histSetPers => exact .ofKeptOn (execHistSetPers_held h)
  case histGetStatus => exact .ofKeptOn (execHistGetStatus_held h)
  case echoSetCfg => exact .ofKeptOn (execEchoSetCfg_held h)
  case echoSetCoef => exact .ofKeptOn (execEchoSetCoef_held h)
  case echoSwapBank => exact .ofKeptOn (execEchoSwapBank_held h)
  case echoFreezeBg => exact .ofKeptOn (execEchoFreezeBg_held h)
  case echoGetStatus => exact .ofKeptOn (execEchoGetStatus_held h)
  case calSetUser => exact .ofKeptOn (execCalSetUser_held h)
  case calLin => exact .ofKeptOn (execCalLin_held h)
  case calZero => exact .ofKeptOn (execCalZero_held h)
  case calTeam => exact .ofKeptOn (execCalTeam_held h)
  case calSaveUser => exact .ofKeptOn (execCalSaveUser_held h)
  case calRestore => exact .ofKeptOn (execCalRestore_held h)
  case calGetStatus => exact .ofKeptOn (execCalGetStatus_held h)
  case teamSetCfg => exact .ofKeptOn (execTeamSetCfg_held h)
  case teamHuddle => exact .ofKeptOn (execTeamHuddle_held h)
  case teamGetStatus => exact .ofKeptOn (execTeamGetStatus_held h)
  case outSetQueue => exact .ofKeptOn (execOutSetQueue_held h)
  case outSetRoute => exact .ofKeptOn (execOutSetRoute_held h)
  case outSetPort => exact .ofKeptOn (execOutSetPort_held h)
  case outSetGate => exact .ofKeptOn (execOutSetGate_held h)
  case outSetFilter => exact .ofKeptOn (execOutSetFilter_held h)
  case outSetStream => exact .ofKeptOn (execOutSetStream_held h)
  case outSetTime => exact .ofKeptOn (execOutSetTime_held h)
  case outResetQueue => exact .ofKeptOn (execOutResetQueue_held h)
  case outGetStatus => exact .ofKeptOn (execOutGetStatus_held h)
  case safeSetCfg => exact .ofKeptOn (execSafeSetCfg_held h)
  case safeClear => exact execSafeClear_sound h
  case safeEnter => exact .ofKeptOn (execSafeEnter_held h)
  case safeConfirmCfg => exact .ofKeptOn (execSafeConfirmCfg_held h)
  case safeGetStatus => exact .ofKeptOn (execSafeGetStatus_held h)
  case pwrSetCfg => exact .ofKeptOn (execPwrSetCfg_held h)
  case pwrSaveImage => exact .ofKeptOn (execPwrSaveImage_held h)
  case pwrSelectImage => exact .ofKeptOn (execPwrSelectImage_held h)
  case pwrEraseImage => exact .ofKeptOn (execPwrEraseImage_held h)
  case pwrReadLog => exact .ofKeptOn (execPwrReadLog_held h)
  case pwrGetStatus => exact .ofKeptOn (execPwrGetStatus_held h)
  case txnOpen => exact .ofKeptOn (execTxnOpen_held h)
  case txnCommit => exact .ofKeptOn (execTxnCommit_held h)
  case txnAbort => exact .ofKeptOn (execTxnAbort_held h)
  case txnGetStatus => exact .ofKeptOn (execTxnGetStatus_held h)
  case powerUp => exact execPowerUp_sound h
  case tripNDeassert => exact .ofKept (execTripNDeassert_held h)
  case rxOutputDeassert => exact .ofKeptOn (execRxOutputDeassert_held h)
  case mcFilterSample => exact .ofKeptOn (execMcFilterSample_held h)
  case sdRefclkReturn => exact .ofKeptOn (execSdRefclkReturn_held h)
  case calZeroShot => exact .ofKeptOn (execCalZeroShot_held h)
  case frameTransmitted => exact .ofKeptOn (execFrameTransmitted_held h)
  case sysGetCtrlPort => exact .ofKeptOn (execSysGetCtrlPort_held h)
  case sysGetInfo => exact .ofKeptOn (execSysGetInfo_held h)
  case tbGetTpll => exact .ofKeptOn (execTbGetTpll_held h)
  case tbGetMode => exact .ofKeptOn (execTbGetMode_held h)
  case tbGetEpoch => exact .ofKeptOn (execTbGetEpoch_held h)
  case emGetChannel => exact .ofKeptOn (execEmGetChannel_held h)
  case emGetLimits => exact .ofKeptOn (execEmGetLimits_held h)
  case emGetVolley => exact .ofKeptOn (execEmGetVolley_held h)
  case emGetStretch => exact .ofKeptOn (execEmGetStretch_held h)
  case pbGetDesc => exact .ofKeptOn (execPbGetDesc_held h)
  case pbGetSegment => exact .ofKeptOn (execPbGetSegment_held h)
  case pbGetJump => exact .ofKeptOn (execPbGetJump_held h)
  case pbGetConfig => exact .ofKeptOn (execPbGetConfig_held h)
  case pbGetStl => exact .ofKeptOn (execPbGetStl_held h)
  case pbGetStream => exact .ofKeptOn (execPbGetStream_held h)
  case cmpGetRx => exact .ofKeptOn (execCmpGetRx_held h)
  case cmpGetRxTile => exact .ofKeptOn (execCmpGetRxTile_held h)
  case cmpGetMc => exact .ofKeptOn (execCmpGetMc_held h)
  case cmpGetMp => exact .ofKeptOn (execCmpGetMp_held h)
  case cmpGetMargin => exact .ofKeptOn (execCmpGetMargin_held h)
  case winGetProfile => exact .ofKeptOn (execWinGetProfile_held h)
  case winGetTile => exact .ofKeptOn (execWinGetTile_held h)
  case winGetRec => exact .ofKeptOn (execWinGetRec_held h)
  case histGetTile => exact .ofKeptOn (execHistGetTile_held h)
  case histGetPers => exact .ofKeptOn (execHistGetPers_held h)
  case echoGetCfg => exact .ofKeptOn (execEchoGetCfg_held h)
  case echoGetCoef => exact .ofKeptOn (execEchoGetCoef_held h)
  case calGetUser => exact .ofKeptOn (execCalGetUser_held h)
  case calGetResult => exact .ofKeptOn (execCalGetResult_held h)
  case calGetSkew => exact .ofKeptOn (execCalGetSkew_held h)
  case teamGetCfg => exact .ofKeptOn (execTeamGetCfg_held h)
  case outGetQueue => exact .ofKeptOn (execOutGetQueue_held h)
  case outGetRoute => exact .ofKeptOn (execOutGetRoute_held h)
  case outGetPort => exact .ofKeptOn (execOutGetPort_held h)
  case outGetGate => exact .ofKeptOn (execOutGetGate_held h)
  case outGetFilter => exact .ofKeptOn (execOutGetFilter_held h)
  case outGetStream => exact .ofKeptOn (execOutGetStream_held h)
  case outGetTime => exact .ofKeptOn (execOutGetTime_held h)
  case safeGetCfg => exact .ofKeptOn (execSafeGetCfg_held h)
  case pwrGetCfg => exact .ofKeptOn (execPwrGetCfg_held h)

/-- Settles O1: both are the two cases of the queue. -/
theorem stepRunsFront : Obligations.StepRunsFront := by
  unfold Obligations.StepRunsFront
  refine ⟨fun c rest s front => ?_, fun s empty => ?_⟩
  · simp [step, front]
  · simp [step, empty]

theorem step_cons {c : Instr} {rest : List Instr} {s : State} (front : s.pending = c :: rest) :
    step s = exec c { s with pending := rest } := stepRunsFront.1 c rest s front

theorem step_nil {s : State} (empty : s.pending = []) : step s = .next s := stepRunsFront.2 s empty

/-- Settles O2: the queue has lost its front before the command runs, and no command touches the rest. -/
theorem stepKeepsQueueAndFactory : Obligations.StepKeepsQueueAndFactory := by
  unfold Obligations.StepKeepsQueueAndFactory
  intro c rest s t front h
  rw [step_cons front] at h
  exact ⟨(exec_sound h).pending, (exec_sound h).fact⟩

/-- Settles O3: an empty queue idles, and every command keeps the invariant, which does not speak of the queue. -/
theorem stepKeepsSafeInv : Obligations.StepKeepsSafeInv := by
  unfold Obligations.StepKeepsSafeInv
  intro s t inv h
  cases front : s.pending with
  | nil =>
    rw [step_nil front] at h
    cases h
    exact inv
  | cons c rest =>
    rw [step_cons front] at h
    exact (exec_sound h).inv inv

/-- Settles O4. -/
theorem resetMeetsSafeInv : Obligations.ResetMeetsSafeInv := by
  unfold Obligations.ResetMeetsSafeInv SafeInv
  decide

/-- Settles O5: every arm of `exec` is a `done` or a `doneOn`, which always answer a next state. -/
theorem everyCommandCompletes : Obligations.EveryCommandCompletes := by
  unfold Obligations.EveryCommandCompletes
  intro i s
  cases i <;> exact ⟨_, rfl⟩

end Sys2Proof.Machine
end

section
/-! # Host commands: held in reset or shut down, not next in their mailbox, or of a bad LENGTH -/

namespace Sys2Proof.Machine

/-! ### A command that is not the next of its mailbox (R294) -/

section
variable {m op : Nat} {b : State} (n : nextMbx b ≠ some m ∨ (cmdOf b m).opcode ≠ op)
include n

theorem runAct_other {row dev eff} : runAct m op row dev eff b = b := by unfold runAct; exact take_other n
theorem runStat_other {row words clear} : runStat m op row words clear b = b := by unfold runStat; exact runAct_other n
theorem runBg_other {row dev start} : runBg m op row dev start b = b := by unfold runBg; exact take_other n
theorem runStage_other {row ops eff} : runStage m op row ops eff b = b := by unfold runStage; exact take_other n
theorem runCfg_other : runCfg m op b = b := by unfold runCfg; exact take_other n
theorem runGet_other : runGet m op b = b := by unfold runGet; exact take_other n
end

theorem runCommit_other {m : Nat} {b : State} (n : nextMbx b ≠ some m ∨ (cmdOf b m).opcode ≠ 0x0D41) : runCommit m b = b := by
  unfold runCommit; exact take_other n

theorem runClose_other {m : Nat} {b : State} (n : nextMbx b ≠ some m ∨ (cmdOf b m).opcode ≠ 0x0344) : runClose m b = b := by
  unfold runClose; exact take_other n

/-- SAFE.CLEAR waits for the end of its 1 ns cycle only where it is next (log entry 174). -/
theorem clearWait_other {m : Nat} {b : State} (n : nextMbx b ≠ some m ∨ (cmdOf b m).opcode ≠ 0x0B40) : clearWait m b = b := by
  unfold clearWait
  exact if_neg (fun c => n.elim (fun h => h c.1) (fun h => h c.2.1))

/-! ### The four families of host commands -/

section
variable {i : Instr} {dt m op : Nat}

/-- Every configuration command runs through the same checks and the same acceptance (R303). -/
theorem exec_setOp (h : i.setOp = some (dt, m, op)) (s : State) : exec i s = doneOn dt (runCfg m op) s := by
  cases i <;> cases h <;> rfl

/-- Every readback answers by the same rule (R324). -/
theorem exec_getOp (h : i.getOp = some (dt, m, op)) (s : State) : exec i s = doneOn dt (runGet m op) s := by
  cases i <;> cases h <;> rfl

theorem hostOp_cases (h : i.hostOp = some (dt, m, op)) :
    i.setOp = some (dt, m, op) ∨ i.getOp = some (dt, m, op) ∨ i.statOp = some (dt, m, op) ∨ i.actOp = some (dt, m, op) := by
  unfold Instr.hostOp at h
  cases set : i.setOp with
  | some x => rw [set] at h; exact .inl h
  | none =>
    cases get : i.getOp with
    | some x => rw [set, get] at h; exact .inr (.inl h)
    | none =>
      cases stat : i.statOp with
      | some x => rw [set, get, stat] at h; exact .inr (.inr (.inl h))
      | none => rw [set, get, stat] at h; exact .inr (.inr (.inr h))

variable {s b : State}

theorem exec_setOp_other (h : i.setOp = some (dt, m, op)) (at_ : At dt s b)
    (n : nextMbx b ≠ some m ∨ (cmdOf b m).opcode ≠ op) : exec i s = .next (settle s b) := by
  rw [exec_setOp h, doneOn_to at_ (runCfg_other n)]

theorem exec_getOp_other (h : i.getOp = some (dt, m, op)) (at_ : At dt s b)
    (n : nextMbx b ≠ some m ∨ (cmdOf b m).opcode ≠ op) : exec i s = .next (settle s b) := by
  rw [exec_getOp h, doneOn_to at_ (runGet_other n)]

theorem exec_statOp_other (h : i.statOp = some (dt, m, op)) (at_ : At dt s b)
    (n : nextMbx b ≠ some m ∨ (cmdOf b m).opcode ≠ op) : exec i s = .next (settle s b) := by
  cases i
  case txnGetStatus => cases h; exact doneOn_to at_ (take_other n)
  all_goals cases h <;> exact doneOn_to at_ (runStat_other n)

theorem exec_actOp_other (h : i.actOp = some (dt, m, op)) (at_ : At dt s b)
    (n : nextMbx b ≠ some m ∨ (cmdOf b m).opcode ≠ op) : exec i s = .next (settle s b) := by
  cases i
  case safeClear =>
    cases h
    unfold exec execSafeClear
    refine doneOn_to at_ ?_
    rw [clearWait_other n, runAct_other n]
  case sysReset | txnOpen | txnAbort => cases h; exact doneOn_to at_ (take_other n)
  case txnCommit => cases h; exact doneOn_to at_ (runCommit_other n)
  case pbStreamClose => cases h; exact doneOn_to at_ (runClose_other n)
  case pbArmJump | echoSwapBank => cases h; exact doneOn_to at_ (runStage_other n)
  case sysSelectBoot | tbBandSearch | tbBandHop | calLin | calZero | calTeam | calSaveUser | pwrSaveImage | pwrSelectImage
      | pwrEraseImage => cases h; exact doneOn_to at_ (runBg_other n)
  all_goals cases h <;> exact doneOn_to at_ (runAct_other n)
end

/-- Settles O7: a host command acts only while the block is on, and before it acts a block that is off lets time pass alone. -/
theorem noHostCommandWhileOff : Obligations.NoHostCommandWhileOff := by
  unfold Obligations.NoHostCommandWhileOff
  intro i dt m op s h off
  rw [← begin_off dt s off]
  cases i
  case safeClear => cases h; unfold exec execSafeClear; exact doneOn_off off
  all_goals cases h <;> exact doneOn_off off

/-- Settles O12: family by family, a command that is not taken leaves the block as time has brought it there. -/
theorem hostCommandNotNext : Obligations.HostCommandNotNext := by
  unfold Obligations.HostCommandNotNext
  intro i dt m op s b h at_ n
  rcases hostOp_cases h with h | h | h | h
  · exact exec_setOp_other h at_ n
  · exact exec_getOp_other h at_ n
  · exact exec_statOp_other h at_ n
  · exact exec_actOp_other h at_ n

end Sys2Proof.Machine
end

section
/-! # Time before a command, and the end of a step -/

namespace Sys2Proof.Machine

/-! ### The time before a command -/

/-- On a block with no monitor, tile, engine or frame boundary nothing falls due: the monitors' samples are up to date. -/
theorem dueNow_idle {s : State} (mon : s.mon = []) (tile : s.tile = []) (eng : s.eng = []) (bnds : s.pb.bnds = []) :
    dueNow s = { s with smpUp := s.up } := by
  obtain ⟨⟩ := s
  simp only at mon tile eng bnds
  subst mon tile eng
  simp [dueNow, passBoundaries, pbUpd, bnds, monAdvance, takeResets, decideAll, recSends, passAll]
  simp [← bnds]

/-- On a block that runs, what fell due before a command has happened and been dealt with. -/
theorem begin_on (dt : Nat) {s : State} (on : s.on = true) : begin_ dt s = reactDue (xing5 (dueNow (elapse dt s))) := by
  obtain ⟨reset, shut⟩ := on_iff.mp on
  have runs : ((elapse dt s).pwr.inReset || (elapse dt s).pwr.shut) = false := by
    rw [held_inReset (elapse_held dt s), held_shut (elapse_held dt s), reset, shut]; rfl
  simp only [begin_, runs, Bool.false_eq_true, if_false]

/-- Settles O11: nothing stands that could fall due. -/
theorem timePassesBeforeACommand : Obligations.TimePassesBeforeACommand := by
  intro dt s mon tile eng bnds todo
  by_cases on : s.on = true
  · obtain ⟨reset, shut⟩ := on_iff.mp on
    rw [begin_on dt on, dueNow_idle (s := elapse dt s) mon tile eng bnds, xing5_quiet, reactDue_quiet]
    · simp [elapse, passTime, on, reset, shut]
    all_goals exact todo
  · have off : s.on = false := by simpa using on
    have halted : (s.tb.epochSet && !s.pwr.shut && !s.pwr.inReset) = false := by
      revert off; unfold State.on; cases s.tb.epochSet <;> cases s.pwr.shut <;> cases s.pwr.inReset <;> simp
    rw [begin_off dt s off]
    simp [elapse, passTime, off, halted]

/-! ### SAFE.CLEAR of a bad LENGTH -/

/-- A block in the safe state with SAFE.CLEAR of LENGTH 0 posted in mailbox 0. -/
def clearOfNoLength : State :=
  { ctl := { mbxReady := true, queue := [0], mbx := [(0, { st := .posted, cmd := slotOf [pack [(16, 0x0B40), (16, 0), (16, 7), (16, 0)]] })] }
    pwr := { inReset := false, io33 := true, rstLow := false } }

/-- The running time at the end of a step. -/
def upAfter : Host.Outcome State Fault Refusal → Nat
  | .next t => t.up
  | _ => 0

/-- Refutes O15: SAFE.CLEAR in the safe state waits for the end of its 1 ns cycle whatever its LENGTH (log entry 174), so that
its BAD_LENGTH stands 8,192 fine units after the block took it up. -/
theorem not_badLengthIsRefusedFirst : ¬ Obligations.BadLengthIsRefusedFirst := by
  intro h
  have now := h (.safeClear 0 0) 0 0 0x0B40 clearOfNoLength (begin_ 0 clearOfNoLength) rfl (by decide) (by decide) ⟨rfl, rfl⟩
    (by decide +kernel) (by decide +kernel) (by decide +kernel)
  exact absurd (congrArg upAfter now) (by decide +kernel)

/-! ### Answers and records leave the power unit as it is -/

@[simp] theorem ite_pwr (c : Prop) [Decidable c] (x y : State) :
    (if c then x else y).pwr = if c then x.pwr else y.pwr := apply_ite State.pwr c x y

@[simp] theorem foldl_pwr {α : Type} (f : State → α → State) (h : ∀ a x, (f a x).pwr = a.pwr) (l : List α) (s : State) :
    (l.foldl f s).pwr = s.pwr := by
  induction l generalizing s with
  | nil => rfl
  | cons x t ih => simp [ih, h]

@[simp] theorem irqBoth_pwr (a) (s : State) : (irqBoth a s).pwr = s.pwr := by simp [irqBoth]
@[simp] theorem journal_pwr (a) (s : State) : (journal a s).pwr = s.pwr := by simp [journal]
@[simp] theorem queueIrq_pwr (a) (s : State) : (queueIrq a s).pwr = s.pwr := by simp [queueIrq]
theorem padOut_pwr (q) (l : List (Nat × Word)) (s : State) :
    (l.foldl (fun a h => out (.hostWrite q h.1 [h.2]) a) s).pwr = s.pwr :=
  foldl_pwr (fun a (h : Nat × Word) => out (.hostWrite q h.1 [h.2]) a) (fun _ _ => rfl) l s

@[simp] theorem ringPlace_pwr (a) (b) (s : State) : (ringPlace a b s).pwr = s.pwr := by simp [ringPlace, padOut_pwr]
@[simp] theorem ringWrite_pwr (a) (b) (s : State) : (ringWrite a b s).pwr = s.pwr := by simp [ringWrite]
@[simp] theorem startFrame_pwr (a) (b) (c) (s : State) : (startFrame a b c s).pwr = s.pwr := by
  simp only [startFrame]; split <;> simp
@[simp] theorem resumeFrame_pwr (a) (s : State) : (resumeFrame a s).pwr = s.pwr := by simp [resumeFrame]
@[simp] theorem cutFrame_pwr (a) (b) (s : State) : (cutFrame a b s).pwr = s.pwr := by
  simp only [cutFrame]; (repeat' split) <;> simp
@[simp] theorem holdCut_pwr (a) (b) (s : State) : (holdCut a b s).pwr = s.pwr := by
  simp only [holdCut]; (repeat' split) <;> simp
@[simp] theorem holdFor_pwr (a) (s : State) : (holdFor a s).pwr = s.pwr := by simp only [holdFor]; split <;> simp
@[simp] theorem preemptFrame_pwr (a) (b) (s : State) : (preemptFrame a b s).pwr = s.pwr := by simp [preemptFrame]
@[simp] theorem nextFrame_pwr (s : State) (a) (b) : (nextFrame s a b).pwr = s.pwr := by
  simp only [nextFrame]; (repeat' split) <;> simp
@[simp] theorem portServe_pwr (a) (s : State) : (portServe a s).pwr = s.pwr := by simp [portServe]
@[simp] theorem egressPut_pwr (a) (b) (c) (s : State) : (egressPut a b c s).pwr = s.pwr := by
  simp only [egressPut]; (repeat' split) <;> simp
@[simp] theorem sendDatagram_pwr (a) (b) (c) (d) (e) (f) (s : State) : (sendDatagram a b c d e f s).pwr = s.pwr := by
  simp only [sendDatagram]
  rw [foldl_pwr]
  · split <;> simp
  · intro x p
    (repeat' split) <;> simp
@[simp] theorem flushQueue_pwr (a) (s : State) : (flushQueue a s).pwr = s.pwr := by simp [flushQueue]
@[simp] theorem netFrag_pwr (a) (b) (s : State) : (netFrag a b s).pwr = s.pwr := by simp [netFrag]
@[simp] theorem netWrite_pwr (a) (b) (c) (s : State) : (netWrite a b c s).pwr = s.pwr := by simp [netWrite]
@[simp] theorem ringOffer_pwr (a) (b) (s : State) : (ringOffer a b s).pwr = s.pwr := by simp [ringOffer]
@[simp] theorem ringDecide_pwr (a) (s : State) : (ringDecide a s).pwr = s.pwr := by simp [ringDecide]
@[simp] theorem emitRecord_pwr (a) (b) (c) (d) (s : State) : (emitRecord a b c d s).pwr = s.pwr := by simp [emitRecord]
@[simp] theorem telemetry_pwr (s : State) : (telemetry s).pwr = s.pwr := by
  simp only [telemetry, telemRecord]; (repeat' split) <;> simp
@[simp] theorem udpReply_pwr (a) (b) (c) (s : State) : (udpReply a b c s).pwr = s.pwr := by simp [udpReply]
@[simp] theorem respond_pwr (a) (b) (c) (d) (e) (f) (s : State) : (respond a b c d e f s).pwr = s.pwr := by
  simp only [respond]; (repeat' split) <;> simp
@[simp] theorem refuse_pwr (a) (b) (s : State) : (refuse a b s).pwr = s.pwr := by simp [refuse, takeSeq]
@[simp] theorem answerUnknown_pwr (n) (s : State) : (answerUnknown n s).pwr = s.pwr := by
  induction n generalizing s with
  | zero => rfl
  | succ n ih => simp only [answerUnknown]; (repeat' split) <;> simp [ih]
@[simp] theorem teamState_pwr (s0 s : State) : (teamState s0 s).pwr = s.pwr := by simp [teamState]
@[simp] theorem causesGone_pwr (s : State) : (causesGone s).pwr = s.pwr := by
  simp [causesGone, mergeGone, bootGone]
@[simp] theorem teamState_ctl (s0 s : State) : (teamState s0 s).ctl = s.ctl := by
  simp only [teamState]; split <;> simp
@[simp] theorem causesGone_ctl (s : State) : (causesGone s).ctl = s.ctl := by
  simp only [causesGone, mergeGone, bootGone]; (repeat' split) <;> simp

/-- Where no mirror write waits and few entries are unmirrored, the end of a step queues none (R318). -/
theorem mirrorGo_idle {s : State} (wait : s.ctl.mirrorWait = false) (few : unmirrored s ≤ 1024) : mirrorGo s = s := by
  have noMore : ¬ 1024 < unmirrored s := by omega
  unfold mirrorGo
  split
  · rfl
  · simp [wait, noMore]

theorem noPage_eq {p q : Pwr} (h : p.noPage = q.noPage) :
    { p with nvmQ := q.nvmQ, nvmNow := q.nvmNow, nvmRetry := q.nvmRetry } = q := by
  obtain ⟨⟩ := p
  obtain ⟨⟩ := q
  simpa [Pwr.noPage] using h

/-- Settles O8: nothing is dealt with, so that only the answers, records and messages of the step's end act. -/
theorem settleQuietFrame : Obligations.SettleQuietFrame := by
  intro s x todo coast t
  have block := settle_block s x todo coast
  have held := settle_held_quiet s x todo coast
  have page : x.ctl.mirrorWait = false → unmirrored x ≤ 1024 → t.pwr = x.pwr := by
    intro wait few
    have idle : mirrorGo (teamState s (causesGone x)) = teamState s (causesGone x) :=
      mirrorGo_idle (by simpa using wait) (by simpa [unmirrored] using few)
    simp only [t, settle, monCatch_quiet x todo, coastEnds_quiet s x coast, xing5_quiet x todo, reactDue_quiet x todo, idle]
    simp
  simp only [State.block, Prod.mk.injEq] at block
  obtain ⟨h1, h2, h3, -, h5, h6, h7, h8, h9, h10, h11, h12, h13, h14, h15, h16, h17, h18, h19, h20, h21, h22, h23, h24, h25⟩ := block
  exact ⟨h1, h2, h3, h5, h6, h8, h25, noPage_eq h7, page, h9, h10, h11, h12, h13, h14, h15, h16, h17, h18, h19, h20, h21, h22,
    h23, h24, held_safe held, held_safeN held, settle_todo s x todo coast, held_fwFault held, held_mbxReady held⟩

/-! ### What the monitors leave of the clocks, the configuration, the timebase and the entry to the safe state -/

/-- What the order and the kind of a decision hang on. -/
def State.clocked (s : State) := (s.now, s.up, s.cfg, s.tb, s.safe.entryUp)

@[simp] theorem clocked_mk (p n u f cfg ctl tb sa pw oq sw te em pb rx mo sm cd bq rt tn ch ti en tr pe ca fa ta) :
    State.clocked (State.mk p n u f cfg ctl tb sa pw oq sw te em pb rx mo sm cd bq rt tn ch ti en tr pe ca fa ta)
      = (n, u, cfg, tb, sa.entryUp) := rfl

@[simp] theorem clocked_eta (s : State) : (s.now, s.up, s.cfg, s.tb, s.safe.entryUp) = s.clocked := rfl

@[simp] theorem ite_clocked (c : Prop) [Decidable c] (x y : State) :
    (if c then x else y).clocked = if c then x.clocked else y.clocked := apply_ite State.clocked c x y

theorem foldl_clocked {α : Type} (f : State → α → State) (h : ∀ a x, (f a x).clocked = a.clocked) (l : List α) (s : State) :
    (l.foldl f s).clocked = s.clocked := by
  induction l generalizing s with
  | nil => rfl
  | cons x t ih => rw [List.foldl_cons, ih, h]

@[simp] theorem causeGone_clocked (a) (s : State) : (causeGone a s).clocked = s.clocked := by simp [causeGone]
@[simp] theorem emUpd_clocked (a) (b) (s : State) : (emUpd a b s).clocked = s.clocked := rfl
@[simp] theorem monUpd_clocked (a) (b) (s : State) : (monUpd a b s).clocked = s.clocked := rfl
@[simp] theorem leaveArmed_clocked (a) (s : State) : (leaveArmed a s).clocked = s.clocked := by
  simp only [leaveArmed]; split <;> simp
@[simp] theorem tripChannel_clocked (a) (b) (s : State) : (tripChannel a b s).clocked = s.clocked := by
  have left : (leaveArmed b (emUpd b (fun x => { cutVols x with latched := true, tripFirst := a }) s)).clocked = s.clocked := by simp
  simp [tripChannel, left]
@[simp] theorem tripSource_clocked (a) (s : State) : (tripSource a s).clocked = s.clocked :=
  foldl_clocked _ (fun _ _ => tripChannel_clocked _ _ _) _ s
@[simp] theorem tripGone_clocked (s : State) : (tripGone s).clocked = s.clocked := by simp [tripGone]
@[simp] theorem monSettle_clocked (a) (s : State) : (monSettle a s).clocked = s.clocked := by simp [monSettle]

/-- A past sample or window edge is settled at its own time; the clocks then stand again where they were. -/
theorem monSettle_back (m : Nat) {x s : State} (cfg : x.cfg = s.cfg) (tb : x.tb = s.tb) (safe : x.safe = s.safe) :
    ({ monSettle m x with now := s.now, up := s.up } : State).clocked = s.clocked := by
  have same := monSettle_clocked m x
  simp only [State.clocked, Prod.mk.injEq] at same ⊢
  simp [same, cfg, tb, safe]

@[simp] theorem monSample_clocked (m t) (s : State) : (monSample m s t).clocked = s.clocked := monSettle_back m rfl rfl rfl
@[simp] theorem monEdge_clocked (m t) (s : State) : (monEdge m s t).clocked = s.clocked := monSettle_back m rfl rfl rfl

@[simp] theorem monRun_clocked (m a) (s : State) : (monRun m a s).clocked = s.clocked := by
  have samples : ∀ (l : List Nat) (x : State), (l.foldl (monSample m) x).clocked = x.clocked :=
    foldl_clocked _ (fun _ _ => monSample_clocked _ _ _)
  have edges : ∀ (l : List Nat) (p : Nat × State), (l.foldl (fun (acc : Nat × State) t => (t, monEdge m
      (if fld (monW acc.2 m 0) 56 56 = 1 then
        (sampleTimes (monTs acc.2 m) acc.1 t).foldl (monSample m) acc.2 else acc.2) t)) p).2.clocked = p.2.clocked := by
    intro l
    induction l with
    | nil => intro p; rfl
    | cons t l ih => intro p; rw [List.foldl_cons, ih]; simp [samples]
  simp only [monRun, ite_clocked, samples, ite_self]
  rw [edges, monEdge_clocked]

@[simp] theorem monAdvance_clocked (s : State) : (monAdvance s).clocked = s.clocked :=
  foldl_clocked (fun a m => monRun m s.smpUp a) (fun a m => monRun_clocked m s.smpUp a) _ s

@[simp] theorem monCatch_clocked (s : State) : (monCatch s).clocked = s.clocked := by simp [monCatch]

/-! ### Dealing with one decision -/

theorem sortBy_one {α : Type} (k : α → Nat) (d : α) : sortBy k [d] = [d] := rfl

/-- One decision stands for one code, so that the FIFO to the controller does not run over. -/
theorem xing5_one {s : State} {d : Decision} (one : s.safe.todo = [d]) : xing5 s = s := by
  simp [xing5, one, List.eraseDups, List.eraseDupsBy, List.eraseDupsBy.loop]

/-- The one decision that waits is dealt with, then what that brought. -/
theorem reactDue_one {s : State} {d : Decision} (one : s.safe.todo = [d]) : reactDue s =
    reactAll 65536 (react d (safeUpd (fun u => { u with todo := [] }) (lowerFirst s))) := by
  have todo : (lowerFirst s).safe.todo = [d] := by
    unfold lowerFirst; split
    · exact one
    · exact one
  have count : 65536 + s.safe.todo.length = 65536 + 1 := by rw [one]; rfl
  have erased : safeUpd (fun u => { u with todo := u.todo.erase d }) (lowerFirst s)
      = safeUpd (fun u => { u with todo := [] }) (lowerFirst s) := by
    unfold safeUpd; simp only [todo, List.erase_cons_head]
  rw [reactDue, count, reactAll, todo, sortBy_one]
  simp only [erased]

/-- A decision is noted in the counters, the trigger and the controller; the safe state, its first cause and its count stay. -/
theorem noted_safe (d : Decision) (s : State) : (noted d s).safe.safe = s.safe.safe ∧
    (noted d s).safe.safeNLow = s.safe.safeNLow ∧ (noted d s).safe.firstCause = s.safe.firstCause ∧
    (noted d s).safe.entries = s.safe.entries := by
  unfold noted
  extract_lets s0 s1
  have stop : s1.safe = s0.safe := by
    simp only [s1, stopController]
    (repeat' split) <;> simp
  have trig : (match namedTile d with
      | some ti => safetyTrig d.at_ ti s1
      | none => s1).held = s1.held := by split <;> simp
  exact ⟨(held_safe trig).trans (congrArg Safe.safe stop :), (held_safeN trig).trans (congrArg Safe.safeNLow stop :),
    (held_firstCause trig).trans (congrArg Safe.firstCause stop :), (held_entries trig).trans (congrArg Safe.entries stop :)⟩

/-- In the safe state FIRST_CAUSE is not touched by a decision that is dealt with. -/
theorem react_firstCause {s : State} (d : Decision) (safe : s.safe.safe = true) :
    (react d s).safe.firstCause = s.safe.firstCause := by
  obtain ⟨still, -, first, -⟩ := noted_safe d s
  rw [react_noted, still, safe]
  simp only [Bool.not_true, Bool.and_false, Bool.false_eq_true, if_false]
  rw [← first]
  split
  · exact held_firstCause (sendDecision_held 4 d _)
  split
  · exact held_firstCause (sendDecision_held 3 d _)
  · exact held_firstCause (safetyAlert_held d _)

theorem react_safe {s : State} (d : Decision) (safe : s.safe.safe = true) : (react d s).safe.safe = true := by
  rcases (react_reacted d s).safe with ⟨same, -⟩ | ⟨out, -⟩
  · rw [same, safe]
  · rw [safe] at out; exact absurd out (by decide)

theorem reactAll_firstCause (n : Nat) {s : State} (safe : s.safe.safe = true) :
    (reactAll n s).safe.firstCause = s.safe.firstCause := by
  induction n generalizing s with
  | zero => rfl
  | succ n ih =>
    simp only [reactAll]
    split
    · rfl
    · next d rest _ =>
      have here : (safeUpd (fun u => { u with todo := u.todo.erase d }) s).safe.safe = true := safe
      exact (ih (react_safe d here)).trans (react_firstCause d here)

theorem isSafeCause_of_cfg {x y : State} (same : x.cfg = y.cfg) (fact : x.fact = y.fact) (d : Decision) :
    isSafeCause x d = isSafeCause y d := by
  have word : cfgW x .safe 0 0 = cfgW y .safe 0 0 := by simp only [cfgW, cfgObj, same, fact]
  simp only [isSafeCause, cfgF, word]

/-- One decision dealt with in the safe state: FIRST_CAUSE is lowered by it, and stands. -/
theorem reactDue_one_firstCause {s : State} {d : Decision} (safe : s.safe.safe = true) (one : s.safe.todo = [d]) :
    (reactDue s).safe.firstCause = firstLower s s.safe.firstCause d := by
  have lowered : lowerFirst s = safeUpd (fun u => { u with firstCause := firstLower s u.firstCause d }) s := by
    simp [lowerFirst, safe, safeUpd, one]
  have here : (safeUpd (fun u => { u with todo := [] }) (lowerFirst s)).safe.safe = true := by rw [lowered]; exact safe
  rw [reactDue_one one, reactAll_firstCause _ (react_safe d here), react_firstCause d here, lowered]
  rfl

/-- What follows the reactions at the end of a step leaves the safe state, its first cause and the rest of State.held. -/
theorem settle_held_reacted (s0 s : State) :
    (settle s0 s).held = (reactDue (xing5 (coastEnds s0 (monCatch s)))).held := by
  unfold settle; simp

/-- A step that decided one cause, no coast beginning, deals with it and with what that brings. -/
theorem settle_one {s x : State} {d : Decision} (one : (monCatch x).safe.todo = [d])
    (coast : x.tb.coast = true → s.tb.coast = true) : (settle s x).held = (reactDue (monCatch x)).held := by
  have clocks := monCatch_clocked x
  simp only [State.clocked, Prod.mk.injEq] at clocks
  obtain ⟨-, -, -, tb, -⟩ := clocks
  have quiet : coastEnds s (monCatch x) = monCatch x := coastEnds_quiet s (monCatch x) (by rw [tb]; exact coast)
  rw [settle_held_reacted s x, quiet, xing5_one one]

/-- Settles O10: a decision dealt with in the safe state is noted and raised; FIRST_CAUSE is lowered before that alone. -/
theorem safeStateIsKept : Obligations.SafeStateIsKept := by
  intro s x safe t
  have all := settle_reacted s x
  rcases all.safe with ⟨same, low, first, count⟩ | ⟨out, -⟩
  · refine ⟨same.trans safe, low, first, count, fun d one coast => ?_⟩
    have clocks := monCatch_clocked x
    simp only [State.clocked, Prod.mk.injEq] at clocks
    obtain ⟨now, up, cfg, -, entry⟩ := clocks
    have inSafe : (monCatch x).safe.safe = true := (held_safe (monCatch_held x)).trans safe
    have kept : t.safe.firstCause = firstLower (monCatch x) (monCatch x).safe.firstCause d := by
      rw [← reactDue_one_firstCause inSafe one, held_firstCause (settle_one one coast)]
    rw [kept, held_firstCause (monCatch_held x)]
    simp only [firstLower, isSafeCause_of_cfg cfg (held_fact (monCatch_held x)), cycleAt, now, up, entry, Bool.and_eq_true,
      decide_eq_true_eq, and_assoc]
    congr
  · rw [safe] at out; exact absurd out (by decide)

/-! ### A stopped controller -/

theorem lowerFirst_held (s : State) : (lowerFirst s).ctl.fwFault = s.ctl.fwFault ∧
    (lowerFirst s).safe.safe = s.safe.safe ∧ (lowerFirst s).safe.safeNLow = s.safe.safeNLow := by
  unfold lowerFirst; split <;> exact ⟨rfl, rfl, rfl⟩

theorem lowerFirst_outside {s : State} (out : s.safe.safe = false) : lowerFirst s = s := by simp [lowerFirst, out]

/-- LOCKSTEP and WATCHDOG stop the controller before anything else (R386, R387). -/
theorem noted_stops {d : Decision} (stops : d.bit = 6 ∨ d.bit = 7) {s : State} (runs : s.ctl.fwFault = false) :
    (noted d s).ctl.fwFault = true ∧ (noted d s).ctl.mbxReady = false := by
  have cond : d.bit = 6 ∨ d.bit = 7 ∨ (d.bit = 8 ∧ d.obj = 0x420) := by
    rcases stops with h | h
    · exact .inl h
    · exact .inr (.inl h)
  have noTile : namedTile d = none := by
    rcases stops with h | h <;> simp [namedTile, h]
  unfold noted
  simp only [cond, noTile, if_true]
  have e := stopController_held (safeUpd (fun u => { u with
    lastCode := causeCode d.bit, decUp := some d.up, seen := u.seen ||| 2 ^ d.bit
    active := if staysActive s d then u.active ||| 2 ^ d.bit else u.active }) s)
  simp only [State.held, Prod.mk.injEq, safeUpd_ctl, runs, Bool.and_false] at e
  obtain ⟨-, -, -, -, -, -, fault, ready, -⟩ := e
  exact ⟨fault, ready⟩

/-- The controller has stopped in the safe state. -/
def Stopped (s : State) : Prop :=
  s.ctl.fwFault = true ∧ s.ctl.mbxReady = false ∧ s.safe.safe = true ∧ s.safe.safeNLow = true

/-- Dealing with decisions neither starts a controller nor leaves the safe state. -/
theorem Reacted.stopped {s t : State} (r : Reacted s t) (stopped : Stopped s) : Stopped t := by
  obtain ⟨fault, ready, safe, low⟩ := stopped
  have ctl : t.ctl.fwFault = true ∧ t.ctl.mbxReady = false := by
    rcases r.ctl with ⟨f, m⟩ | both
    · exact ⟨f.trans fault, m.trans ready⟩
    · exact both
  rcases r.safe with ⟨s1, n1, -⟩ | ⟨out, -⟩
  · exact ⟨ctl.1, ctl.2, s1.trans safe, n1.trans low⟩
  · rw [safe] at out; exact absurd out (by decide)

theorem Stopped.of_held {s t : State} (h : t.held = s.held) (stopped : Stopped s) : Stopped t :=
  (Reacted.of_held h).stopped stopped

/-- A decision that stops the controller enters the safe state where that does not stand. -/
theorem react_stops {d : Decision} (stops : d.bit = 6 ∨ d.bit = 7) {s : State} (runs : s.ctl.fwFault = false)
    (low : s.safe.safe = s.safe.safeNLow) : Stopped (react d s) := by
  obtain ⟨fault, ready⟩ := noted_stops stops runs
  obtain ⟨safe, safeN, -, -⟩ := noted_safe d s
  have fixed : isSafeCause (noted d s) d = true := by
    rcases stops with h | h <;> simp [isSafeCause, fixedSafe, h]
  have plain : d.bit ≠ 18 ∧ d.bit ≠ 30 := by omega
  rw [react_noted, if_neg plain.1, if_neg plain.2, fixed, Bool.true_and]
  split
  · have e := enterSafe_held d (noted d s)
    simp only [State.held, Prod.mk.injEq] at e
    obtain ⟨-, -, inSafe, inLow, -, -, f, r, -⟩ := e
    exact ⟨f.trans fault, r.trans ready, inSafe, inLow⟩
  · next already =>
    have inSafe : (noted d s).safe.safe = true := by simpa using already
    have inLow : (noted d s).safe.safeNLow = true := by rw [safeN, ← low, ← safe, inSafe]
    exact .of_held (safetyAlert_held d (noted d s)) ⟨fault, ready, inSafe, inLow⟩

/-- Such a decision alone at the end of a step. -/
theorem settle_stops {s x : State} {d : Decision} (stops : d.bit = 6 ∨ d.bit = 7) (one : (monCatch x).safe.todo = [d])
    (coast : x.tb.coast = true → s.tb.coast = true) (runs : x.ctl.fwFault = false) (low : x.safe.safe = x.safe.safeNLow) :
    Stopped (settle s x) := by
  have caught := monCatch_held x
  have before := lowerFirst_held (monCatch x)
  refine .of_held (settle_one one coast) ?_
  rw [reactDue_one one]
  refine (reactAll_reacted 65536 _).stopped (react_stops stops ?_ ?_)
  · exact before.1.trans ((held_fwFault caught).trans runs)
  · exact before.2.1.trans (((held_safe caught).trans (low.trans (held_safeN caught).symm)).trans before.2.2.symm)

/-- Settles O60: the cause is decided alone, and its reaction is fixed. -/
theorem stoppedControllerIsSafe : Obligations.StoppedControllerIsSafe := by
  intro dt s t on runs inv b alone how quiet coast
  have at_ : At dt s b := ⟨on, rfl⟩
  have invB : SafeInv b := (Sound.ofReacted (begin_reacted dt s)).inv inv
  have runsB : b.ctl.fwFault = false := runs
  have quietB : b.safe.todo = [] := quiet
  have coastB : b.tb.coast = true → s.tb.coast = true := coast
  clear_value b
  have one (bit obj detail : Nat) (x : State) (same : x.safe.todo = b.safe.todo) :
      (decideCause bit obj detail x).safe.todo = [{ bit := bit, obj := obj, detail := detail, at_ := x.now, up := x.up }] := by
    simp [decideCause, same, quietB]
  rcases how with ⟨g, only, step⟩ | ⟨a, due, only, step⟩
  · have act : exec (.lockstepMismatch dt g) s = .next (settle s (decideCause 6 0 g b)) := by
      show execLockstepMismatch dt g s = _
      unfold execLockstepMismatch
      rw [doneOn_on at_, if_neg (by simp [runsB])]
    obtain rfl := Host.Outcome.next.inj (act.symm.trans step)
    exact settle_stops (.inl rfl) (only.trans (one 6 0 g b rfl)) coastB runsB invB.1
  · have act : exec (.watchdogTimeout dt) s = .next (settle s
        (decideCause 7 0 0 (safeUpd (fun u => { u with wdAt := none }) (reachUp (a + 320 * b.tb.aonCal) b)))) := by
      show execWatchdogTimeout dt s = _
      unfold execWatchdogTimeout
      simp only [doneOn_on at_, due]
    have later := reachUp_held (a + 320 * b.tb.aonCal) b
    obtain rfl := Host.Outcome.next.inj (act.symm.trans step)
    refine settle_stops (.inr rfl) (only.trans (one 7 0 0 _ (by simp))) ?_ ?_ ?_
    · simpa [reachUp, apply_ite State.tb] using coastB
    · exact (held_fwFault later).trans runsB
    · exact (held_safe later).trans (invB.1.trans (held_safeN later).symm)

end Sys2Proof.Machine
end

section
/-! # Configuration commands and readbacks -/

namespace Sys2Proof.Machine

/-! ### A configuration command that passes its row is submitted or staged (R303, R307) -/

section
variable {m op : Nat} {k : CfgKind} {b : State} (n : nextMbx b = some m) (o : (cmdOf b m).opcode = op)
  (kind : writerKind op (cmdOf b m).opt = some k)
include n o kind

theorem runCfg_submits (head : headStatus (taken m b) (cmdOf b m) (writeRow k (cmdOf b m)) = stOk) (plain : (cmdOf b m).txn = 0) :
    runCfg m op b = submitSet (cmdOf b m) b.ctl.seq (k == .coef)
      (queueMissing (taken m b) k (cmdOf b m) || persMissing (taken m b) k (cmdOf b m)) (writeOps k (cmdOf b m)) (taken m b) := by
  rw [runCfg, take_next n o]
  simp only [kind, head, plain, ne_eq, not_true, if_false]

theorem runCfg_stages (head : headStatus (taken m b) (cmdOf b m) (writeRow k (cmdOf b m)) = stOk) (open_ : (cmdOf b m).txn ≠ 0)
    (queue : queueMissing (taken m b) k (cmdOf b m) = false) :
    runCfg m op b = stageCmd (cmdOf b m) b.ctl.seq (writeOps k (cmdOf b m)) (taken m b) := by
  rw [runCfg, take_next n o]
  simp only [kind, head, open_, queue, ne_eq, not_true, not_false_eq_true, if_true, if_false, Bool.false_eq_true]

end

/-! ### What submitting a set comes to (R303, R304, R305) -/

/-- The accepted set of one command. -/
def ownSet (c : Cmd) (n e bd : Nat) (ops : List SetOp) : WaitSet :=
  { seq := n, epoch := e, boundary := bd, members := [{ cmd := c.toRec n, ops := ops }] }

/-- The epoch after the next accepted set. -/
def nextEpoch (s : State) : Nat := (s.ctl.epoch + 1) % 2 ^ 32

section
variable {c : Cmd} {n : Nat} {ops : List SetOp} {s : State} (taps : tapsBusy s (cfgAt s 1) ops = false)
include taps

theorem submitSet_idle {coef : Bool} (idle : isIdle s = true) (fits : setStatus s 4 ops = stOk) :
    submitSet c n coef false ops s = respond c.mbx stOk false false n []
      (applySet 4 (ownSet c n (nextEpoch s) 4 ops) { s with ctl := { s.ctl with epoch := nextEpoch s } }) := by
  simp [submitSet, acceptSet, taps, idle, fits, ownSet, nextEpoch]

variable (runs : isIdle s = false)
include runs

theorem submitSet_coef (fits : setStatus s 0 ops = stOk) :
    submitSet c n true false ops s = respond c.mbx stOk false false n []
      (applySet 0 (ownSet c n (nextEpoch s) 0 ops) { s with ctl := { s.ctl with epoch := nextEpoch s } }) := by
  simp [submitSet, acceptSet, taps, runs, fits, ownSet, nextEpoch]

theorem submitSet_coef_refused {st : Nat} (bad : setStatus s 0 ops = st) (w : st ≠ stOk) :
    submitSet c n true false ops s = respond c.mbx st false false n [] s := by
  simp [submitSet, taps, runs, bad, w, deny]

theorem submitSet_notIdle (classI : setBoundary s 1 ops = none) :
    submitSet c n false false ops s = respond c.mbx stNotIdle false false n [] s := by
  simp [submitSet, taps, runs, classI, deny]

variable {bd : Nat} (boundary : setBoundary s 1 ops = some bd)
include boundary

theorem submitSet_soon (soon : soonSet s bd ops = true) (fits : setStatus s bd ops = stOk) :
    submitSet c n false false ops s = respond c.mbx stOk false false n []
      (applySet bd (ownSet c n (nextEpoch s) bd ops) { s with ctl := { s.ctl with epoch := nextEpoch s } }) := by
  simp [submitSet, acceptSet, taps, runs, boundary, soon, fits, ownSet, nextEpoch]

variable (later : soonSet s bd ops = false)
include later

theorem submitSet_full (full : 16 ≤ s.ctl.waiting.length) :
    submitSet c n false false ops s = respond c.mbx stNoRes false false n [] s := by
  simp [submitSet, taps, runs, boundary, later, full, deny]

theorem submitSet_waits (room : s.ctl.waiting.length < 16) (fits : setStatus s bd ops = stOk) :
    submitSet c n false false ops s = respond c.mbx stOk false false n []
      { s with ctl := { s.ctl with
          epoch := nextEpoch s, waiting := s.ctl.waiting ++ [ownSet c n (nextEpoch s) bd ops] } } := by
  have notFull : ¬ 16 ≤ s.ctl.waiting.length := by omega
  simp [submitSet, acceptSet, taps, runs, boundary, later, notFull, fits, ownSet, nextEpoch]

end

/-- Settles O16: while idle every set takes effect by boundary 4. -/
theorem settingTakesEffectWhileIdle : Obligations.SettingTakesEffectWhileIdle := by
  intro i dt m op k s b set at_ n o c t e kind head plain idle taps missing fits
  rw [exec_setOp set, doneOn_on at_, runCfg_submits n o kind head plain, missing, submitSet_idle taps idle fits]
  rfl

/-- Settles O17: the cases of a set submitted while the Playbook runs. -/
theorem settingWaitsWhileRunning : Obligations.SettingWaitsWhileRunning := by
  intro i dt m op k s b set at_ n o c t ops kind head plain runs taps missing
  have submitted : exec i s = .next (settle s (submitSet c b.ctl.seq (k == .coef) false ops t)) := by
    rw [exec_setOp set, doneOn_on at_, runCfg_submits n o kind head plain, missing]
  refine ⟨fun coef => ?_, fun other => ?_⟩
  · have isCoef : (k == .coef) = true := by simp [coef]
    rw [submitted, isCoef]
    exact ⟨fun fits => by rw [submitSet_coef taps runs fits]; rfl,
      fun st bad w => by rw [submitSet_coef_refused taps runs bad w]; rfl⟩
  · have isOther : (k == .coef) = false := by simp [other]
    rw [submitted, isOther]
    exact ⟨fun classI => by rw [submitSet_notIdle taps runs classI]; rfl,
      fun bd boundary soon fits => by rw [submitSet_soon taps runs boundary soon fits]; rfl,
      fun bd boundary later full => by rw [submitSet_full taps runs boundary later full]; rfl,
      fun bd boundary later room fits => by rw [submitSet_waits taps runs boundary later room fits]; rfl⟩

/-- Settles O18: the transaction stands open and its shadow has room, or has not. -/
theorem settingIsStagedInATransaction : Obligations.SettingIsStagedInATransaction := by
  intro i dt m op k x s b set at_ n o c t kind head open_ queue found
  have staged : exec i s = .next (settle s (stageCmd c b.ctl.seq (writeOps k c) t)) := by
    rw [exec_setOp set, doneOn_on at_, runCfg_stages n o kind head open_ queue]
  have found' : txnFind t c.txn (mbxIface c.mbx) = some x := found
  rw [staged]
  refine ⟨fun room => ?_, fun full => ?_⟩
  · have notFull : ¬ 524288 < shadowUsed t + 16 + c.len := by omega
    simp only [stageCmd, found', notFull, if_false]
    rfl
  · simp only [stageCmd, found', full, if_true]
    rfl

/-- Settles O19: a readback whose selection stands and whose words fit answers them. -/
theorem readbackAnswersTheObjects : Obligations.ReadbackAnswersTheObjects := by
  intro i dt m op k s b get at_ n o c t ws kind sel head
  have answer : runGet m op b = respond m stOk false false b.ctl.seq ws t := by
    rw [runGet, take_next n o]
    simp only [kind, sel, if_true, Bool.true_and, c, t, ws] at head ⊢
    rw [head]
    rfl
  rw [exec_getOp get, doneOn_on at_, answer]

end Sys2Proof.Machine
end

section
/-! # The journal, the mailbox window, triggers, trips, loss of lock and what reset leaves -/

namespace Sys2Proof.Machine

/-! ### The journal (R312, R313, R318) -/

/-- An entry as the journal numbers and dates it. -/
def dated (e : JEntry) (s : State) : JEntry :=
  { e with jseq := (s.ctl.jseq + 1) % 2 ^ 32, dt := s.now, frameLo := s.pb.frame % 65536 }

theorem journal_room {s : State} (room : s.ctl.jrnl.length < 4096) (e : JEntry) : journal e s =
    { s with ctl := { s.ctl with jseq := (s.ctl.jseq + 1) % 2 ^ 32, jrnl := s.ctl.jrnl ++ [dated e s] } } := by
  have fits : (s.ctl.jrnl ++ [dated e s]).length ≤ 4096 := by simp; omega
  unfold journal
  simp only []
  exact if_pos fits

/-- The full ring once its oldest entry has gone: that is lost where the mirror has not reached it. -/
def pushedOut (e : JEntry) (s : State) : State :=
  { s with ctl := { s.ctl with
      jseq := (s.ctl.jseq + 1) % 2 ^ 32, jrnl := s.ctl.jrnl.drop 1 ++ [dated e s]
      jlost := if s.ctl.jmirr < (s.ctl.jrnl.getD 0 {}).jseq then satAdd 32 s.ctl.jlost 1 else s.ctl.jlost } }

theorem journal_full {s : State} (full : 4096 ≤ s.ctl.jrnl.length) (e : JEntry) : journal e s =
    if s.ctl.jmirr < (s.ctl.jrnl.getD 0 {}).jseq then irqBoth 3 (pushedOut e s) else pushedOut e s := by
  have crowded : ¬ (s.ctl.jrnl ++ [dated e s]).length ≤ 4096 := by simp; omega
  have front : (s.ctl.jrnl ++ [dated e s]).getD 0 {} = s.ctl.jrnl.getD 0 {} := by
    rw [List.getD_append _ _ _ _ (by omega)]
  have rest : (s.ctl.jrnl ++ [dated e s]).drop 1 = s.ctl.jrnl.drop 1 ++ [dated e s] := by
    rw [List.drop_append_of_le_length (by omega)]
  unfold journal pushedOut
  simp only []
  refine (if_neg crowded).trans ?_
  rw [← front, ← rest]
  rfl

theorem irqBoth_ctl (bit : Nat) (s : State) : (irqBoth bit s).ctl =
    { s.ctl with irqPendP := s.ctl.irqPendP ||| 2 ^ bit, irqPendS := s.ctl.irqPendS ||| 2 ^ bit } := rfl

/-- Settles O57: by whether the ring has room, and whether the mirror has reached the entry that goes. -/
theorem journalAppends : Obligations.JournalAppends := by
  intro e s r
  by_cases full : 4096 ≤ s.ctl.jrnl.length
  · have len : (s.ctl.jrnl.drop 1 ++ [dated e s]).length ≤ 4096 ↔ s.ctl.jrnl.length ≤ 4096 := by simp; omega
    have newest : (s.ctl.jrnl.drop 1 ++ [dated e s]).getLast? = some (dated e s) := by simp
    have older : (s.ctl.jrnl.drop 1 ++ [dated e s]).dropLast = s.ctl.jrnl.drop 1 := by simp
    by_cases lost : s.ctl.jmirr < (s.ctl.jrnl.getD 0 {}).jseq
    · have out : r = irqBoth 3 (pushedOut e s) := (journal_full full e).trans (if_pos lost)
      rw [out]
      exact ⟨rfl, newest, len.mpr, fun room => absurd room (by omega), fun _ => older, fun _ _ => ⟨if_pos lost, rfl, rfl⟩,
        rfl, rfl, rfl⟩
    · have out : r = pushedOut e s := (journal_full full e).trans (if_neg lost)
      rw [out]
      exact ⟨rfl, newest, len.mpr, fun room => absurd room (by omega), fun _ => older, fun _ h => absurd h lost, rfl, rfl, rfl⟩
  · have out : r = _ := journal_room (by omega) e
    rw [out]
    refine ⟨rfl, by simp [dated], fun _ => ?_, fun _ => ⟨rfl, by simp⟩, fun h => absurd h full, fun h => absurd h full, rfl, rfl, rfl⟩
    simp; omega

/-! ### A trigger of a recorder (R182 to R187) -/

/-- Only what an update makes of the recorder that stands matters. -/
theorem recUpd_congr {ti : Nat} {s : State} {f g : Rec → Rec} (same : f (tileGet s ti).rcd = g (tileGet s ti).rcd) :
    recUpd ti f s = recUpd ti g s := by
  unfold tileGet at same
  simp only [recUpd, tileUpd, tabUpd, same]

theorem rcd_recUpd (ti : Nat) (f : Rec → Rec) (s : State) : (tileGet (recUpd ti f s) ti).rcd = f (tileGet s ti).rcd := by
  simp [recUpd]

/-- The trigger takes the place of the one taken: in its cycle, of a lower cause, on a capture that still fills or froze at once. -/
def replaces (s : State) (ti cause : Nat) (t : Int) (r : Rec) : Bool :=
  !teamOnly s ti cause && (r.st == .filling || r.st == .frozen && r.freezeAt == some r.trigDt)
    && trigCycle cause t == trigCycle r.cause r.trigDt && decide (cause < r.cause)

theorem recBusy_counts {s : State} {ti cause dev : Nat} {t : Int} (no : replaces s ti cause t (tileGet s ti).rcd = false) :
    recBusy ti cause dev t s = recUpd ti (fun x => { x with busy := satAdd 16 x.busy 1 }) s := by
  unfold recBusy
  refine recUpd_congr ?_
  unfold replaces at no
  simp only [no, Bool.false_eq_true, if_false]

theorem recBusy_replaces {s : State} {ti cause dev : Nat} {t : Int} (yes : replaces s ti cause t (tileGet s ti).rcd = true) :
    let r := (tileGet s ti).rcd
    let r' := (tileGet (recBusy ti cause dev t s) ti).rcd
    r'.cause = cause ∧ r'.trigDev = dev ∧ r'.trigDt = t ∧ r'.st = r.st ∧ r'.busy = satAdd 16 r.busy 1 := by
  unfold recBusy
  unfold replaces at yes
  simp only [rcd_recUpd, yes, if_true, and_self]

/-- A recorder in a capture, or disarmed, counts the trigger or lets it take the place of its own. -/
theorem recTrigger_busy {s : State} {ti cause dev : Nat} {t : Int} (hold : (tileGet s ti).rcd.st ≠ .hold)
    (armed : (tileGet s ti).rcd.st ≠ .armed) : recTrigger ti cause dev t s = recBusy ti cause dev t s := by
  unfold recTrigger
  simp only []
  split
  · next h => exact absurd h hold
  · next h => exact absurd h armed
  all_goals rfl

theorem recTrigger_armed {s : State} {ti cause dev : Nat} {t : Int} (armed : (tileGet s ti).rcd.st = .armed) :
    recTrigger ti cause dev t s = if teamOnly s ti cause then recLocal ti cause t s else recTake ti cause dev t s := by
  simp only [recTrigger, armed]

/-- A capture whose marks hold the trigger itself waits for it to be written. -/
theorem recFreeze_waits {s : State} {ti : Nat} {at_ : Int} {m : RecMark} (here : m ∈ (tileGet s ti).rcd.marks) (kind : m.kind = 2) :
    recFreeze ti at_ s = recUpd ti (fun r => { r with st := .frozen, freezeAt := some at_, frzDt := at_ }) s := by
  have waits : (tileGet s ti).rcd.marks.any (fun m => m.kind == 2 || decide (m.t < at_)) = true :=
    List.any_eq_true.mpr ⟨m, here, by simp [kind]⟩
  simp only [recFreeze, recStop, recSettle, rcd_recUpd, waits, Bool.or_true, if_true]

/-- A trigger taken: the fill begins, or is over at once (R185). -/
theorem recTake_rcd (ti cause dev : Nat) (t : Int) (s : State) :
    let r := (tileGet (recTake ti cause dev t s) ti).rcd
    (r.st = .filling ∨ r.st = .frozen ∨ r.st = .reading) ∧ r.cause = cause ∧ r.trigDt = t := by
  unfold recTake
  extract_lets r post s1 r'
  have taken_ : (tileGet s1 ti).rcd = _ := rcd_recUpd ti _ s
  by_cases atOnce : post = 0
  · have mark : ({ kind := 2, t := t, time := some (rt36 t r.refAt), tag := r.refTag } : RecMark) ∈ (tileGet s1 ti).rcd.marks := by
      rw [taken_]; simp
    simp only [r', atOnce, if_true, recFreeze_waits mark rfl, rcd_recUpd, taken_]
    simp
  · simp only [r', atOnce, if_false, taken_]
    simp

theorem recSend_team {s : State} {ti c : Nat} {u : Int} (sent : (tileGet s ti).rcd.sent = some (c, u)) (en : teamEn s = true)
    (new : (devNum s, u - teamOfs s) ∉ s.team.trigs) :
    let x := recUpd ti (fun y => { y with sent := none }) s
    recSend ti s = out (.nolgil 2 [devNum s, u - teamOfs s])
      { x with team := { x.team with trigs := s.team.trigs ++ [(devNum s, u - teamOfs s)] } } := by
  simp [recSend, sent, en, new]

/-- Settles O46: by the state of the recorder, and in ARMED by whether the trigger goes to the team first. -/
theorem recorderTrigger : Obligations.RecorderTrigger := by
  intro ti cause dev t s r
  refine ⟨fun hold => ?_, fun busy => ?_, fun st own same lower => ?_, fun armed team => ?_, fun c u => recSend_team, fun armed own => ?_⟩
  · simp only [recTrigger, r, hold] at hold ⊢
  · have no : replaces s ti cause t r = false := by
      rcases busy with st | st | ⟨st, late⟩ | ⟨st, other | lower | own⟩
      · simp [replaces, st]
      · simp [replaces, st]
      · simp [replaces, st, late]
      · simp [replaces, other]
      · simp [replaces, lower]
      · simp [replaces, own]
    have st : r.st ≠ .hold ∧ r.st ≠ .armed := by
      rcases busy with st | st | ⟨st, -⟩ | ⟨st | st, -⟩ <;> simp [st]
    rw [recTrigger_busy st.1 st.2, recBusy_counts no]
  · have yes : replaces s ti cause t r = true := by
      rcases st with st | ⟨st, atOnce⟩
      · simp [replaces, own, st, same, lower]
      · simp [replaces, own, st, atOnce, same, lower]
    have st : r.st ≠ .hold ∧ r.st ≠ .armed := by
      rcases st with st | ⟨st, -⟩ <;> simp [st]
    rw [recTrigger_busy st.1 st.2]
    exact recBusy_replaces yes
  · rw [recTrigger_armed armed, if_pos team]
    exact ⟨fun none_ => by simp only [recLocal, r] at none_ ⊢; simp only [none_],
      fun c u sent same => by simp only [recLocal, r] at sent ⊢; simp only [sent, same, if_true],
      fun c u sent other => by simp only [recLocal, r] at sent ⊢; simp only [sent, other, if_false]⟩
  · rw [recTrigger_armed armed, if_neg (by simp [own])]
    obtain ⟨st, cause_, time⟩ := recTake_rcd ti cause dev t s
    exact ⟨rfl, st, cause_, time⟩

/-! ### Trips and refused volleys (R73, R76, R77, R89, R90) -/

/-- Leaving ARMED after the volley in progress touches neither the volleys nor the latch. -/
theorem leaveArmed_em (ch : Nat) (s : State) :
    (emGet (leaveArmed ch s) ch).vols = (emGet s ch).vols ∧ (emGet (leaveArmed ch s) ch).latched = (emGet s ch).latched ∧
    (emGet (leaveArmed ch s) ch).tripFirst = (emGet s ch).tripFirst := by
  simp only [leaveArmed]
  (repeat' split) <;> simp

theorem leaveArmed_frame (ch : Nat) (s : State) :
    (leaveArmed ch s).safe = s.safe ∧ (leaveArmed ch s).now = s.now ∧ (leaveArmed ch s).up = s.up := by
  simp only [leaveArmed]
  (repeat' split) <;> simp

/-- No volley is in progress once those that were are cut. -/
theorem cutVols_idle (e : EmCh) : ∀ v ∈ (cutVols e).vols, inProgress v = false := by
  intro v mem
  simp only [cutVols, List.mem_map] at mem
  obtain ⟨w, -, rfl⟩ := mem
  split
  · simp [inProgress]
  · next idle => simpa using idle

/-- What a trip makes of its channel before an armed output leaves. -/
def latchTrip (src : Nat) (x : EmCh) : EmCh := { cutVols x with latched := true, tripFirst := src }

/-- EM_TRIP of a channel with the source that latched it. -/
theorem tripChannel_fresh {s : State} {src ch : Nat} (fresh : (emGet s ch).latched = false) :
    let r := tripChannel src ch s
    (emGet r ch).latched = true ∧ (emGet r ch).tripFirst = src ∧ (∀ v ∈ (emGet r ch).vols, inProgress v = false) ∧
    r.safe.todo = s.safe.todo ++ [{ at_ := s.now, up := s.up, bit := 3, obj := ch, detail := src, force := inSafeMap s src }] := by
  intro r
  obtain ⟨vols, latched, first⟩ := leaveArmed_em ch (emUpd ch (latchTrip src) s)
  obtain ⟨safe, now, up⟩ := leaveArmed_frame ch (emUpd ch (latchTrip src) s)
  rw [emGet_emUpd_same] at vols latched first
  have cut : r = let y := leaveArmed ch (emUpd ch (latchTrip src) s)
      { y with safe := { y.safe with todo := y.safe.todo ++
        [{ bit := 3, obj := ch, detail := (emGet y ch).tripFirst, at_ := y.now, up := y.up, force := inSafeMap s src }] } } := by
    simp only [r, tripChannel, fresh, Bool.false_eq_true, if_false]
    rfl
  rw [cut]
  refine ⟨latched, first, fun v mem => cutVols_idle (emGet s ch) v (vols ▸ mem), ?_⟩
  simp only [safe, now, up, first]
  rfl

theorem tripChannel_again {s : State} {src ch : Nat} (again : (emGet s ch).latched = true) :
    (emGet (tripChannel src ch s) ch).latched = true ∧ (inSafeMap s src = false → tripChannel src ch s = s) := by
  simp only [tripChannel, again, if_true]
  refine ⟨?_, fun no => by simp [no]⟩
  split
  · exact again
  · exact again

/-- A refused volley is counted and nothing else of its channel changes. -/
theorem emGet_refuseVolley (o : Offer) (count : EmCh → EmCh) (s : State) :
    emGet (refuseVolley o count s) o.ch = count (emGet s o.ch) := emGet_emUpd_same o.ch count s

theorem judgeVolley_off {o : Offer} {s : State} (safe : safeDecided s = false) (free : (emGet s o.ch).latched = false)
    (off : (emGet s o.ch).out = 0) :
    judgeVolley o s = refuseVolley o (fun x => { x with outOff := satAdd 32 x.outOff 1 }) s := by
  have stays : armBy o s = s := by simp [armBy, off]
  simp [judgeVolley, safe, free, stays, off]

/-- Settles O49: a trip latches once; a volley refused before the accountant is counted alone. -/
theorem tripAndBudgetRules : Obligations.TripAndBudgetRules := by
  constructor
  · intro src ch s r
    by_cases again : (emGet s ch).latched = true
    · obtain ⟨latched, same⟩ := tripChannel_again (src := src) again
      exact ⟨latched, fun fresh => absurd (fresh.symm.trans again) (by decide), fun _ no => same no⟩
    · have fresh : (emGet s ch).latched = false := by simpa using again
      obtain ⟨latched, rest⟩ := tripChannel_fresh (src := src) fresh
      exact ⟨latched, fun _ => rest, fun old => absurd (fresh.symm.trans old) (by decide)⟩
  · intro o s why r
    have counted : (r = refuseVolley o (fun e => { e with outOff := satAdd 32 e.outOff 1 }) s) ∨
        (r = refuseVolley o (fun e => { e with tripSkip := satAdd 32 e.tripSkip 1 }) s) := by
      by_cases safe : safeDecided s = true
      · exact .inl (by simp only [r, judgeVolley, safe, if_true])
      by_cases latched : (emGet s o.ch).latched = true
      · exact .inr (by simp only [r, judgeVolley, safe, latched, if_true, Bool.false_eq_true, if_false])
      have noSafe : ¬ (s.safe.safe = true ∨ s.safe.todo.any (isSafeCause s) = true) := by
        simpa only [safeDecided, Bool.or_eq_true] using safe
      have off : (emGet s o.ch).out = 0 := by
        rcases why with h | h | h | h
        · exact absurd (.inl h) noSafe
        · exact absurd (.inr h) noSafe
        · exact absurd h latched
        · exact h
      exact .inl (judgeVolley_off (by simpa using safe) (by simpa using latched) off)
    rcases counted with h | h <;> rw [h] <;> simp [emGet_refuseVolley]

/-! ### A loss of lock (R54 to R56) -/

/-- Reading an entry of a table whose entries are all changed in one way, which leaves an unused one as it is. -/
theorem tabGet_map {α : Type} (d : α) (f : α → α) (keep : f d = d) (t : Tab α) (i : Nat) :
    tabGet d (t.map (fun p => (p.1, f p.2))) i = f (tabGet d t i) := by
  induction t with
  | nil => exact keep.symm
  | cons p t ih =>
    simp only [List.map_cons, tabGet]
    split
    · rfl
    · exact ih

/-- An AON period that ended after the last good edge is left out of the calibration (R54). -/
theorem aonFreeze_late {ago : Nat} {s : State} (late : s.up < s.tb.aonAt + ago) : (aonFreeze ago s).tb =
    { s.tb with aonHist := s.tb.aonHist.dropLast, aonCal := aonMean (aonLast s.tb.aonHist.dropLast) } := by
  simp only [aonFreeze, late, if_true]

theorem aonFreeze_early {ago : Nat} {s : State} (early : s.tb.aonAt + ago ≤ s.up) : aonFreeze ago s = s := by
  unfold aonFreeze; exact if_neg (by omega)

/-- The freeze of the AON calibration and of the loop word touches the timebase alone, and of it neither the coast nor its timer. -/
theorem aonFreeze_frame (ago : Nat) (s : State) : ∃ tb, aonFreeze ago s = { s with tb := tb } ∧ tb.coastCount = s.tb.coastCount ∧
    tb.holdAt = s.tb.holdAt := by
  unfold aonFreeze
  split
  · exact ⟨_, rfl, rfl, rfl⟩
  · exact ⟨s.tb, rfl, rfl, rfl⟩

/-- The coast itself, before the pixels are marked and REF_LOSS is decided. -/
def coasting (ago mean : Nat) (s : State) : State :=
  let y := aonFreeze ago s
  { y with tb := { y.tb with
    loopWord := mean % 1024, st := .coast, coast := true, coastCount := satAdd 32 s.tb.coastCount 1
    holdAt := some (s.tb.holdAt.getD s.up), lastGood := s.now - ago, good := 0, judging := y.tb.refPresent } }

theorem goCoast_eq (ago mean : Nat) (s : State) : goCoast ago (some mean) s =
    decideCause 14 0 (holdoverUs s) (if isMaster s then markTeamCoast (markCoast (s.now - ago) (coasting ago mean s))
      else markCoast (s.now - ago) (coasting ago mean s)) := by
  obtain ⟨tb, frozen, count, hold⟩ := aonFreeze_frame ago s
  simp only [goCoast, freezeLoop, coasting, frozen, count, hold]
  cases s.tb.holdAt <;> rfl

/-- Marking the pixels of a coast: those with a window open since the last good edge. -/
theorem markCoast_pix {t : Int} {s : State} {ch : Nat} {e : Int} (open_ : (chanGet s ch).pix.winEnd = some e) (since : t < e) :
    (chanGet (markCoast t s) ch).pix = { (chanGet s ch).pix with coast := true } := by
  have reaches : pixReaches t (chanGet s ch).pix = true := by simp [pixReaches, open_, since]
  have here := tabGet_map {} (fun c : Chan => { c with pix := if pixReaches t c.pix then { c.pix with coast := true } else c.pix })
    rfl s.chan ch
  have pix := congrArg Chan.pix here
  simp only [chanGet] at reaches
  simp only [reaches, if_true] at pix
  exact pix

/-- The mark of the team's coast leaves the rest of a pixel. -/
theorem markTeamCoast_pix (s : State) (ch : Nat) : (chanGet (markTeamCoast s) ch).pix.coast = (chanGet s ch).pix.coast ∧
    (chanGet (markTeamCoast s) ch).pix.opened = (chanGet s ch).pix.opened := by
  have marked : (markOpen (fun x => { x with teamCoast := true }) s).chan = s.chan.map (fun p => (p.1,
      if pixReaches s.now p.2.pix then { p.2 with pix := { p.2.pix with teamCoast := true } } else p.2)) := by
    refine List.map_congr_left fun p _ => ?_
    split <;> rfl
  unfold markTeamCoast
  split
  · unfold chanGet
    rw [marked, tabGet_map {} (fun c : Chan => if pixReaches s.now c.pix then { c with pix := { c.pix with teamCoast := true } }
      else c) rfl]
    split <;> exact ⟨rfl, rfl⟩
  · exact ⟨rfl, rfl⟩

theorem markTeamCoast_frame (s : State) : (markTeamCoast s).tb = s.tb ∧ (markTeamCoast s).safe = s.safe ∧
    (markTeamCoast s).now = s.now ∧ (markTeamCoast s).up = s.up := by
  unfold markTeamCoast; split <;> exact ⟨rfl, rfl, rfl, rfl⟩

/-- Settles O35: the coast, then the marks, then the decision. -/
theorem coastBegins : Obligations.CoastBegins := by
  intro ago mean s r
  obtain ⟨tb, frozen, count, hold⟩ := aonFreeze_frame ago s
  have y : ∃ x, r = decideCause 14 0 (holdoverUs s) x ∧ x.tb = (coasting ago mean s).tb ∧ x.safe = s.safe ∧ x.now = s.now ∧
      x.up = s.up ∧ ∀ ch, (chanGet x ch).pix.coast = (chanGet (markCoast (s.now - ago) (coasting ago mean s)) ch).pix.coast ∧
        (chanGet x ch).pix.opened = (chanGet (markCoast (s.now - ago) (coasting ago mean s)) ch).pix.opened := by
    refine ⟨_, goCoast_eq ago mean s, ?_⟩
    have base : (coasting ago mean s).safe = s.safe ∧ (coasting ago mean s).now = s.now ∧ (coasting ago mean s).up = s.up := by
      simp only [coasting, frozen, and_self]
    obtain ⟨safe, now, up⟩ := base
    split
    · obtain ⟨h1, h2, h3, h4⟩ := markTeamCoast_frame (markCoast (s.now - ago) (coasting ago mean s))
      exact ⟨h1, h2.trans safe, h3.trans now, h4.trans up, fun ch => markTeamCoast_pix _ ch⟩
    · exact ⟨rfl, safe, now, up, fun ch => ⟨rfl, rfl⟩⟩
  obtain ⟨x, out, xtb, safe, now, up, pix⟩ := y
  have rtb : r.tb = (coasting ago mean s).tb := by rw [out]; exact xtb
  rw [rtb]
  refine ⟨rfl, fun late => ?_, fun early => ?_, rfl, rfl, rfl, rfl, rfl, ?_, fun ch e open_ since => ?_⟩
  · simp only [coasting, aonFreeze_late late]
  · simp only [coasting, aonFreeze_early early]
  · rw [out]; simp only [decideCause, safe, now, up]
  · have chans : chanGet (coasting ago mean s) ch = chanGet s ch := by simp only [coasting, frozen, chanGet]
    rw [← chans] at open_
    have marked := markCoast_pix (s := coasting ago mean s) open_ since
    have same : chanGet r ch = chanGet x ch := by rw [out]; rfl
    rw [same, (pix ch).1, (pix ch).2, marked, ← chans]
    exact ⟨rfl, rfl⟩

/-! ### Tables with one canonical form -/

section
variable {α : Type} [DecidableEq α] {d : α}

omit [DecidableEq α] in
theorem tabGet_below {t : Tab α} {i : Nat} (low : ∀ p ∈ t, i < p.1) : tabGet d t i = d := by
  induction t with
  | nil => rfl
  | cons p t ih =>
    have here := low p (by simp)
    rw [tabGet, if_neg (by omega)]
    exact ih (fun q mem => low q (by simp [mem]))

/-- Two tables in canonical form that read alike are one. -/
theorem tabWf_ext {t u : Tab α} (ht : tabWf d t = true) (hu : tabWf d u = true) (same : ∀ i, tabGet d t i = tabGet d u i) :
    t = u := by
  induction t generalizing u with
  | nil =>
    cases u with
    | nil => rfl
    | cons q u =>
      obtain ⟨k, v⟩ := q
      have here := same k
      simp only [tabGet, if_true] at here
      exact absurd here.symm (tabWf_cons.mp hu).1
  | cons p t ih =>
    obtain ⟨k, v⟩ := p
    obtain ⟨hv, lt, wt⟩ := tabWf_cons.mp ht
    cases u with
    | nil =>
      have here := same k
      simp only [tabGet, if_true] at here
      exact absurd here hv
    | cons q u =>
      obtain ⟨l, w⟩ := q
      obtain ⟨hw, lu, wu⟩ := tabWf_cons.mp hu
      have keys : k = l := by
        rcases Nat.lt_trichotomy k l with less | eq | more
        · have here := same k
          simp only [tabGet, if_true, if_neg (show ¬ l = k by omega)] at here
          rw [tabGet_below (fun p mem => Nat.lt_trans less (lu p mem))] at here
          exact absurd here hv
        · exact eq
        · have here := same l
          simp only [tabGet, if_true, if_neg (show ¬ k = l by omega)] at here
          rw [tabGet_below (fun p mem => Nat.lt_trans more (lt p mem))] at here
          exact absurd here.symm hw
      subst keys
      have vals : v = w := by simpa [tabGet] using same k
      have rest : t = u := by
        refine ih wt wu fun i => ?_
        by_cases at_ : k = i
        · subst at_
          rw [tabGet_below lt, tabGet_below lu]
        · simpa only [tabGet, if_neg at_] using same i
      rw [vals, rest]

/-- The later of two writes to one entry of a table in canonical form stands alone. -/
theorem tabSet_tabSet {t : Tab α} (wf : tabWf d t = true) (i : Nat) (x y : α) : tabSet d (tabSet d t i x) i y = tabSet d t i y := by
  refine tabWf_ext (tabWf_tabSet (tabWf_tabSet wf i x) i y) (tabWf_tabSet wf i y) fun j => ?_
  by_cases at_ : j = i
  · subst at_; simp
  · rw [tabGet_tabSet_other d _ y at_, tabGet_tabSet_other d _ x at_, tabGet_tabSet_other d _ y at_]

end

/-! ### Half words -/

theorem halfOf_setHalf_same (w : Word) {h v : Nat} (small : v < 2 ^ 32) : halfOf (setHalf w h v) h = v := by
  have bound := w.isLt
  unfold halfOf setHalf
  split <;>
  · simp only [setFld, fld, BitVec.toNat_ofNat, Nat.shiftRight_eq_div_pow]
    omega

theorem halfOf_setHalf_other (w : Word) {g h v : Nat} (other : (h = 0 ∧ g ≠ 0) ∨ (h ≠ 0 ∧ g = 0)) :
    halfOf (setHalf w h v) g = halfOf w g := by
  have bound := w.isLt
  unfold halfOf setHalf
  rcases other with ⟨rfl, no⟩ | ⟨no, rfl⟩ <;>
  · simp only [no, if_true, if_false, setFld, fld, BitVec.toNat_ofNat, Nat.shiftRight_eq_div_pow]
    omega

/-! ### A write into a slot (R292, R293) -/

/-- A 32-bit read in the slots. -/
theorem regRead_slot {iface off : Nat} (slot : wfSlot off = true) (s : State) : regRead iface off s =
    if (off - 0x8000) % 512 = 8 then 0
    else halfOf (if (off - 0x8000) % 512 < 256 then tabGet 0 (mbxGet s ((off - 0x8000) / 512)).cmd ((off - 0x8000) % 512 / 8)
      else tabGet 0 (mbxGet s ((off - 0x8000) / 512)).resp ((off - 0x8000) % 512 % 256 / 8)) ((off - 0x8000) % 512 % 8 / 4) := by
  simp only [wfSlot, wfOffset, Bool.and_eq_true, decide_eq_true_eq] at slot
  obtain ⟨⟨-, low⟩, high⟩ := slot
  unfold regRead
  split
  case h_12 => exact if_pos ⟨low, high⟩
  all_goals omega

/-- The command slot of a mailbox after a write into its half word at byte i. -/
def slotPut (i v : Nat) (high : Option Nat) (b : Mbx) : Mbx :=
  let w := setHalf (tabGet 0 b.cmd (i / 8)) (i % 8 / 4) v
  { b with cmd := tabSet 0 b.cmd (i / 8) (match high with
    | some h => setHalf w 1 h
    | none => w) }

/-- A write that lands in half word i of the command slot of mailbox m. -/
theorem slotWrite_lands {iface off v m i : Nat} {high : Option Nat} {s : State} (box : (off - 0x8000) / 512 = m)
    (at_ : (off - 0x8000) % 512 = i) (own : mbxIface m = iface) (free : (mbxGet s m).st ≠ .posted) (command : i < 256) :
    slotWrite iface off v high s = mbxPut m (slotPut i v high (mbxGet s m)) s := by
  have takes : ¬ (mbxIface m ≠ iface ∨ (mbxGet s m).st = .posted ∨ 256 ≤ i) := by simp [own, free]; omega
  unfold slotWrite
  simp only [box, at_]
  exact if_neg takes

theorem slotWrite_ignored {iface off v : Nat} {high : Option Nat} {s : State}
    (h : mbxIface ((off - 0x8000) / 512) ≠ iface ∨ (mbxGet s ((off - 0x8000) / 512)).st = .posted ∨ 256 ≤ (off - 0x8000) % 512) :
    slotWrite iface off v high s = dbIgnore s := if_pos h

theorem slotPut_resp (i v : Nat) (high : Option Nat) (b : Mbx) : (slotPut i v high b).resp = b.resp := rfl

theorem slotPut_same {i v : Nat} (small : v < 2 ^ 32) (b : Mbx) :
    halfOf (tabGet 0 (slotPut i v none b).cmd (i / 8)) (i % 8 / 4) = v := by
  simp only [slotPut, tabGet_tabSet_same]
  exact halfOf_setHalf_same _ small

theorem slotPut_other {i j v : Nat} (b : Mbx) (aligned : i % 4 = 0 ∧ j % 4 = 0) (other : j ≠ i) :
    halfOf (tabGet 0 (slotPut i v none b).cmd (j / 8)) (j % 8 / 4) = halfOf (tabGet 0 b.cmd (j / 8)) (j % 8 / 4) := by
  simp only [slotPut]
  by_cases word : j / 8 = i / 8
  · rw [word, tabGet_tabSet_same]
    exact halfOf_setHalf_other _ (by omega)
  · rw [tabGet_tabSet_other 0 _ _ word]

/-- A 64-bit write is its two halves, the lower one first. -/
theorem slotPut_halves {i v h : Nat} (b : Mbx) (aligned : i % 8 = 0) (wf : tabWf 0 b.cmd = true) :
    slotPut (i + 4) h none (slotPut i v none b) = slotPut i v (some h) b := by
  have word : (i + 4) / 8 = i / 8 := by omega
  have half : (i + 4) % 8 / 4 = 1 := by omega
  simp only [slotPut, word, half, tabGet_tabSet_same, tabSet_tabSet wf]

theorem mbxPut_mbxPut {s : State} (wf : tabWf {} s.ctl.mbx = true) (m : Nat) (x y : Mbx) : mbxPut m y (mbxPut m x s) = mbxPut m y s := by
  simp only [mbxPut, tabSet_tabSet wf]

/-- One write into a command slot that takes it. -/
theorem slotWrite_reads {iface off v : Nat} {s : State} (slot : wfSlot off = true) (small : v < 2 ^ 32)
    (own : mbxIface ((off - 0x8000) / 512) = iface) (free : (mbxGet s ((off - 0x8000) / 512)).st ≠ .posted)
    (command : (off - 0x8000) % 512 < 256) :
    let t := slotWrite iface off v none s
    ((off - 0x8000) % 512 ≠ 8 → regRead iface off t = v) ∧ ((off - 0x8000) % 512 = 8 → regRead iface off t = 0) ∧
    (∀ o, wfSlot o = true → o ≠ off → regRead iface o t = regRead iface o s) := by
  intro t
  have lands : t = _ := slotWrite_lands rfl rfl own free command
  refine ⟨fun word => ?_, fun word => ?_, fun o slot' other => ?_⟩
  · rw [regRead_slot slot, if_neg word, if_pos command, lands, mbxGet_mbxPut_same]
    exact slotPut_same small _
  · rw [regRead_slot slot, if_pos word]
  · rw [regRead_slot slot', regRead_slot slot', lands]
    by_cases box : (o - 0x8000) / 512 = (off - 0x8000) / 512
    · rw [box, mbxGet_mbxPut_same]
      simp only [wfSlot, wfOffset, Bool.and_eq_true, decide_eq_true_eq] at slot slot'
      split
      · rfl
      split
      · exact slotPut_other _ (by omega) (by omega)
      · rw [slotPut_resp]
    · rw [mbxGet_mbxPut_other _ _ _ _ box]

/-! ### The words of an answer and the interrupts (R289, R291, R292) -/

theorem respWords_length {s : State} {m status seq : Nat} {ws : List Word} (fits : ws.length ≤ 30) :
    fld ((respWords s m status false false false seq ws).getD 0 0) 47 32 = 8 * ws.length := by
  have bound := (slotWord s m 0).isLt
  simp only [respWords, List.getD_cons_zero, setFld, fld, BitVec.toNat_ofNat, Nat.shiftRight_eq_div_pow]
  omega

/-- A condition raised in the copy of PCI Express sends vector 0 when the enabled part leaves zero. -/
theorem irqP_msix (bit : Nat) (s : State) : (irqP bit s).outq.outs = s.outq.outs ++ [.msix 0] ↔
    s.ctl.irqPendP &&& s.ctl.irqEnP = 0 ∧ s.ctl.irqEnP.testBit bit = true := by
  have leaves (was : s.ctl.irqPendP &&& s.ctl.irqEnP = 0) :
      (s.ctl.irqPendP ||| 2 ^ bit) &&& s.ctl.irqEnP ≠ 0 ↔ s.ctl.irqEnP.testBit bit = true := by
    rw [Nat.and_or_distrib_right, was, Nat.zero_or, Nat.and_comm, Nat.and_two_pow]
    cases s.ctl.irqEnP.testBit bit <;> simp
  by_cases was : s.ctl.irqPendP &&& s.ctl.irqEnP = 0
  · by_cases on : s.ctl.irqEnP.testBit bit = true
    · simp [irqP, was, (leaves was).mpr on, on]
    · have still : ¬ ((s.ctl.irqPendP ||| 2 ^ bit) &&& s.ctl.irqEnP ≠ 0) := fun h => on ((leaves was).mp h)
      simp [irqP, was, still, on]
  · simp [irqP, was]

/-- SPI_IRQ_N follows the enabled part of the SPI copy. -/
theorem spiIrqLow_irqS (bit : Nat) (s : State) :
    spiIrqLow (irqS bit s) = true ↔ spiIrqLow s = true ∨ s.ctl.irqEnS.testBit bit = true := by
  simp only [spiIrqLow, irqS, decide_eq_true_eq, Nat.and_or_distrib_right, Nat.two_pow_and, ne_eq, Nat.or_eq_zero_iff]
  cases s.ctl.irqEnS.testBit bit <;> simp

/-- The upper half of a word of the slots. -/
theorem slot_upper {off m i : Nat} (low : 0x8000 ≤ off) (aligned : off % 8 = 0)
    (box : (off - 0x8000) / 512 = m) (at_ : (off - 0x8000) % 512 = i) :
    (off + 4 - 0x8000) / 512 = m ∧ (off + 4 - 0x8000) % 512 = i + 4 ∧ i % 8 = 0 := by
  obtain ⟨a, rfl⟩ := Nat.exists_eq_add_of_le low
  rw [Nat.add_sub_cancel_left] at box at_
  rw [Nat.add_assoc, Nat.add_sub_cancel_left]
  omega

theorem slotWrite_halves {iface off m i v h : Nat} {s : State} (box : (off - 0x8000) / 512 = m) (at_ : (off - 0x8000) % 512 = i)
    (low : 0x8000 ≤ off) (aligned : off % 8 = 0) (own : mbxIface m = iface) (free : (mbxGet s m).st ≠ .posted) (command : i < 256)
    (table : tabWf {} s.ctl.mbx = true) (words : tabWf 0 (mbxGet s m).cmd = true) :
    slotWrite iface off v (some h) s = slotWrite iface (off + 4) h none (slotWrite iface off v none s) := by
  obtain ⟨box', at', even⟩ := slot_upper low aligned box at_
  rw [slotWrite_lands box at_ own free command, slotWrite_lands box at_ own free command,
    slotWrite_lands box' at' own (by rw [mbxGet_mbxPut_same]; exact free) (by omega), mbxGet_mbxPut_same, mbxPut_mbxPut table,
    slotPut_halves _ even words]

/-- Settles O54: the slot by its half words, the response by its words, the interrupts copy by copy. -/
theorem mailboxWindow : Obligations.MailboxWindow := by
  refine ⟨fun iface off v s slot small => ⟨fun own free command => ?_, fun high => slotWrite_ignored⟩, ?_,
    fun bit s => ⟨rfl, rfl, rfl, rfl, rfl, rfl, irqP_msix bit s, spiIrqLow_irqS bit s⟩⟩
  · obtain ⟨reads, reserved, others⟩ := slotWrite_reads slot small own free command
    refine ⟨reads, reserved, others, fun h aligned table words => ?_⟩
    simp only [wfSlot, wfOffset, Bool.and_eq_true, decide_eq_true_eq] at slot
    exact slotWrite_halves rfl rfl slot.1.2 aligned own free command table words
  · intro m status seq ws s box st sq fits t
    have face : (mbxIface m = 0 ↔ m < 16) ∧ (mbxIface m = 1 ↔ 16 ≤ m ∧ m < 24) := by
      unfold mbxIface; split <;> [skip; split] <;> omega
    obtain ⟨pci, spi⟩ := face
    have same : mbxGet t m = _ := mbxGet_respond_same m status false false seq ws s
    have ctl : t.ctl = _ := respond_ctl m status false false seq ws s
    rw [same, ctl]
    simp only [tabGet_slotOf, pci, spi]
    refine ⟨trivial, ?_, ?_, respWords_length fits, fun i lt => ?_, fun low => ?_, fun low high => ?_, fun low => ?_, fun k other => ?_⟩
    · rw [respWords_status]; omega
    · rw [respWords_seq]; omega
    · simp only [respWords]; rw [show 2 + i = i + 1 + 1 by omega, List.getD_cons_succ, List.getD_cons_succ]
    · simp [low, show ¬ 16 ≤ m by omega]
    · simp [low, high, show ¬ m < 16 by omega]
    · simp [show ¬ m < 16 by omega, show ¬ m < 24 by omega]
    · simp only [mbxGet, ctl]; exact tabGet_tabSet_other _ _ _ other

/-! ### Reset (R384, R408, R446) -/

theorem teamEn_resetDevice (s : State) : teamEn (resetDevice s) = false := by
  have word : cfgW (resetDevice s) .team 0 0
      = pack [(1, 0), (1, 0), (1, 0), (1, 1), (4, 0), (4, 1), (4, 0), (8, 0x14), (40, 0)] := rfl
  rw [teamEn, cfgF, word]; decide

theorem causesGone_resetDevice (s : State) : causesGone (resetDevice s) = resetDevice s := by
  have boot : bootGone (resetDevice s) = resetDevice s := rfl
  have merged : (resetDevice s).outq.merged = 0 := rfl
  have active : (resetDevice s).safe.active.testBit 29 = false := by show Nat.testBit 1 29 = false; decide
  simp only [causesGone, boot, mergeGone, merged, if_true, causeGone, active, Bool.false_eq_true, if_false]

/-- A block as reset leaves it is left alone by the end of a step. -/
theorem settle_resetDevice (s : State) : settle s (resetDevice s) = resetDevice s := by
  have todo : (resetDevice s).safe.todo = [] := rfl
  have coast : coastEnds s (resetDevice s) = resetDevice s := coastEnds_quiet s _ (fun h => absurd h Bool.false_ne_true)
  have team : teamState s (resetDevice s) = resetDevice s := by
    simp only [teamState, teamEn_resetDevice, Bool.false_and, Bool.false_eq_true, if_false]
  have mirror : mirrorGo (resetDevice s) = resetDevice s := mirrorGo_idle rfl (Nat.zero_le _)
  have held : nextMbx (resetDevice s) = none := rfl
  have answers : answerUnknown 32 (resetDevice s) = resetDevice s := by simp only [answerUnknown, held]
  have telem : telemetry (resetDevice s) = resetDevice s := rfl
  rw [settle, monCatch_quiet _ todo, coast, xing5_quiet _ todo, reactDue_quiet _ todo, causesGone_resetDevice, team, mirror,
    answers, telem]

/-! ### The test port (R446) -/

/-- Loading the data register changes that register and the free values alone. -/
theorem tapCapture_frame (s : State) : (tapCapture s).pwr = s.pwr ∧ (tapCapture s).em = s.em ∧ (tapCapture s).tap.cells = s.tap.cells ∧
    (tapCapture s).tap.ir = s.tap.ir ∧ (tapCapture s).tap.st = s.tap.st := by
  unfold tapCapture
  (repeat' split) <;> exact ⟨rfl, rfl, rfl, rfl, rfl⟩

/-- Any instruction but BYPASS and IDCODE takes effect only while RESET_N is low. -/
theorem tapActs_iff (s : State) : tapActs s = true ↔ s.tap.ir = .bypass ∨ s.tap.ir = .idcode ∨ s.pwr.rstLow = true := by
  unfold tapActs
  split <;> simp_all

theorem tapActs_other {s : State} (no : tapActs s = false) : tapUpdate s = s ∧ tapCapture s = s := by
  unfold tapUpdate tapCapture
  have silent : s.tap.ir ≠ .bypass ∧ s.tap.ir ≠ .idcode := by
    constructor <;> intro is <;> simp [tapActs, is] at no
  split
  · next is => exact absurd is silent.1
  · next is => exact absurd is silent.2
  · simp [no]

/-- While no boundary-scan instruction acts, every ball has the level that its unit gives it. -/
theorem ballLevel_unit {s : State} (ball : OutBall) (off : s.tap.ir = .bypass ∨ s.tap.ir = .idcode ∨ s.pwr.rstLow = false) :
    ballLevel s ball = unitLevel s ball := by
  have quiet : scanOn s = false := by
    unfold scanOn
    split
    · rfl
    · rfl
    · next code is =>
      rcases off with h | h | h
      · rw [is] at h; exact absurd h (by simp)
      · rw [is] at h; exact absurd h (by simp)
      · simp [tapActs, is, h]
  simp [ballLevel, scanLevel, quiet]

theorem tapDecode_ones {bits : List Bool} (ones : ∀ x ∈ bits, x = true) : tapDecode bits = .bypass := by
  have all : bits.all id = true := List.all_eq_true.mpr ones
  simp [tapDecode, all]

theorem shiftBit_cons (tdi x : Bool) (l : List Bool) : shiftBit tdi (x :: l) = (x, l ++ [tdi]) := rfl

/-- What the test port does with one instruction. -/
theorem testPort (i : TapInstr) (s : State) :
    let r := tapCapture (tapSelect i s)
    r.pwr = s.pwr ∧ r.em = s.em ∧ r.tap.cells = s.tap.cells ∧
    (tapActs r = true ↔ i = .bypass ∨ i = .idcode ∨ s.pwr.rstLow = true) ∧
    (tapActs r = false → tapUpdate r = r ∧ r.tap.dr = s.tap.dr) ∧
    ((i = .bypass ∨ i = .idcode ∨ s.pwr.rstLow = false) → ∀ ball, ballLevel r ball = unitLevel r ball) ∧
    (i = .bypass → r.tap.dr = [false]) ∧
    (i = .idcode → r.tap.dr = (List.range 32).map tapIdcode.testBit) := by
  intro r
  obtain ⟨pwr, em, cells, ir, -⟩ := tapCapture_frame (tapSelect i s)
  have select : r.tap.ir = i := ir
  have low : r.pwr.rstLow = s.pwr.rstLow := congrArg Pwr.rstLow pwr
  refine ⟨pwr, em, cells, by rw [tapActs_iff, select, low], fun no => ⟨(tapActs_other no).1, ?_⟩, fun off ball => ?_, ?_, ?_⟩
  · have silent : tapActs (tapSelect i s) = false := by
      rw [← no, Bool.eq_iff_iff, tapActs_iff, tapActs_iff, select, low]; rfl
    exact congrArg (fun x => x.tap.dr) (tapActs_other silent).2
  · exact ballLevel_unit ball (by rw [select, low]; exact off)
  · rintro rfl; rfl
  · rintro rfl; rfl

/-! ### The release of reset (R384, R422, R423) -/

/-- The release with the causes that it raises, the soft shutdown's before the hard trip's. -/
theorem releaseReset_todo (temp : Int) (s : State) : (releaseReset temp s).safe.todo =
    s.safe.todo ++ (if s.pwr.sdCause ≠ 0 then [{ at_ := s.now, up := s.up, bit := 22, obj := 0, detail := twos 16 s.pwr.sdTemp }] else [])
      ++ (if s.pwr.hardLatch then [{ at_ := s.now, up := s.up, bit := 23, obj := 0, detail := 0 }] else []) := by
  by_cases soft : s.pwr.sdCause ≠ 0 <;> cases hard : s.pwr.hardLatch <;> simp [releaseReset, decideCause, soft, hard]

theorem releaseReset_frame (temp : Int) (s : State) :
    let r := releaseReset temp s
    r.pwr.inReset = false ∧ r.safe.safe = s.safe.safe ∧ r.tb.sdPresent = true ∧
    r.ctl.bootStage = (if s.pwr.hardLatch || decide (s.pwr.sdCause ≠ 0) then 0x0F else 1) ∧
    r.pwr.lastShut = (if s.pwr.hardLatch then 2 else if s.pwr.sdCause ≠ 0 then 1 else 0) ∧
    r.pwr.hardLatch = (s.pwr.hardLatch && decide (1920 ≤ temp)) := by
  by_cases soft : s.pwr.sdCause ≠ 0 <;> cases hard : s.pwr.hardLatch <;> simp [releaseReset, decideCause, soft, hard]

/-- Settles O30: reset, the test port and the release. -/
theorem resetLeaves : Obligations.ResetLeaves := by
  refine ⟨fun s => ⟨rfl, rfl, rfl, rfl, rfl, rfl, rfl, rfl, rfl, rfl, rfl, rfl, rfl, rfl, rfl, rfl, fun k i => rfl, rfl, rfl, rfl,
    rfl, rfl, rfl, rfl, rfl, rfl, rfl, rfl, rfl, rfl, rfl, rfl, settle_resetDevice s⟩, ?_, ?_⟩
  · intro i s r
    obtain ⟨pwr, em, cells, acts, silent, balls, bypass, idcode⟩ := testPort i s
    refine ⟨pwr, em, cells, acts, silent, balls, fun tms tdi st ones => ?_, bypass, fun is => ?_, fun tdi x l dr => ?_⟩
    · simp only [tapClock, st, tapSelect, tapDecode_ones ones]
    · have dr : r.tap.dr = _ := idcode is
      rw [dr]
      exact ⟨by simp, fun k lt => by simp [lt]⟩
    · simp only [tapShift, dr, shiftBit_cons, and_self]
  · intro temp s r
    have todo : r.safe.todo = _ := releaseReset_todo temp s
    obtain ⟨out, safe, sd, stage, last, latch⟩ := releaseReset_frame temp s
    refine ⟨out, safe, sd, fun hard => ⟨?_, ?_, ?_, ?_⟩, fun noHard soft => ⟨?_, ?_, ?_⟩, fun noHard noSoft => ⟨?_, ?_, ?_⟩⟩
    · rw [stage, hard]; rfl
    · rw [last, if_pos hard]
    · rw [latch, hard]; rfl
    · rw [todo, hard]; simp
    · rw [stage, noHard]; simp [soft]
    · rw [last, noHard]; simp [soft]
    · rw [todo, noHard]; simp [soft]
    · rw [stage, noHard]; simp [noSoft]
    · rw [last, noHard]; simp [noSoft]
    · rw [todo, noHard]; simp [noSoft]

end Sys2Proof.Machine
end

section
/-! # Operands that no bus carries, and the order in which mailboxes are served -/

namespace Sys2Proof.Machine

/-! ### Commands that change nothing, whether the block is on or off -/

/-- A meaning that leaves the block as it finds it, held or shut down or not. -/
theorem doneOn_idle {dt : Nat} {f : State → State} {s b : State} (at_ : AtAny dt s b) (same : f b = b) :
    doneOn dt f s = .next (settle s b) := by
  by_cases on : s.on = true
  · exact doneOn_to ⟨on, at_⟩ same
  · rw [doneOn_off (by simpa using on)]
    exact congrArg (fun x => Host.Outcome.next (settle s x)) at_

theorem busWrite_illFormed {iface : Fin 2} {off : Nat} {data : BusData} (bad : wfOffset off = false ∨ wfWide iface off data.high = false)
    (b : State) : busWrite iface off data b = b := by
  rcases bad with h | h <;> simp [busWrite, h]

theorem execMbxSlotWrite_illFormed {iface : Fin 2} {off : Nat} {data : BusData}
    (bad : wfSlot off = false ∨ wfWide iface off data.high = false) (dt : Nat) (s : State) :
    execMbxSlotWrite dt iface off data s = execRegisterWrite dt iface off data s := by
  unfold execMbxSlotWrite execRegisterWrite
  rcases bad with h | h <;> simp [h]

theorem chunks_nil {α : Type} (n fuel : Nat) : chunks n fuel ([] : List α) = [] := by cases fuel <;> rfl

/-- Fewer than eight spare bytes fill no word. -/
theorem udpNorm_wf {d : UdpData} (wf : wfUdp d = true) : udpNorm d = d := by
  have few : d.tail.length / 8 = 0 := by simp only [wfUdp, decide_eq_true_eq] at wf; omega
  simp [udpNorm, few, chunks_nil]

theorem wfUdp_udpNorm (d : UdpData) : wfUdp (udpNorm d) = true := by
  simp only [wfUdp, udpNorm, List.length_drop, decide_eq_true_eq]
  omega

/-- Settles O6: each operand by the check that answers for it. -/
theorem illFormedCommandsDoNothing : Obligations.IllFormedCommandsDoNothing := by
  refine ⟨fun dt iface off v high s b at_ => ⟨fun bad => ?_, fun bad => ?_⟩, fun dt p f s b at_ bad => ⟨?_, fun ip udp d => ?_, fun head es => ?_⟩,
    fun dt rx head es s bad => ?_, fun dt rx ip udp d s => ⟨?_, wfUdp_udpNorm d⟩⟩
  · show execRegisterWrite dt iface off ⟨v, high⟩ s = _
    unfold execRegisterWrite
    exact doneOn_idle at_ (busWrite_illFormed bad b)
  · exact execMbxSlotWrite_illFormed bad dt s
  · show execEthFrameRx dt p f s = _
    unfold execEthFrameRx
    exact doneOn_idle at_ (by simp [bad])
  · show execUdpCtrlDatagram dt ⟨p, f⟩ ip udp d s = _
    unfold execUdpCtrlDatagram
    exact doneOn_idle at_ (by simp [bad])
  · show execStreamDatagram dt ⟨p, f⟩ head es s = _
    unfold execStreamDatagram
    exact doneOn_idle at_ (by simp [bad])
  · show execStreamDatagram dt rx head es s = execStreamDatagram dt rx head [] s
    simp [execStreamDatagram, bad]
  · show execUdpCtrlDatagram dt rx ip udp d s = execUdpCtrlDatagram dt rx ip udp (udpNorm d) s
    simp only [execUdpCtrlDatagram, udpNorm_wf (wfUdp_udpNorm d)]

/-! ### The order of service (R294) -/

/-- The mailbox served of those that may be: the first of SPI, unless it was rung before MBX_READY, else the first of all. -/
theorem firstMbx_cases {early free : List Nat} {m : Nat} (first : firstMbx early free = some m) :
    (free.find? (fun k => mbxIface k == 1) = some m ∧ m ∉ early) ∨
    (free.head? = some m ∧ ∀ k, free.find? (fun k => mbxIface k == 1) = some k → k ∈ early) := by
  unfold firstMbx at first
  split at first
  · next k spi =>
    split at first
    · next is => exact .inr ⟨first, fun j found => by rw [spi] at found; cases found; simpa using is⟩
    · next no => cases first; exact .inl ⟨spi, by simpa using no⟩
  · next none_ => exact .inr ⟨first, fun j found => by rw [none_] at found; exact absurd found (by simp)⟩

/-- It stands in the list with none of its own interface before it. -/
theorem firstMbx_split {early free : List Nat} {m : Nat} (first : firstMbx early free = some m) :
    ∃ l r, free = l ++ m :: r ∧ ∀ k ∈ l, mbxIface k ≠ mbxIface m := by
  rcases firstMbx_cases first with ⟨spi, -⟩ | ⟨head, -⟩
  · obtain ⟨is, l, r, split_, before⟩ := List.find?_eq_some_iff_append.mp spi
    refine ⟨l, r, split_, fun k mem same => ?_⟩
    have other := before k mem
    rw [same] at other
    simp only [beq_iff_eq] at is
    simp [is] at other
  · obtain ⟨r, rfl⟩ : ∃ r, free = m :: r := by
      cases free with
      | nil => exact absurd head (by simp)
      | cons a r => simp only [List.head?_cons, Option.some.injEq] at head; exact ⟨r, by rw [head]⟩
    exact ⟨[], r, rfl, by simp⟩

/-- The mailboxes that may be served. -/
def servable (s : State) : List Nat :=
  s.ctl.queue.filter (fun k => if s.ctl.fwFault then (cmdOf s k).opcode == 0x0B60 else !heldBack s k)

theorem nextMbx_eq {s : State} (on : s.on = true) (serves : s.ctl.fwFault = true ∨ s.ctl.mbxReady = true) :
    nextMbx s = firstMbx s.ctl.early (servable s) := by
  obtain ⟨reset, shut⟩ := on_iff.mp on
  unfold nextMbx servable
  cases fault : s.ctl.fwFault
  · have ready : s.ctl.mbxReady = true := by simpa [fault] using serves
    simp [reset, shut, ready]
  · simp [reset, shut]

theorem nextMbx_serves {s : State} {m : Nat} (next : nextMbx s = some m) :
    s.on = true ∧ (s.ctl.fwFault = true ∨ s.ctl.mbxReady = true) := by
  unfold nextMbx at next
  split at next
  · exact absurd next (by simp)
  next off =>
  have on : s.on = true := by simpa [State.on] using off
  split at next
  · next h => exact ⟨on, .inl h⟩
  split at next
  · next h => exact ⟨on, .inr h⟩
  · exact absurd next (by simp)

/-- Settles O13: by which of the two rules the mailbox is first. -/
theorem queueIsServedInOrder : Obligations.QueueIsServedInOrder := by
  constructor
  · intro s m next free spi
    obtain ⟨on, serves⟩ := nextMbx_serves next
    have first : firstMbx s.ctl.early free = some m := (nextMbx_eq on serves).symm.trans next
    obtain ⟨l, r, split_, before⟩ := firstMbx_split first
    refine ⟨by rw [split_]; simp, on, serves, ⟨l, r, split_, before⟩, fun k found late => ?_, fun k found early => ?_, fun none_ => ?_⟩
    · rcases firstMbx_cases first with ⟨own, -⟩ | ⟨-, all⟩
      · exact Option.some.inj (own.symm.trans found)
      · exact absurd (all k found) late
    · rcases firstMbx_cases first with ⟨own, late⟩ | ⟨head, -⟩
      · have same : m = k := Option.some.inj (own.symm.trans found)
        exact absurd (same ▸ early) late
      · exact head
    · rcases firstMbx_cases first with ⟨own, -⟩ | ⟨head, -⟩
      · exact absurd (own.symm.trans none_) (by simp)
      · exact head
  · intro s k on runs ready queued free
    have mem : k ∈ servable s := by simp [servable, queued, runs, free]
    rw [nextMbx_eq on (.inr ready), firstMbx]
    have some_ : (servable s).head?.isSome = true := by
      cases h : servable s with
      | nil => rw [h] at mem; exact absurd mem (by simp)
      | cons a l => rfl
    split
    · split
      · exact some_
      · rfl
    · exact some_

end Sys2Proof.Machine
end

section
/-! # Status commands, transactions and the commands of the safe state -/

namespace Sys2Proof.Machine

section
variable {dt m op : Nat} {row words clear} {s b : State}

/-- A status command without CLEAR, on a block that is on. -/
theorem doneOn_stat (at_ : At dt s b) (n : (cmdOf b m).clear = false) (w : 96 ≤ op % 256) (p : passes m op row b = true) :
    doneOn dt (runStat m op row words clear) s = .next (settle s (answered m b (words (cmdOf b m) (taken m b)) (taken m b))) :=
  doneOn_to at_ (runStat_ok p w n)

/-- The same with CLEAR. -/
theorem doneOn_statClear (at_ : At dt s b) (n : (cmdOf b m).clear = true) (w : 96 ≤ op % 256 ∧ op % 256 < 128)
    (p : passes m op row b = true) :
    doneOn dt (runStat m op row words clear) s =
      .next (settle s (acked m b (words (cmdOf b m) (taken m b)) (clear (cmdOf b m) (taken m b)))) :=
  doneOn_to at_ (runStat_clear p w n)
end

/-- CLEAR of CMP.GET_STATUS with its option read as a number. -/
theorem cmpClear_eq (opt first last : Nat) (s : State) : cmpClear (opt == 1) first last s =
    (upTo first last).foldl (fun a i => if opt = 1 then monUpd i (fun x => { x with assertCount := 0, unresolvedSeen := false }) a
      else rxUpd i (fun x => { x with blanked := 0, filteredOut := 0, high := 0 }) a) { s with cmpDeferred := 0 } := by
  simp only [cmpClear, beq_iff_eq]

/-- Settles O20: each status command is its row, its words and what it clears. -/
theorem statusCommands : Obligations.StatusCommands := by
  constructor
  · intro dt m s b at_ n c t r ans
    refine ⟨fun p => ?_, fun p => ?_, fun p => ?_, fun p => ?_, fun p => ?_, fun p => ?_, fun p => ?_, fun p => ?_, fun p => ?_,
      fun p => ?_, fun p => ?_, fun p => ?_, fun p => ?_, fun p => ?_, fun p => ?_, fun p => ?_, fun p => ?txn⟩
    case txn =>
      obtain ⟨next, op, head⟩ := passes_iff.mp p
      exact doneOn_to at_ (by rw [take_next next op]; simp only [head, ne_eq, not_true, if_false]; rfl)
    all_goals exact doneOn_stat at_ n (by decide) p
  · intro dt m s b at_ n c t r ans
    refine ⟨fun p => ?_, fun p => ?_, fun p => ?_, fun p => ?_, fun p => ?_, fun p => ?_, fun p => ?_, fun p => ?cmp, fun p => ?_,
      fun p => ?_, fun p opt => ?queue, fun p opt => ?channel, fun p => ⟨fun opt => ?queues, fun opt => ?ports, fun opt => ?classes⟩⟩
    case cmp =>
      have cleared : cmpClear (c.opt == 1) c.first c.last t = _ := cmpClear_eq c.opt c.first c.last t
      show execCmpGetStatus dt m s = _
      rw [execCmpGetStatus, doneOn_statClear at_ n (by decide) p, cleared]
    case queue | channel =>
      show execEchoGetStatus dt m s = _
      rw [execEchoGetStatus, doneOn_statClear at_ n (by decide) p]
      simp only [c] at opt
      simp only [opt]
      rfl
    case queues | ports | classes =>
      show execOutGetStatus dt m s = _
      rw [execOutGetStatus, doneOn_statClear at_ n (by decide) p]
      simp only [c] at opt
      simp only [opt]
      rfl
    all_goals exact doneOn_statClear at_ n (by decide) p

/-! ### Transactions (R306 to R309) -/

/-- A transaction found is open for its interface, and nothing else is. -/
theorem txnTimeout_found {dt id : Nat} {x : Txn} {s b : State} (at_ : At dt s b)
    (found : b.ctl.txns.find? (fun p => p.1 == id) = some (id, x)) :
    execTxnTimeout dt id s = .next (settle s
      (if x.st = .open then txnClose id .timedOut x (reachUp (x.lastAt + x.timeoutMs * fineMs) b) else b)) := by
  unfold execTxnTimeout
  exact doneOn_to at_ (by simp only [found])

/-- TXN_STATE stands in the top three bits of the status words. -/
theorem txnStatus_state {id : Nat} {x : Txn} {b : State} (found : b.ctl.txns.find? (fun p => p.1 == id) = some (id, x)) :
    fld ((txnStatus b id).getD 0 0) 63 61 = txnNum x.st % 8 := by
  simp only [txnStatus, found, List.getD_cons_zero, pack, List.foldl, fld, BitVec.toNat_ofNat, Nat.shiftRight_eq_div_pow]
  omega

/-- TXN.COMMIT on the block as the firmware sees it, its transaction open. -/
def commitHead (u : State) (c : Cmd) : Nat :=
  headStatus u c { len := lenIs c 2, txn := true, range := selPlain c false [0] && selOne c 65536 && onlyBits (c.w 1) [(1, 0)] }

section
variable {m : Nat} {b : State} {x : Txn} (n : nextMbx b = some m) (o : (cmdOf b m).opcode = 0x0D41)
  (found : txnFind (txnTouch (cmdOf b m).first (mbxIface m) (taken m b)) (cmdOf b m).first (mbxIface m) = some x)
include n o found

theorem runCommit_refused {h : Nat}
    (head : commitHead (txnTouch (cmdOf b m).first (mbxIface m) (taken m b)) (cmdOf b m) = h) (bad : h = stEpoch ∨ h = stRange) :
    runCommit m b = respond m h false false b.ctl.seq []
      (txnClose (cmdOf b m).first .refused x (txnTouch (cmdOf b m).first (mbxIface m) (taken m b))) := by
  unfold commitHead at head
  rw [runCommit, take_next n o]
  simp only [cmdOf_mbx, found, Option.isSome_some, head, bad, if_true]
  rfl

variable (head : commitHead (txnTouch (cmdOf b m).first (mbxIface m) (taken m b)) (cmdOf b m) = stOk) {st bd : Nat}
  (plan : commitPlan (txnTouch (cmdOf b m).first (mbxIface m) (taken m b)) (fld ((cmdOf b m).w 1) 1 0) x.staged = (st, bd))
include head plan

theorem runCommit_noRes (res : st = stNoRes) :
    runCommit m b = respond m stNoRes false false b.ctl.seq [] (txnTouch (cmdOf b m).first (mbxIface m) (taken m b)) := by
  unfold commitHead at head
  subst res
  rw [runCommit, take_next n o]
  simp only [cmdOf_mbx, found, Option.isSome_some, head, plan]
  rfl

theorem runCommit_inconsistent (bad : st ≠ stOk) (res : st ≠ stNoRes) :
    runCommit m b = respond m st false false b.ctl.seq []
      (txnClose (cmdOf b m).first .refused x (txnTouch (cmdOf b m).first (mbxIface m) (taken m b))) := by
  unfold commitHead at head
  rw [runCommit, take_next n o]
  simp only [cmdOf_mbx, found, Option.isSome_some, head, plan, bad, res, if_false, ne_eq, not_false_eq_true, if_true]
  rfl

theorem runCommit_accepted (ok : st = stOk) :
    let u := txnTouch (cmdOf b m).first (mbxIface m) (taken m b)
    let y := acceptSet (bd == 4 || bd == 0)
      { seq := b.ctl.seq, boundary := bd, isTxn := true, txn := (cmdOf b m).first, members := x.staged }
      (txnClose (cmdOf b m).first .committed x u)
    runCommit m b = respond m stOk (!isIdle u && decide (fld ((cmdOf b m).w 1) 1 0 < bd)) false b.ctl.seq
      [pack [(3, bd), (29, 0), (32, y.ctl.epoch)]] y := by
  unfold commitHead at head
  subst ok
  rw [runCommit, take_next n o]
  simp only [cmdOf_mbx, found, Option.isSome_some, head, plan]
  rfl
end

/-- Settles O21: each command of the group, and the timeout. -/
theorem transactions : Obligations.Transactions := by
  refine ⟨?opens, ?closes, ?refuses, ?timeout⟩
  case opens =>
    intro dt m s b at_ c t p
    obtain ⟨n, o, head⟩ := passes_iff.mp p
    have run : exec (.txnOpen dt m) s = .next (settle s (if 4 ≤ openTxns t then deny c stNoRes b.ctl.seq t
        else respond m stOk false false b.ctl.seq [BitVec.ofNat 64 t.ctl.nextTxn]
          (txnPut t.ctl.nextTxn { iface := mbxIface m, timeoutMs := (c.w 1).toNat, lastAt := t.up }
            { t with ctl := { t.ctl with nextTxn := t.ctl.nextTxn % 65535 + 1 } }))) := by
      show execTxnOpen dt m s = _
      unfold execTxnOpen
      refine doneOn_to at_ ?_
      rw [take_next n o]
      simp only [head, ne_eq, not_true, if_false]
      rfl
    refine ⟨fun room => ?_, fun full => ?_⟩
    · rw [run, if_neg (by omega)]; rfl
    · rw [run, if_pos full]; rfl
  case closes =>
    intro dt m x s b at_ c t u n
    constructor
    · intro o found head
      show execTxnAbort dt m s = _
      unfold execTxnAbort
      refine doneOn_to at_ ?_
      rw [take_next n o]
      simp only [cmdOf_mbx, found, Option.isSome_some, head, ne_eq, not_true, if_false, c, t] at found head ⊢
      rfl
    · intro o found idle head plan e v w
      show execTxnCommit dt m s = _
      unfold execTxnCommit
      refine doneOn_to at_ ?_
      rw [runCommit_accepted n o found head plan rfl]
      have is : (!isIdle u) = false := by simp [idle]
      simp only [u, c, t] at is
      simp only [is, Bool.false_and]
      rfl
  case refuses =>
    intro dt m x s b at_ c u ask head close no n o found
    have run : ∀ y, runCommit m b = y → exec (.txnCommit dt m) s = .next (settle s y) := by
      intro y e
      show execTxnCommit dt m s = _
      unfold execTxnCommit
      exact doneOn_to at_ e
    refine ⟨fun bad => run _ (runCommit_refused n o found rfl bad), fun ok => ⟨fun st bd plan bad res => ?_, fun bd plan => ?_, ?_⟩⟩
    · exact run _ (runCommit_inconsistent n o found ok plan bad res)
    · exact run _ (runCommit_noRes n o found ok plan rfl)
    · intro bd plan runs late e w v yes
      have accepted := run _ (runCommit_accepted n o found ok plan rfl)
      have is : (!isIdle u) = true := by simp [runs]
      simp only [u, c] at is
      simp only [is, Bool.true_and] at accepted
      have notLate : (bd == 4) = false := by simp [late]
      refine ⟨fun now => ?_, fun later => ?_⟩
      · subst now
        exact accepted
      · have waits : (bd == 0) = false := by simp [later]
        simp only [notLate, waits, Bool.or_false] at accepted
        exact accepted
  case timeout =>
    intro dt id x s b at_ found
    refine ⟨fun is => ?_, fun no => ?_, fun is => ?_, fun is => ?_⟩
    · exact (txnTimeout_found at_ found).trans (by rw [if_pos is]; rfl)
    · exact (txnTimeout_found at_ found).trans (by rw [if_neg no])
    · rw [txnStatus_state found, is]; rfl
    · rw [txnStatus_state found, is]; rfl

/-! ### The commands of the safe state (R347, R382, R394) -/

/-- In the safe state SAFE.CLEAR acts at the end of its 1 ns cycle (log entry 174). -/
theorem clearWait_safe {m : Nat} {b : State} (p : passes m 0x0B40 (rowNone 1 false anyCmd) b = true) (safe : b.safe.safe = true) :
    clearWait m b = dueNow (reachUp (b.up + 8192 - (b.now % 8192).toNat) b) := by
  obtain ⟨n, o, -⟩ := passes_iff.mp p
  unfold clearWait
  exact if_pos ⟨n, o, safe⟩

theorem clearWait_outside {m : Nat} {b : State} (out : b.safe.safe = false) : clearWait m b = b := by
  simp [clearWait, out]

/-- SAFE.CLEAR finds a state in which nothing stands against it. -/
def clearFree (u : State) : Bool := !(u.safe.safe && (!clearReady u || decidedNow u))

section
variable {dt : Nat} {m : Fin 32} {s b w : State} (at_ : At dt s b) (waits : clearWait m b = w)
  (p : passes m 0x0B40 (rowNone 1 false anyCmd) w = true)
include at_ waits p

theorem exec_safeClear_acked (free : clearFree (taken m w) = true) : exec (.safeClear dt m) s =
    .next (settle s (acked m w [] (if (taken m w).safe.safe then clearSafe (taken m w) else taken m w))) := by
  have dev : ((taken m w).safe.safe && (!clearReady (taken m w) || decidedNow (taken m w))) = false := by
    simpa only [clearFree, Bool.not_eq_true'] using free
  show execSafeClear dt m s = _
  unfold execSafeClear
  refine doneOn_to at_ ?_
  rw [waits, runAct_acked p (by simp only [dev, Bool.false_eq_true, if_false]) (by decide)]

theorem exec_safeClear_refused (stands : clearFree (taken m w) = false) :
    exec (.safeClear dt m) s = .next (settle s (respond m stSafe false false w.ctl.seq [] (taken m w))) := by
  have dev : ((taken m w).safe.safe && (!clearReady (taken m w) || decidedNow (taken m w))) = true := by
    simpa only [clearFree, Bool.not_eq_false'] using stands
  show execSafeClear dt m s = _
  unfold execSafeClear
  refine doneOn_to at_ ?_
  rw [waits, runAct_refused (st := stSafe) p (by simp only [dev, if_true]) (by decide)]
end

/-- Settles O22: SAFE.CLEAR in and outside the safe state, SAFE.ENTER and SAFE.CONFIRM_CFG. -/
theorem safeCommands : Obligations.SafeCommands := by
  intro dt m s b at_ c t
  refine ⟨fun p => ⟨?_, fun out => ?_⟩, fun p => ?_, fun p epoch digest => ?_, fun p differs => ?_⟩
  · intro safe w u pw
    have waits : clearWait m b = w := clearWait_safe p safe
    have inSafe : u.safe.safe = true := by
      rw [held_safe (taken_held m w), ← waits, held_safe (clearWait_held m b), safe]
    clear_value w
    refine ⟨fun active test new => ?_, fun stands => ?_⟩
    · have free : clearFree u = true := by simp [clearFree, clearReady, active, test, new]
      rw [exec_safeClear_acked at_ waits pw free, if_pos inSafe]
      rfl
    · have stays : clearFree u = false := by
        rcases stands with h | h | h <;> simp [clearFree, clearReady, inSafe, h]
      exact exec_safeClear_refused at_ waits pw stays
  · have outT : (taken m b).safe.safe = false := by rw [held_safe (taken_held m b), out]
    rw [exec_safeClear_acked at_ (clearWait_outside out) p (by simp [clearFree, outT]), if_neg (by simp [outT])]
  · show execSafeEnter dt m s = _
    unfold execSafeEnter
    exact doneOn_to at_ ((runAct_acked p rfl (by decide)).trans rfl)
  · show execSafeConfirmCfg dt m s = _
    unfold execSafeConfirmCfg
    exact doneOn_to at_ ((runAct_acked p (if_pos ⟨epoch, digest⟩) (by decide)).trans rfl)
  · have dev : ¬ (fld (c.w 1) 63 32 = t.ctl.pubEpoch ∧ fld (c.w 1) 31 0 = t.ctl.pubDigest) := fun h =>
      differs.elim (fun e => e h.1) (fun e => e h.2)
    show execSafeConfirmCfg dt m s = _
    unfold execSafeConfirmCfg
    exact doneOn_to at_ (runAct_refused p (if_neg dev) (by decide))

end Sys2Proof.Machine
end

section
/-! # The commands of the blocks: PB, EM, OUT, TEAM, ECHO, TB, WIN, CAL, SYS and PWR -/

namespace Sys2Proof.Machine

/-! ### The actions of the PB group (R113, R116, R117, R135, R336) -/

/-- A command that can be staged and names no transaction acts at once. -/
theorem runStage_acked {m op : Nat} {row : Cmd → Row} {ops eff} {b : State} (p : passes m op (fun _ c => row c) b = true)
    (plain : (cmdOf b m).txn = 0) : runStage m op row ops eff b =
      acked m b (eff (cmdOf b m) (taken m b)).1 (eff (cmdOf b m) (taken m b)).2 := by
  obtain ⟨n, o, head⟩ := passes_iff.mp p
  unfold runStage
  rw [take_next n o]
  simp only [head, plain, ne_eq, not_true_eq_false, if_false]
  rw [cmdOf_mbx]
  rfl

/-- What PB.STREAM_CLOSE writes: STREAM_SRC off, the other fields as they stand. -/
def closeOps (t : State) : List SetOp :=
  [.write (cfgKey .stream 0) [setFld ((cfgObj t .stream 0).getD 0 0) 27 26 0, (cfgObj t .stream 0).getD 1 0]]

/-- PB.STREAM_CLOSE submits its write as any set is submitted. -/
theorem runClose_submits {m : Nat} {b : State}
    (p : passes m 0x0344 (fun _ c => { len := lenIs c 1, range := selPlain c false [0] && selNone c }) b = true) :
    runClose m b = submitSet (cmdOf b m) b.ctl.seq false false (closeOps (taken m b)) (taken m b) := by
  obtain ⟨n, o, head⟩ := passes_iff.mp p
  unfold runClose
  rw [take_next n o]
  simp only [head, ne_eq, not_true_eq_false, if_false]
  rfl

/-- What PB.START asks of the device, the first that fails named (R295). -/
def startStatus (t : State) : Nat :=
  if t.safe.safe then stSafe else if t.tb.st != .locked then stNotLocked else if !isIdle t then stNotIdle
  else if t.pb.underrun then stUnderrun else stOk

section
variable {dt : Nat} {m : Fin 32} {s b : State} (at_ : At dt s b) (p : passes m 0x0342 (rowOne 1 4096 anyCmd) b = true)
include at_ p

theorem exec_pbStart_acked (ok : startStatus (taken m b) = stOk) :
    exec (.pbStart dt m) s = .next (settle s (acked m b [] (pbStart (cmdOf b m).first (taken m b)))) := by
  show execPbStart dt m s = _
  unfold execPbStart
  exact doneOn_to at_ ((runAct_acked p ok (by decide)).trans rfl)

theorem exec_pbStart_refused {st : Nat} (bad : startStatus (taken m b) = st) (w : st ≠ stOk) :
    exec (.pbStart dt m) s = .next (settle s (respond m st false false b.ctl.seq [] (taken m b))) := by
  show execPbStart dt m s = _
  unfold execPbStart
  exact doneOn_to at_ (runAct_refused p bad w)

end

/-- Settles O23: the actions of the PB group, command by command. -/
theorem playbookCommands : Obligations.PlaybookCommands := by
  intro dt m s b at_ c t
  refine ⟨fun p => ⟨fun idle locked out full => ?_, fun safe => ?_, fun out off => ?_, fun out locked runs => ?_,
      fun idle locked out dry => ?_⟩, fun p runs goes => ⟨fun now => ?_, fun later => ?_⟩, fun p still => ?_, fun p => ?_,
    fun p => ?_, fun p empty => ?_, fun p plain => ?_, ?_⟩
  · exact exec_pbStart_acked at_ p (by show startStatus t = _; simp [startStatus, out, locked, idle, full])
  · exact exec_pbStart_refused at_ p (by show startStatus t = _; simp [startStatus, safe]) (by decide)
  · exact exec_pbStart_refused at_ p (by show startStatus t = _; simp [startStatus, out, off]) (by decide)
  · exact exec_pbStart_refused at_ p (by show startStatus t = _; simp [startStatus, out, locked, runs]) (by decide)
  · exact exec_pbStart_refused at_ p (by show startStatus t = _; simp [startStatus, out, locked, idle, dry]) (by decide)
  · show execPbStop dt m s = _
    unfold execPbStop
    refine doneOn_to at_ ((runAct_acked p rfl (by decide)).trans ?_)
    show acked m b [] (if isIdle t || t.pb.st == .stopping then t else if c.opt = 0 then pbStopping t else _) = _
    simp [runs, goes, now, pbStopping, pbUpd]
  · show execPbStop dt m s = _
    unfold execPbStop
    refine doneOn_to at_ ((runAct_acked p rfl (by decide)).trans ?_)
    show acked m b [] (if isIdle t || t.pb.st == .stopping then t
      else if c.opt = 0 then pbStopping t else pbUpd (fun x => { x with stop := some c.opt }) t) = _
    simp [runs, goes, later, pbUpd]
  · show execPbStop dt m s = _
    unfold execPbStop
    refine doneOn_to at_ ((runAct_acked p rfl (by decide)).trans ?_)
    show acked m b [] (if isIdle t || t.pb.st == .stopping then t else _) = _
    simp [still]
  · show execPbClearUnderrun dt m s = _
    unfold execPbClearUnderrun
    exact doneOn_to at_ ((runAct_acked p rfl (by decide)).trans rfl)
  · show execPbJump dt m s = _
    unfold execPbJump
    exact doneOn_to at_ ((runAct_acked p rfl (by decide)).trans rfl)
  · show execPbJump dt m s = _
    unfold execPbJump
    exact doneOn_to at_ (runAct_range p (by
      show Row.mk _ (_ && cfgF t .jump c.first 0 13 12 != 0) _ _ _ = _
      simp [empty]))
  · show execPbArmJump dt m s = _
    unfold execPbArmJump
    exact doneOn_to at_ ((runStage_acked p plain).trans rfl)
  · intro ops e p taps
    have submitted : exec (.pbStreamClose dt m) s = .next (settle s (submitSet c b.ctl.seq false false ops t)) := by
      show execPbStreamClose dt m s = _
      unfold execPbStreamClose
      exact doneOn_to at_ (runClose_submits p)
    rw [submitted]
    refine ⟨fun idle fits => ?_, fun runs classI => ?_, fun bd runs boundary later room fits => ?_⟩
    · rw [submitSet_idle taps idle fits]
      rfl
    · rw [submitSet_notIdle taps runs classI]
      rfl
    · rw [submitSet_waits taps runs boundary later room fits]
      rfl

/-! ### The actions of the EM, OUT, TEAM and ECHO groups (R91, R225, R230, R279, R353) -/

section
variable {dt : Nat} {m : Fin 32} {s b : State} (at_ : At dt s b)
include at_

/-- What OUT.RESET_QUEUE asks of the queues it names, which the device has. -/
theorem exec_outResetQueue_refused {st : Nat}
    (p : passes m 0x0A40 (fun _ c => { len := lenIs c 1, range := selPlain c false [0] && selRange c 1048576 1048576 }) b = true)
    (bad : (if queueCount (taken m b) ≤ (cmdOf b m).last then stNoRes
      else if anyEnabled (cmdOf b m) (taken m b) then stIncons else stOk) = st) (w : st ≠ stOk) :
    exec (.outResetQueue dt m) s = .next (settle s (respond m st false false b.ctl.seq [] (taken m b))) := by
  show execOutResetQueue dt m s = _
  unfold execOutResetQueue
  exact doneOn_to at_ (runAct_refused p bad w)

/-- What TEAM.HUDDLE asks of the device and its team, the first that fails named (R279, R295). -/
def huddleStatus (t : State) : Nat :=
  if !isMaster t then stIncons else if !isIdle t || !teamIdle t then stNotIdle else if !t.team.formed then stIncons else stOk

variable (p : passes m 0x0940 (rowNone 3 false (fun c => onlyBits (c.w 1) [(35, 0)] && onlyBits (c.w 2) [(35, 0)])) b = true)
include p

theorem exec_teamHuddle_refused {st : Nat} (bad : huddleStatus (taken m b) = st) (w : st ≠ stOk) :
    exec (.teamHuddle dt m) s = .next (settle s (respond m st false false b.ctl.seq [] (taken m b))) := by
  show execTeamHuddle dt m s = _
  unfold execTeamHuddle
  exact doneOn_to at_ (runAct_refused p bad w)

end

/-- Settles O24: the five actions, each with its refusals. -/
theorem blockActions : Obligations.BlockActions := by
  intro dt m s b at_ c t
  refine ⟨fun p => ?_, fun p has => ⟨fun off => ?_, fun on => ?_⟩,
    fun p => ⟨fun other => ?_, fun master runs => ?_, fun master idle still apart => ?_⟩,
    fun p master formed idle still => ?_, fun p => ?_, fun p plain => ?_⟩
  · show execEmClearTrip dt m s = _
    unfold execEmClearTrip
    exact doneOn_to at_ ((runAct_acked p rfl (by decide)).trans rfl)
  · have ok : (if queueCount t ≤ c.last then stNoRes else if anyEnabled c t then stIncons else stOk) = stOk := by
      simp [Nat.not_le.mpr has, off]
    show execOutResetQueue dt m s = _
    unfold execOutResetQueue
    exact doneOn_to at_ ((runAct_acked p ok (by decide)).trans rfl)
  · have bad : (if queueCount t ≤ c.last then stNoRes else if anyEnabled c t then stIncons else stOk) = stIncons := by
      simp [Nat.not_le.mpr has, on]
    exact exec_outResetQueue_refused at_ p bad (by decide)
  · exact exec_teamHuddle_refused at_ p (by show huddleStatus t = _; simp [huddleStatus, other]) (by decide)
  · exact exec_teamHuddle_refused at_ p (by
      show huddleStatus t = _; rcases runs with h | h <;> simp [huddleStatus, master, h]) (by decide)
  · exact exec_teamHuddle_refused at_ p (by
      show huddleStatus t = _; simp [huddleStatus, master, idle, still, apart]) (by decide)
  · have ok : huddleStatus t = stOk := by simp [huddleStatus, master, idle, still, formed]
    show execTeamHuddle dt m s = _
    unfold execTeamHuddle
    exact doneOn_to at_ ((runAct_acked p ok (by decide)).trans rfl)
  · show execEchoFreezeBg dt m s = _
    unfold execEchoFreezeBg
    refine doneOn_to at_ ((runAct_acked p rfl (by decide)).trans ?_)
    simp only [freezeBg, beq_iff_eq]
    rfl
  · show execEchoSwapBank dt m s = _
    unfold execEchoSwapBank
    exact doneOn_to at_ ((runStage_acked p plain).trans rfl)

/-! ### The commands of the TB group (R42, R60, R298, R333) -/

/-- What TB.BAND_STORE asks of the device (R42, R295). -/
def storeStatus (t : State) : Nat := if t.tb.st != .locked then stNotLocked else if !isIdle t then stNotIdle else stOk

/-- What TB.REALIGN asks of the device (R60, R295). -/
def realignStatus (t : State) : Nat :=
  if t.tb.st != .locked then stNotLocked else if followMode t || isFollower t then stIncons else stOk

/-- What TB.BAND_HOP asks of the device and of the slot it names (R333). -/
def hopStatus (t : State) (c : Cmd) : Nat :=
  if !isIdle t then stNotIdle else if t.tb.slots.any (fun x => x.1 == c.first) then stOk else stNoRes

section
variable {dt : Nat} {m : Fin 32} {s b : State} {st : Nat} (at_ : At dt s b) (w : st ≠ stOk)
include at_ w

theorem exec_tbBandStore_refused (p : passes m 0x0141 (rowOne 1 8 anyCmd) b = true) (bad : storeStatus (taken m b) = st) :
    exec (.tbBandStore dt m) s = .next (settle s (respond m st false false b.ctl.seq [] (taken m b))) := by
  show execTbBandStore dt m s = _
  unfold execTbBandStore
  exact doneOn_to at_ (runAct_refused p bad w)

theorem exec_tbRealign_refused (p : passes m 0x0143 (rowNone 1 false anyCmd) b = true) (bad : realignStatus (taken m b) = st) :
    exec (.tbRealign dt m) s = .next (settle s (respond m st false false b.ctl.seq [] (taken m b))) := by
  show execTbRealign dt m s = _
  unfold execTbRealign
  exact doneOn_to at_ (runAct_refused p bad w)

theorem exec_tbBandHop_refused (p : passes m 0x0142 (rowOne 1 8 anyCmd) b = true)
    (bad : hopStatus (taken m b) (cmdOf b m) = st) (other : st ≠ stIncons) :
    exec (.tbBandHop dt m) s = .next (settle s (respond m st false false b.ctl.seq [] (taken m b))) := by
  show execTbBandHop dt m s = _
  unfold execTbBandHop
  exact doneOn_to at_ (runBg_refused p bad w (fun e => absurd e other))

end

/-- Settles O25: the four commands of the TB group, each with its refusals. -/
theorem timebaseCommands : Obligations.TimebaseCommands := by
  intro dt m s b at_ c t u
  refine ⟨fun off => ⟨fun p => ?_, fun p => ?_⟩, fun runs => ⟨fun p locked => ?_, fun p => ?_, fun p => ?_⟩,
    fun p idle never => ?_, fun p locked bound => ?_, fun p idle locked => ?_, fun p idle free => ?_,
    fun p idle kept free => ?_, fun p locked own single => ?_⟩
  · exact exec_tbBandStore_refused at_ (by decide) p (by show storeStatus t = _; simp [storeStatus, off])
  · exact exec_tbRealign_refused at_ (by decide) p (by show realignStatus t = _; simp [realignStatus, off])
  · exact exec_tbBandStore_refused at_ (by decide) p (by show storeStatus t = _; simp [storeStatus, locked, runs])
  · have bad : devIdle t c = stNotIdle := by simp [devIdle, runs]
    show execTbBandSearch dt m s = _
    unfold execTbBandSearch
    exact doneOn_to at_ (runBg_refused p bad (by decide) (fun e => absurd e (by decide)))
  · exact exec_tbBandHop_refused at_ (by decide) p (by show hopStatus t c = _; simp [hopStatus, runs]) (by decide)
  · exact exec_tbBandHop_refused at_ (by decide) p (by show hopStatus t c = _; simp only [hopStatus, idle, never]; rfl) (by decide)
  · exact exec_tbRealign_refused at_ (by decide) p (by
      show realignStatus t = _; rcases bound with h | h <;> simp [realignStatus, locked, h])
  · have ok : storeStatus t = stOk := by simp [storeStatus, locked, idle]
    show execTbBandStore dt m s = _
    unfold execTbBandStore
    exact doneOn_to at_ ((runAct_acked p ok (by decide)).trans rfl)
  · have ok : devIdle t c = stOk := by simp [devIdle, idle]
    show execTbBandSearch dt m s = _
    unfold execTbBandSearch
    exact doneOn_to at_ ((runBg_ok p ok free).trans rfl)
  · have ok : hopStatus t c = stOk := by simp only [hopStatus, idle, kept]; rfl
    show execTbBandHop dt m s = _
    unfold execTbBandHop
    exact doneOn_to at_ ((runBg_ok p ok free).trans rfl)
  · have ok : realignStatus t = stOk := by simp [realignStatus, locked, own, single]
    refine ⟨fun inPhase => ?_, ?_⟩
    · show execTbRealign dt m s = _
      unfold execTbRealign
      refine doneOn_to at_ ((runAct_acked p ok (by decide)).trans ?_)
      show acked m b (if t.tb.phaseOfs = 0 then ([], t) else _).1 (if t.tb.phaseOfs = 0 then ([], t) else _).2 = _
      rw [if_pos inPhase]
    · intro off x y
      show execTbRealign dt m s = _
      unfold execTbRealign
      refine doneOn_to at_ ((runAct_acked p ok (by decide)).trans ?_)
      show acked m b (if t.tb.phaseOfs = 0 then ([], t) else ([], if stepsNow y then realignStep y else y)).1
        (if t.tb.phaseOfs = 0 then ([], t) else ([], if stepsNow y then realignStep y else y)).2 = _
      rw [if_neg off]

/-! ### The outcome of an action and of a command that ends later -/

section
variable {dt m op st : Nat} {row : State → Cmd → Row} {dev : State → Cmd → Nat} {s b : State} (at_ : At dt s b)
  (p : passes m op row b = true)
include at_ p

theorem doneOn_act {eff : Cmd → State → List Word × State} (ok : dev (taken m b) (cmdOf b m) = stOk)
    (writes : (decide (1 ≤ op % 256) && decide (op % 256 < 64)
      || decide (64 ≤ op % 256) && decide (op % 256 < 96) && !readOps.contains op) = true) :
    doneOn dt (runAct m op row dev eff) s =
      .next (settle s (acked m b (eff (cmdOf b m) (taken m b)).1 (eff (cmdOf b m) (taken m b)).2)) :=
  doneOn_to at_ (runAct_acked p ok writes)

theorem doneOn_read {eff : Cmd → State → List Word × State} (ok : dev (taken m b) (cmdOf b m) = stOk)
    (reads : readOps.contains op = true) (action : 64 ≤ op % 256 ∧ op % 256 < 96) :
    doneOn dt (runAct m op row dev eff) s =
      .next (settle s (answered m b (eff (cmdOf b m) (taken m b)).1 (eff (cmdOf b m) (taken m b)).2)) :=
  doneOn_to at_ (runAct_read p ok reads action)

theorem doneOn_refused {eff : Cmd → State → List Word × State} (bad : dev (taken m b) (cmdOf b m) = st) (w : st ≠ stOk) :
    doneOn dt (runAct m op row dev eff) s = .next (settle s (respond m st false false b.ctl.seq [] (taken m b))) :=
  doneOn_to at_ (runAct_refused p bad w)

theorem doneOn_bg {start : Cmd → State → State} (ok : dev (taken m b) (cmdOf b m) = stOk)
    (free : bgBusy (taken m b) (groupOf op) = false) :
    doneOn dt (runBg m op row dev start) s = .next (settle s (start (cmdOf b m) (started m b))) :=
  doneOn_to at_ (runBg_ok p ok free)

theorem doneOn_bg_refused {start : Cmd → State → State} (bad : dev (taken m b) (cmdOf b m) = st) (w : st ≠ stOk)
    (g : st = stIncons → bgBusy (taken m b) (groupOf op) = false) :
    doneOn dt (runBg m op row dev start) s = .next (settle s (respond m st false false b.ctl.seq [] (taken m b))) :=
  doneOn_to at_ (runBg_refused p bad w g)

theorem doneOn_bg_busy {start : Cmd → State → State}
    (d : dev (taken m b) (cmdOf b m) = stOk ∨ dev (taken m b) (cmdOf b m) = stIncons)
    (busy : bgBusy (taken m b) (groupOf op) = true) :
    doneOn dt (runBg m op row dev start) s = .next (settle s (respond m stNoRes false false b.ctl.seq [] (taken m b))) :=
  doneOn_to at_ (runBg_busy p d busy)

end

/-! ### The recorder commands (R182, R183, R187, R188, R256) -/

/-- Arming leaves the tiles that a capture holds and arms the others (R187). -/
theorem armEff_local {c : Cmd} (local_ : c.opt = 0) (t : State) : armEff c t = (maskTiles c).foldl (fun a ti =>
    if (tileGet a ti).rcd.st = .filling ∨ (tileGet a ti).rcd.st = .reading then a else recArm ti a) t := by
  have arm : (fun (a : State) ti => match (tileGet a ti).rcd.st with
      | .filling => a
      | .reading => a
      | .disarmed => recArm ti a | .hold => recArm ti a | .armed => recArm ti a | .frozen => recArm ti a) =
      fun a ti => if (tileGet a ti).rcd.st = .filling ∨ (tileGet a ti).rcd.st = .reading then a else recArm ti a := by
    funext a ti
    cases (tileGet a ti).rcd.st <;> simp
  simp only [armEff, teamArm, local_, beq_iff_eq, Nat.zero_ne_one, if_false]
  exact congrArg (fun f => List.foldl f t (maskTiles c)) arm

theorem recDisarm_eq (ti : Nat) (a : State) : recDisarm ti a =
    if (tileGet a ti).rcd.st = .armed ∨ (tileGet a ti).rcd.st = .frozen then recUpd ti (fun r => { r with st := .disarmed }) a
    else a := by
  unfold recDisarm
  cases (tileGet a ti).rcd.st <;> simp

section
variable {t : State} {c : Cmd}

theorem armDev_calOut (out : (maskTiles c).any (fun ti => (tileGet t ti).calOut) = true) : armDev t c = stNoRes := by
  simp [armDev, out]

variable (inService : (maskTiles c).any (fun ti => (tileGet t ti).calOut) = false)
include inService

theorem armDev_team (team : c.opt = 1) :
    armDev t c = if isMaster t = true ∧ t.team.formed = true then stOk else stIncons := by
  rw [armDev, inService]
  cases isMaster t <;> cases t.team.formed <;> simp [teamArm, team]

theorem armDev_local (local_ : c.opt = 0) : armDev t c =
    if (teamEn t && (maskTiles c).any (fun ti => cfgF t .rcd ti 0 45 45 == 1)) = true then stIncons else stOk := by
  rw [armDev, inService]
  simp [teamArm, local_]

end

/-- A tile that WIN.READ_REC can neither read nor trigger. -/
theorem readDev_iff {t : State} {c : Cmd} : readDev t c = stOk ↔ queueTakes t c.first = true ∧ ∀ ti ∈ maskTiles c,
    (tileGet t ti).rcd.st ≠ .disarmed ∧ (tileGet t ti).rcd.st ≠ .hold ∧ (tileGet t ti).rcd.st ≠ .reading := by
  unfold readDev
  cases queueTakes t c.first <;> simp [and_assoc]

theorem readDev_cases (t : State) (c : Cmd) : readDev t c = stOk ∨ readDev t c = stNoRes := by
  unfold readDev
  split
  · exact .inr rfl
  · exact .inl rfl

/-- Settles O26: the four commands of the recorders. -/
theorem recorderCommands : Obligations.RecorderCommands := by
  intro dt m s b at_ c t
  refine ⟨fun p => ⟨fun out => ?_, fun inService => ⟨fun team apart => ?_, fun local_ free => ?_, fun local_ en names => ?_,
    fun team master formed => ?_⟩⟩, fun p => ?_, fun p => ?_, fun p cannot => ?_, fun p takes can => ?_⟩
  · exact doneOn_refused at_ p (armDev_calOut out) (by decide)
  · have bad : armDev t c = stIncons := by
      rw [armDev_team inService team]
      rcases apart with h | h <;> simp [h]
    exact doneOn_refused at_ p bad (by decide)
  · have ok : armDev t c = stOk := by simp [armDev_local inService local_, free]
    rw [← armEff_local local_]
    exact doneOn_act at_ p ok (by decide)
  · have bad : armDev t c = stIncons := by simp only [armDev_local inService local_, en, names]; rfl
    exact doneOn_refused at_ p bad (by decide)
  · have ok : armDev t c = stOk := by simp [armDev_team inService team, master, formed]
    have sends : armEff c t = out (.nolgil 1 [t.now + 100 * fineUs - teamOfs t])
        { t with team := { t.team with armAt := t.team.armAt ++ [t.now + 100 * fineUs] } } := by
      simp [armEff, teamArm, team]
    rw [← sends]
    exact doneOn_act at_ p ok (by decide)
  · simp only [← recDisarm_eq]
    exact doneOn_act at_ p rfl (by decide)
  · exact doneOn_act at_ p rfl (by decide)
  · have bad : readDev t c = stNoRes := by
      refine (readDev_cases t c).resolve_left (fun ok => ?_)
      obtain ⟨takes, can⟩ := readDev_iff.mp ok
      rcases cannot with h | ⟨ti, named, h⟩
      · exact absurd takes (by simp [h])
      · obtain ⟨notOff, notHeld, notRead⟩ := can ti named
        rcases h with h | h | h <;> contradiction
    exact doneOn_refused at_ p bad (by decide)
  · exact doneOn_act at_ p (readDev_iff.mpr ⟨takes, can⟩) (by decide)

/-! ### The calibration commands (R256, R257, R260, R261, R264, R298, R343; log entry 167) -/

/-- A tile of the mask that a capture holds. -/
def captureHeld (t : State) (mask : Nat) : Bool := (tilesOf mask).any (fun ti =>
  let r := (tileGet t ti).rcd.st
  r == .filling || r == .frozen || r == .reading)

section
variable {t : State} {mask : Nat}

theorem calDev_unlocked (off : t.tb.st ≠ .locked) : calDev t mask = stNotLocked := by simp [calDev, off]

variable (locked : t.tb.st = .locked)
include locked

theorem calDev_safe (safe : t.safe.safe = true) : calDev t mask = stSafe := by simp [calDev, locked, safe]

variable (out : t.safe.safe = false)
include out

theorem calDev_held (held : teamCalibrates t = true ∨ captureHeld t mask = true) : calDev t mask = stNoRes := by
  have either : (teamCalibrates t || captureHeld t mask) = true := by simpa using held
  simp only [calDev, locked, out]
  exact if_pos either

theorem calDev_free (still : teamCalibrates t = false) (idle : captureHeld t mask = false) : calDev t mask = stOk := by
  have neither : ¬ (teamCalibrates t || captureHeld t mask) = true := by simp [still, idle]
  simp only [calDev, locked, out]
  exact if_neg neither

end

/-- CAL.ZERO asks what CAL.LIN asks, and then EM's tile named and EM ARMED (R260). -/
theorem zeroDev_of_bad {t : State} {c : Cmd} {st : Nat} (bad : calDev t (c.w 1).toNat = st) (w : st ≠ stOk) :
    zeroDev t c = st := by
  subst bad
  simp only [zeroDev, w, ne_eq, not_false_eq_true, if_true]

theorem zeroDev_of_free {t : State} {c : Cmd} (ok : calDev t (c.w 1).toNat = stOk) : zeroDev t c =
    if (c.w 1).toNat.testBit (fld (c.w 2) 45 40) = true ∧ cfgF t .emCh (fld (c.w 2) 45 40) 1 37 36 = 2 then stOk
    else stIncons := by
  simp only [zeroDev, ok, ne_eq, not_true_eq_false, if_false]
  by_cases named : (c.w 1).toNat.testBit (fld (c.w 2) 45 40) = true <;>
    by_cases armed : cfgF t .emCh (fld (c.w 2) 45 40) 1 37 36 = 2 <;> simp [named, armed]

theorem restoreDev_eq (t : State) (c : Cmd) : restoreDev t c =
    if calRunning t = true ∨ (c.opt = 0 ∧ copyGood t t.pwr.mram.copy0 = false) ∨ (c.opt = 1 ∧ copyGood t t.pwr.mram.copy1 = false)
    then stNoRes
    else if (laterCfgs (restoreUser c.opt t)).all (userOk t t.fact.mac) = false then stRange else stOk := by
  unfold restoreDev
  cases calRunning t <;> simp

/-- Settles O27: the calibration commands, each refusal in its order. -/
theorem calibrationCommands : Obligations.CalibrationCommands := by
  intro dt m s b at_ c t u no busyTile free emOk
  have heldIs : busyTile = captureHeld t (c.w 1).toNat := rfl
  have devFree_ : free → calDev t (c.w 1).toNat = stOk := fun ⟨locked, out, still, idle⟩ =>
    calDev_free locked out still (heldIs ▸ idle)
  refine ⟨fun p => ⟨fun off => ?_, fun locked safe => ?_, fun locked out held => ?_, fun f busy => ?_, fun f idle => ?_⟩,
    fun p => ⟨fun off => ?_, fun locked safe => ?_, fun locked out held => ?_, fun f busy => ?_, fun f idle noEm => ?_,
      fun f idle em => ?_⟩, fun p zero => ?_, fun p bad => ?_,
    fun p => ⟨fun off => ?_, fun locked held => ?_, fun locked still idle apart => ?_, fun locked still idle master formed => ?_⟩,
    fun p => ⟨fun held => ?_, fun still idle => ?_⟩, ?_⟩
  · exact doneOn_bg_refused at_ p (calDev_unlocked off) (by decide) (fun e => absurd e (by decide))
  · exact doneOn_bg_refused at_ p (calDev_safe locked safe) (by decide) (fun e => absurd e (by decide))
  · exact doneOn_bg_refused at_ p (calDev_held locked out held) (by decide) (fun e => absurd e (by decide))
  · exact doneOn_bg_busy at_ p (.inl (devFree_ f)) busy
  · exact doneOn_bg at_ p (devFree_ f) idle
  · exact doneOn_bg_refused at_ p (zeroDev_of_bad (calDev_unlocked off) (by decide)) (by decide) (fun e => absurd e (by decide))
  · exact doneOn_bg_refused at_ p (zeroDev_of_bad (calDev_safe locked safe) (by decide)) (by decide)
      (fun e => absurd e (by decide))
  · exact doneOn_bg_refused at_ p (zeroDev_of_bad (calDev_held locked out held) (by decide)) (by decide)
      (fun e => absurd e (by decide))
  · have dev : zeroDev t c = stOk ∨ zeroDev t c = stIncons := by
      rw [zeroDev_of_free (devFree_ f)]
      exact ite_eq_or_eq ..
    exact doneOn_bg_busy at_ p dev busy
  · exact doneOn_bg_refused at_ p ((zeroDev_of_free (devFree_ f)).trans (if_neg noEm)) (by decide) (fun _ => idle)
  · exact doneOn_bg at_ p ((zeroDev_of_free (devFree_ f)).trans (if_pos em)) idle
  · show execCalLin dt m s = _
    unfold execCalLin
    exact doneOn_to at_ (runBg_range p (by
      show Row.mk _ (_ && c.w 1 != 0) _ _ _ = _
      simp [zero, rowNone]))
  · show execCalZero dt m s = _
    unfold execCalZero
    exact doneOn_to at_ (runBg_range p (by
      show Row.mk _ (_ && zeroRange c) _ _ _ = _
      simp [bad, rowNone]))
  · exact doneOn_bg_refused at_ p (show teamCalDev t = _ by simp [teamCalDev, off]) (by decide) (fun e => absurd e (by decide))
  · by_cases still : teamCalibrates t = true
    · exact doneOn_bg_refused at_ p (show teamCalDev t = _ by simp [teamCalDev, locked, still]) (by decide)
        (fun e => absurd e (by decide))
    · have busy : bgBusy t 8 = true := held.resolve_left still
      have dev : teamCalDev t = stOk ∨ teamCalDev t = stIncons := by
        rcases Bool.eq_false_or_eq_true (!isMaster t || !t.team.formed) with h | h <;> simp [teamCalDev, locked, still, h]
      exact doneOn_bg_busy at_ p dev busy
  · have bad : teamCalDev t = stIncons := by
      rcases apart with h | h <;> simp [teamCalDev, locked, still, h]
    exact doneOn_bg_refused at_ p bad (by decide) (fun _ => idle)
  · exact doneOn_bg at_ p (show teamCalDev t = _ by simp [teamCalDev, locked, still, master, formed]) idle
  · by_cases runs : calRunning t = true
    · exact doneOn_bg_refused at_ p (if_pos runs) (by decide) (fun e => absurd e (by decide))
    · exact doneOn_bg_busy at_ p (.inl (if_neg runs)) (held.resolve_left runs)
  · have ok : (if calRunning t = true then stNoRes else stOk) = stOk := by simp [still]
    exact doneOn_bg at_ p ok idle
  · intro p lost room
    have dev : restoreDev t c = if calRunning t = true ∨ lost then stNoRes else if room = false then stRange else stOk :=
      restoreDev_eq t c
    refine ⟨fun h => ?_, fun still good none => ?_, fun still good has => ?_⟩
    · exact doneOn_refused at_ p (dev.trans (if_pos h)) (by decide)
    · have stands : ¬ (calRunning t = true ∨ lost) := not_or.mpr ⟨by simp [still], good⟩
      exact doneOn_refused at_ p (dev.trans ((if_neg stands).trans (if_pos none))) (by decide)
    · have stands : ¬ (calRunning t = true ∨ lost) := not_or.mpr ⟨by simp [still], good⟩
      exact doneOn_act at_ p (dev.trans ((if_neg stands).trans (if_neg (by simp [has])))) (by decide)

/-! ### SYS.RESET, the boot slot, the images and the readouts (R298, R316, R328, R330, R331, R425 to R427) -/

/-- SYS.RESET that passes its checks (R330). -/
def sysReset (m : Nat) (b : State) : State :=
  let t := taken m b
  if !isIdle t then respond m stNotIdle false false b.ctl.seq [] t
  else if bgBusy t 0 then respond m stNoRes false false b.ctl.seq [] t
  else releaseReset t.pwr.tempNow (resetDevice t)

theorem exec_sysReset {dt : Nat} {m : Fin 32} {s b : State} (at_ : At dt s b)
    (p : passes m 0x0040 (rowNone 2 false (fun c => (c.w 1).toNat == 0x5A)) b = true) :
    exec (.sysReset dt m) s = .next (settle s (sysReset m b)) := by
  obtain ⟨n, o, head⟩ := passes_iff.mp p
  show execSysReset dt m s = _
  unfold execSysReset
  refine doneOn_to at_ ?_
  rw [take_next n o]
  simp only [head, ne_eq, not_true_eq_false, if_false, deny, cmdOf_mbx]
  rfl

theorem slotValid_marked {t : State} {c : Cmd} (marked : slotMarked t.pwr.mram c.first = true) : slotValid t c = stOk := by
  simp [slotValid, marked]

/-- The records of SYS.READ_JOURNAL (R328; log entry 50). -/
def readJournal (c : Cmd) (t : State) : List Word × State :=
  let es := (jHeld t).filter (fun e => decide (fld (c.w 1) 31 0 ≤ e.jseq))
  if es.isEmpty then
    ([pack [(32, Config.freeValue t.free), (32, Config.freeValue (t.free + 1))]], { t with free := t.free + 2 })
  else ([pack [(32, (es.headD {}).jseq), (32, (es.reverse.headD {}).jseq)]], emitJournal c.first es t)

theorem exec_sysReadJournal {dt : Nat} {m : Fin 32} {s b : State} (at_ : At dt s b)
    (p : passes m 0x0042 (rowQueue 2 (fun c => onlyBits (c.w 1) [(31, 0)])) b = true)
    (takes : queueTakes (taken m b) (cmdOf b m).first = true) :
    exec (.sysReadJournal dt m) s = .next (settle s (answered m b
      (readJournal (cmdOf b m) (taken m b)).1 (readJournal (cmdOf b m) (taken m b)).2)) :=
  doneOn_read at_ p (if_pos takes) (by decide) (by decide)

/-- Settles O28: SYS.RESET, the boot slot, the images and the readouts. -/
theorem resetImageAndReadout : Obligations.ResetImageAndReadout := by
  refine ⟨?_, ?_⟩
  · intro dt m s b at_ c t u
    refine ⟨fun p => ⟨fun idle busy => ?_, fun idle free => ?_, fun runs => ?_⟩, fun p free => ?_, fun p free fits => ?_,
      fun p free => ⟨fun slot marked => ?_, fun none => ?_, fun slot empty => ?_⟩, fun p free marked => ?_⟩
    · rw [exec_sysReset at_ p]
      show Host.Outcome.next (settle s (if !isIdle t then _ else if bgBusy t 0 then _ else _)) = _
      rw [idle, busy]
      rfl
    · rw [exec_sysReset at_ p]
      show Host.Outcome.next (settle s (if !isIdle t then _ else if bgBusy t 0 then _ else _)) = _
      rw [idle, free]
      rfl
    · rw [exec_sysReset at_ p]
      show Host.Outcome.next (settle s (if !isIdle t then _ else _)) = _
      rw [runs]
      rfl
    · exact doneOn_bg at_ p rfl free
    · have ok : (if imageBytes t ≤ 504 * 1024 then stOk else stNoRes) = stOk := if_pos fits
      exact doneOn_bg at_ p ok free
    · have sel : some c.first = if c.first < 4 then some c.first else none := (if_pos slot).symm
      rw [sel]
      exact doneOn_bg at_ p (slotValid_marked marked) free
    · have ok : slotValid t c = stOk := by simp [slotValid, none]
      have sel : Option.none = if c.first < 4 then some c.first else Option.none := (if_neg (by simp [none])).symm
      rw [sel]
      exact doneOn_bg at_ p ok free
    · have bad : slotValid t c = stNoRes := by
        have other : c.first ≠ 0xFFFFF := by omega
        simp [slotValid, empty, other]
      exact doneOn_bg_refused at_ p bad (by decide) (fun e => absurd e (by decide))
    · exact doneOn_bg at_ p (slotValid_marked marked) free
  · intro dt m s b at_ c t
    refine ⟨?_, fun p takes empty => ?_, fun p no => ?_, fun p no => ?_, fun p takes => ?_, fun p takes => ?_, fun p no => ?_⟩
    · intro p takes es some
      rw [exec_sysReadJournal at_ p takes]
      have reads : readJournal c t = ([pack [(32, (es.headD {}).jseq), (32, (es.reverse.headD {}).jseq)]], emitJournal c.first es t) :=
        if_neg (fun h => some (List.isEmpty_iff.mp h))
      rw [reads]
    · rw [exec_sysReadJournal at_ p takes]
      have reads : readJournal c t =
          ([pack [(32, Config.freeValue t.free), (32, Config.freeValue (t.free + 1))]], { t with free := t.free + 2 }) :=
        if_pos (List.isEmpty_iff.mpr empty)
      rw [reads]
    · exact doneOn_refused at_ p (show devQueue t c = stNoRes by simp [devQueue, no]) (by decide)
    · exact doneOn_refused at_ p (show devQueue t c = stNoRes by simp [devQueue, no]) (by decide)
    · exact doneOn_read at_ p (if_pos takes) (by decide) (by decide)
    · exact doneOn_read at_ p (if_pos takes) (by decide) (by decide)
    · exact doneOn_refused at_ p (show devQueue t c = stNoRes by simp [devQueue, no]) (by decide)

end Sys2Proof.Machine
end

section
/-! # Power, reset and boot (ch. 15) and the timebase (ch. 02) -/

namespace Sys2Proof.Machine

/-! ### Reset, power and the stages of the boot (R406 to R412, R421, R436) -/

@[simp] theorem logEvent_ctl (kind detail : Nat) (s : State) : (logEvent kind detail s).ctl = s.ctl := by
  have written : (logRec kind detail s).ctl = s.ctl := by
    unfold logRec
    split <;> rfl
  simp only [logEvent, logPages, apply_ite State.ctl, nvmPut_ctl, written, ite_self]

@[simp] theorem logShutdown_ctl (s : State) : (logShutdown s).ctl = s.ctl := by
  have ends (x : State) : (shutdownDone x).ctl = x.ctl := by
    unfold shutdownDone
    split <;> rfl
  unfold logShutdown drawFree
  simp only [apply_ite State.ctl, ends, logEvent_ctl, ite_self]

theorem journalDev_bootStage (kind : Nat) (s : State) : (journalDev kind s).ctl.bootStage = s.ctl.bootStage := by
  simp only [journalDev, journal, apply_ite State.ctl, apply_ite Ctl.bootStage, irqBoth_ctl, ite_self]

theorem journalDev_mbxReady (kind : Nat) (s : State) : (journalDev kind s).ctl.mbxReady = s.ctl.mbxReady := by
  simp only [journalDev, journal, apply_ite State.ctl, apply_ite Ctl.mbxReady, irqBoth_ctl, ite_self]

theorem bootReady_serves {s : State} (stage : s.ctl.bootStage = 8) (tested : s.safe.selftest = false)
    (runs : s.ctl.fwFault = false) : (bootReady s).ctl.bootStage = 0x10 ∧ (bootReady s).ctl.mbxReady = true := by
  unfold bootReady
  rw [if_pos (by simp [stage, tested, runs])]
  constructor
  · rw [logShutdown_ctl, logEvent_ctl, journalDev_bootStage]
  · rw [logShutdown_ctl, logEvent_ctl, journalDev_mbxReady]

/-- What holds the device in reset while it is there (R408, R421). -/
def heldReset (x : State) : Prop :=
  x.pwr.io33 = false ∨ x.pwr.coreOk = false ∨ x.pwr.rstLow = true ∨ x.pwr.tripHold = true

theorem startFree_free {x : State} (inReset : x.pwr.inReset = true) (free : ¬ heldReset x) (temp : Int) :
    startFree temp x = releaseReset temp x := by
  simp only [heldReset, not_or, Bool.not_eq_false, Bool.not_eq_true] at free
  obtain ⟨io, core, rst, trip⟩ := free
  simp [startFree, inReset, io, core, rst, trip]

theorem startFree_held {x : State} (held : x.pwr.inReset = false ∨ heldReset x) (temp : Int) : startFree temp x = x := by
  unfold startFree
  refine if_neg (fun h => ?_)
  simp only [Bool.and_eq_true, Bool.not_eq_true'] at h
  obtain ⟨⟨⟨⟨inReset, io⟩, core⟩, rst⟩, trip⟩ := h
  rcases held with h | h | h | h | h <;> simp_all

section
variable {dt : Nat} {s b : State}

theorem exec_powerOnDetect_up (at_ : AtAny dt s b) {mv io : Nat} (temp : BitVec 16) (core : 680 ≤ mv) (up : 2900 ≤ io) :
    exec (.powerOnDetect dt ⟨mv, temp⟩ io) s = .next (settle s (startFree temp.toInt (railsSeen mv io b))) := by
  show execPowerOnDetect dt ⟨mv, temp⟩ io s = _
  unfold execPowerOnDetect
  refine done_to at_ ?_
  show (if io < 2900 then _ else if mv < 680 then _ else _) = _
  rw [if_neg (by omega), if_neg (by omega)]

/-- The stages that BOOT_IMAGE_VERIFIED finds the boot ROM in. -/
theorem exec_bootImageVerified (at_ : At dt s b) (reads : [2, 3, 4, 0xE1].contains b.ctl.bootStage = true) (responds ok : Bool) :
    exec (.bootImageVerified dt responds ok) s = .next (settle s (
      if !responds then { b with ctl := { b.ctl with bootStage := 0xE3 } }
      else if ok then { b with ctl := { b.ctl with bootStage := 5 }, safe := { b.safe with wdAt := some b.up } }
      else if b.pwr.triedOther then { b with ctl := { b.ctl with bootStage := 0xE2 } }
      else { b with ctl := { b.ctl with bootStage := 0xE1 }, pwr := { b.pwr with triedOther := true, slot := 1 - b.pwr.slot } })) := by
  show execBootImageVerified dt responds ok s = _
  unfold execBootImageVerified
  exact doneOn_to at_ (if_pos reads)

theorem exec_factoryCheckDone (at_ : At dt s b) (stage : b.ctl.bootStage = 5) (runs : b.ctl.fwFault = false) (ms : List Misread) :
    exec (.factoryCheckDone dt ms) s = .next (settle s (
      match factBad b.fact ms with
      | some x => decideCause 24 x 0 { b with ctl := { b.ctl with bootStage := 6 }, cal := { b.cal with factoryOk := false } }
      | none => { b with ctl := { b.ctl with bootStage := 6 }, cal := { b.cal with factoryOk := true } })) := by
  show execFactoryCheckDone dt ms s = _
  unfold execFactoryCheckDone
  refine doneOn_to at_ ((if_pos (by simp [stage, runs])).trans ?_)
  cases factBad b.fact ms <;> rfl

theorem exec_lpddr5Trained (at_ : At dt s b) (stage : b.ctl.bootStage = 6) (runs : b.ctl.fwFault = false) (ok : Bool) (mib : Nat) :
    exec (.lpddr5Trained dt ok mib) s = .next (settle s { b with ctl := { b.ctl with
      bootStage := 7, lpFitted := ok, lpMib := if ok then mib % 65536 else 0 } }) := by
  show execLpddr5Trained dt ok mib s = _
  unfold execLpddr5Trained
  exact doneOn_to at_ (if_pos (by simp [stage, runs]))

end

/-- Settles O29: reset, power and the boot, event by event. -/
theorem resetPowerAndBoot : Obligations.ResetPowerAndBoot := by
  refine ⟨?_, ⟨?_, ?_⟩, fun s => ⟨fun stage tested runs => bootReady_serves stage tested runs, fun tests => ?_⟩⟩
  · intro dt s b at_ r core noIo
    refine ⟨fun low long => ?_, fun low short => ?_, ?_⟩
    · show execResetAssert dt low s = _
      unfold execResetAssert
      exact done_to at_ (if_pos long)
    · show execResetAssert dt low s = _
      unfold execResetAssert
      exact done_to at_ (if_neg (by omega))
    · intro held
      refine ⟨fun mv io temp => ⟨fun low => ?_, fun low up => ?_, fun ok up => ⟨fun inReset free => ?_, fun still => ?_⟩⟩,
        ?_, ?_, fun off => ?_, fun on => ?_⟩
      · show execPowerOnDetect dt ⟨mv, temp⟩ io s = _
        unfold execPowerOnDetect
        exact done_to at_ (if_pos low)
      · show execPowerOnDetect dt ⟨mv, temp⟩ io s = _
        unfold execPowerOnDetect
        exact done_to at_ ((if_neg (by omega)).trans (if_pos low))
      · rw [exec_powerOnDetect_up at_ temp ok up]
        exact congrArg (fun x => Host.Outcome.next (settle s x)) (startFree_free (x := core mv io) inReset free _)
      · rw [exec_powerOnDetect_up at_ temp ok up]
        exact congrArg (fun x => Host.Outcome.next (settle s x)) (startFree_held still _)
      · show execPowerLoss dt s = _
        unfold execPowerLoss
        exact done_to at_ rfl
      · show execThermalHardTrip dt s = _
        unfold execThermalHardTrip
        exact done_to at_ rfl
      · intro x
        have starts : exec (.powerUp dt) s = .next (settle s (startFree 0 x)) := by
          show execPowerUp dt s = _
          unfold execPowerUp
          exact done_to at_ (if_neg (by simp [off]))
        rw [starts]
        exact ⟨fun inReset free => by rw [startFree_free (x := x) inReset free], fun still => by rw [startFree_held still]⟩
      · show execPowerUp dt s = _
        unfold execPowerUp
        exact done_to at_ (if_pos on)
  · intro dt temp s b at_ x
    have starts : exec (.resetRelease dt temp) s = .next (settle s (startFree temp.toInt x)) := by
      show execResetRelease dt temp s = _
      unfold execResetRelease
      exact done_to at_ rfl
    rw [starts]
    refine ⟨fun inReset io core => ?_, fun still => ?_⟩
    · rw [startFree_free (x := x) inReset (by simp [heldReset, x, io, core])]
    · have held : x.pwr.inReset = false ∨ heldReset x := by
        rcases still with h | h | h <;> simp [heldReset, x, h]
      rw [startFree_held held]
  · intro dt s b at_ stage
    refine ⟨fun reads => ⟨?_, ?_, ?_, fun untried => ?_, fun tried => ?_⟩, fun at5 runs ms => ⟨fun good => ?_, fun x bad => ?_⟩,
      fun at6 runs => ⟨fun mib => ?_, fun mib => ?_⟩, fun at7 runs => ?_, fun other => ?_⟩
    · exact exec_bootImageVerified at_ reads false true
    · exact exec_bootImageVerified at_ reads false false
    · exact exec_bootImageVerified at_ reads true true
    · rw [exec_bootImageVerified at_ reads, untried]
      rfl
    · rw [exec_bootImageVerified at_ reads, tried]
      rfl
    · rw [exec_factoryCheckDone at_ at5 runs, good]
    · rw [exec_factoryCheckDone at_ at5 runs, bad]
      rfl
    · exact exec_lpddr5Trained at_ at6 runs true mib
    · exact exec_lpddr5Trained at_ at6 runs false mib
    · show execBootComplete dt s = _
      unfold execBootComplete
      exact doneOn_to at_ (if_pos (by simp [at7, runs]))
    · show execBootComplete dt s = _
      unfold execBootComplete
      exact doneOn_to at_ (if_neg (by simp [other]))
  · simp [bootReady, tests]

/-! ### Temperature, shutdown, droop and the throttle (R393, R413 to R420) -/

/-- What a temperature sample leaves of the sensor and of the shutdown it may begin. -/
def State.heat (s : State) :=
  (s.pwr.tempNow, s.pwr.tempMax, s.pwr.tempMin, s.pwr.samples, s.pwr.hot, s.pwr.shutAt, s.safe.missing)

@[simp] theorem ite_heat (c : Prop) [Decidable c] (x y : State) :
    (if c then x else y).heat = if c then x.heat else y.heat := apply_ite State.heat c x y

@[simp] theorem nvmKick_heat (s : State) : (nvmKick s).heat = s.heat := by
  unfold nvmKick
  split
  · rfl
  · split
    · rfl
    · split <;> rfl

@[simp] theorem nvmPut_heat (j : NvmJob) (s : State) : (nvmPut j s).heat = s.heat := nvmKick_heat _

@[simp] theorem logEvent_heat (kind detail : Nat) (s : State) : (logEvent kind detail s).heat = s.heat := by
  have written : (logRec kind detail s).heat = s.heat := by
    unfold logRec
    split <;> rfl
  simp only [logEvent, logPages, ite_heat, nvmPut_heat, written, ite_self]

@[simp] theorem setDiv_heat (d : Nat) (s : State) : (setDiv d s).heat = s.heat := by
  unfold setDiv
  split <;> rfl

@[simp] theorem sysAdjust_heat (s : State) : (sysAdjust s).heat = s.heat := setDiv_heat _ s

@[simp] theorem causeGone_heat (bit : Nat) (s : State) : (causeGone bit s).heat = s.heat := by
  unfold causeGone
  split <;> rfl

@[simp] theorem romKick_heat (s : State) : (romKick s).heat = s.heat := by
  unfold romKick
  split <;> rfl

@[simp] theorem calUpd_heat (f : Cal → Cal) (s : State) : (calUpd f s).heat = s.heat := rfl

@[simp] theorem calFeed_heat (s : State) : (calFeed s).heat = s.heat := by
  simp [calFeed, calSettle, calRest]

@[simp] theorem implausible_heat (s : State) : (implausible s).heat = s.heat := by
  unfold implausible
  split <;> rfl

@[simp] theorem bandDecide_heat (x : Int) (s : State) : (bandDecide x s).heat = s.heat := by
  simp only [bandDecide, ite_heat, calFeed_heat, sysAdjust_heat, logEvent_heat, calUpd_heat, ite_self]
  exact ite_id ..

@[simp] theorem coolSample_heat (s : State) : (coolSample s).heat = s.heat := by
  unfold coolSample
  split
  · rw [romKick_heat]
    show (ite _ _ _ : State).heat = _
    simp only [ite_heat, causeGone_heat, ite_self]
    rfl
  · rfl

/-- The sample as it stands once it is taken, the shutdown not yet decided. -/
def sampled (x : Int) (s : State) : State :=
  let same := decide (s.safe.sameVal = x) && decide (0 < s.safe.sameCnt)
  safeUpd (fun u => { u with missing := 0, sameVal := x, sameCnt := if same then u.sameCnt + 1 else 1
                             sameInf := if same then u.sameInf else [] })
    (pwrUpd (fun p => { p with hot := if 2000 ≤ x then p.hot + 1 else 0 }) (sampleTaken x s))

/-- The soft shutdown that a fourth hot sample begins (R417). -/
def hotShut (x : Int) (s : State) : State :=
  if 4 ≤ s.pwr.hot ∧ s.pwr.shutAt.isNone then
    decideCause 22 0 (twos 16 x) (pwrUpd (fun p => { p with shutAt := some s.up }) s)
  else s

theorem sampleTemp_heat (x : Int) (s : State) : ∃ y : State, y.heat = (sampled x s).heat ∧
    (sampleTemp (some x) s).heat = (hotShut x y).heat := by
  refine ⟨bandDecide x (if sampleWild x then implausible (sampled x s) else sampled x s), by simp, ?_⟩
  show (ite (x < 1760) (coolSample (hotShut x _)) (hotShut x _) : State).heat = _
  rw [ite_heat, coolSample_heat, ite_self]
  rfl

theorem sysAdjust_div (s : State) : (sysAdjust s).pwr.div = max s.pwr.div (sysDemand s) := by
  show (setDiv _ s).pwr.div = _
  unfold setDiv
  split
  next h => exact h.symm
  next h => rfl

/-- Settles O32: what a sample leaves, and the divider that a demand sets. -/
theorem sampleAndThrottleRules : Obligations.SampleAndThrottleRules := by
  refine ⟨fun x s => ?_, fun s => ⟨sysAdjust_div s, fun two => ?_, fun one => ?_⟩⟩
  · intro r
    obtain ⟨y, same, heat⟩ := sampleTemp_heat x s
    simp only [State.heat, sampled, safeUpd, pwrUpd, sampleTaken, Prod.mk.injEq] at same
    obtain ⟨now, most, least, samples, hot, _, missing⟩ := same
    have kept : r.pwr.tempNow = y.pwr.tempNow ∧ r.pwr.tempMax = y.pwr.tempMax ∧ r.pwr.tempMin = y.pwr.tempMin ∧
        r.pwr.samples = y.pwr.samples ∧ r.pwr.hot = y.pwr.hot ∧ r.safe.missing = y.safe.missing ∧
        (4 ≤ y.pwr.hot → r.pwr.shutAt.isSome = true) := by
      simp only [State.heat, Prod.mk.injEq] at heat
      obtain ⟨h1, h2, h3, h4, h5, h6, h7⟩ := heat
      rw [h1, h2, h3, h4, h5, h6, h7]
      unfold hotShut
      split
      next _ => exact ⟨rfl, rfl, rfl, rfl, rfl, rfl, fun _ => rfl⟩
      next cold =>
        refine ⟨rfl, rfl, rfl, rfl, rfl, rfl, fun four => ?_⟩
        simpa [four, Option.isNone_iff_eq_none, Option.isSome_iff_ne_none] using cold
    obtain ⟨k1, k2, k3, k4, k5, k6, k7⟩ := kept
    refine ⟨k1.trans now, k2.trans most, k3.trans least, k4.trans samples, k5.trans hot, k6.trans missing, fun above three => ?_⟩
    exact k7 (by rw [hot, if_pos above]; omega)
  · rw [sysAdjust_div, sysDemand, if_pos two]
    omega
  · rw [sysAdjust_div, sysDemand]
    split <;> omega

/-- What a droop sensor asserting leaves (R413). -/
def droopOn (deep : Nat) (d1 d2 : Bool) (b : State) : State :=
  let fresh := !b.pwr.droop1 && !b.pwr.droop2
  sysAdjust { b with pwr := { b.pwr with
    droop1 := d1, droop2 := d2, droopEvents := satAdd 32 b.pwr.droopEvents 1
    droopAt := if fresh then b.up else b.pwr.droopAt
    droopDeep := max (if fresh then 0 else b.pwr.droopDeep) deep } }

section
variable {dt : Nat} {s b : State} (at_ : At dt s b)
include at_

theorem exec_droopAssert (sensor : Fin 2) : exec (.droopAssert dt sensor) s = .next (settle s (
    if (if sensor.val = 0 then b.pwr.droop1 else b.pwr.droop2) then b
    else droopOn (sensor.val + 1) (b.pwr.droop1 || sensor.val == 0) (b.pwr.droop2 || sensor.val == 1) b)) := by
  show execDroopAssert dt sensor s = _
  unfold execDroopAssert
  exact doneOn_to at_ rfl

/-- What a droop sensor's release leaves; the end of the last one is logged (R413, R427). -/
theorem exec_droopDeassert (sensor : Fin 2) : exec (.droopDeassert dt sensor) s = .next (settle s (
    if !(if sensor.val = 0 then b.pwr.droop1 else b.pwr.droop2) then b
    else
      let x := sysAdjust { b with pwr := { b.pwr with
        droop1 := b.pwr.droop1 && sensor.val != 0, droop2 := b.pwr.droop2 && sensor.val != 1 } }
      if x.pwr.droop1 || x.pwr.droop2 then x
      else logEvent 4 (logDetail x.pwr.droopDeep (wholeUs (x.up - x.pwr.droopAt))) x)) := by
  show execDroopDeassert dt sensor s = _
  unfold execDroopDeassert
  exact doneOn_to at_ rfl

theorem exec_throttleStepUp : exec (.throttleStepUp dt) s = .next (settle s (
    let step := fun (since : Option Nat) (d : Nat) => match since with
      | some t => setDiv d (reachUp (t + 10 * fineUs) b)
      | none => b
    if b.pwr.div = 2 then step b.pwr.relAt 1 else if b.pwr.div = 1 then step b.pwr.relAt1 0 else b)) := by
  show execThrottleStepUp dt s = _
  unfold execThrottleStepUp
  exact doneOn_to at_ rfl

end

theorem sysAdjust_droop (s : State) : (sysAdjust s).pwr.droop1 = s.pwr.droop1 ∧ (sysAdjust s).pwr.droop2 = s.pwr.droop2 := by
  show (setDiv _ s).pwr.droop1 = _ ∧ (setDiv _ s).pwr.droop2 = _
  unfold setDiv
  split <;> exact ⟨rfl, rfl⟩

@[simp] theorem reachUp_ctl (a : Nat) (s : State) : (reachUp a s).ctl = s.ctl := by
  unfold reachUp
  split <;> rfl

/-- The block shut down (R418, R419). -/
theorem shutDown_eq {x : State} {c : Ctl} (same : x.ctl = c) : shutDown x =
    let y := calAbort 6 { x with ctl := { c with bg := [] } }
    { y with
      pwr := { y.pwr with shut := true, shutAt := none, sdCause := 1, sdTemp := y.pwr.tempNow, nvmQ := [] }
      tb := { y.tb with st := .reset, refPresent := false, spll := {}, npll := {}, lockAt := none }
      sw := { y.sw with ports := y.sw.ports.map (fun (p : Nat × Port) => (p.1, { p.2 with link := false })) }
      rx := y.rx.map (fun (p : Nat × Rx) => (p.1, { p.2 with out := false, active := false, settling := false }))
      mon := []
      ctl := { y.ctl with mbxReady := false } } := by
  subst same
  rfl

theorem exec_shutdownEnter {dt a : Nat} {s b : State} (at_ : At dt s b) (due : b.pwr.shutAt = some a)
    (still : b.pwr.nvmNow = none) : exec (.shutdownEnter dt) s =
      .next (settle s (shutDown (if alertLeft b then b else reachUp (a + 12 * fineUs) b))) := by
  show execShutdownEnter dt s = _
  unfold execShutdownEnter
  refine doneOn_to at_ ?_
  simp [due, still]

/-- A block that is on is on after the time before a command. -/
theorem At.runs {dt : Nat} {s b : State} (at_ : At dt s b) : b.pwr.inReset = false ∧ b.pwr.shut = false := by
  obtain ⟨on, rfl⟩ := at_
  rw [begin_inReset, begin_shut]
  exact on_iff.mp on

theorem exec_tempSample {dt : Nat} {s b : State} (at_ : At dt s b) (x : Option (BitVec 16)) :
    exec (.tempSample dt x) s = .next (settle s (sampleTemp (x.map BitVec.toInt) b)) := by
  obtain ⟨out, lit⟩ := at_.runs
  show execTempSample dt x s = _
  unfold execTempSample
  refine done_to at_.2 ?_
  simp only [out, lit, Bool.false_eq_true, if_false]

/-- Settles O31: temperature, shutdown, droop and the throttle, event by event. -/
theorem temperatureDroopAndThrottle : Obligations.TemperatureDroopAndThrottle := by
  refine ⟨fun dt s b at_ => ⟨?_, fun x => ?_, fun a due still => ?_⟩, fun dt x s b at_ out shut => ?_,
    fun dt s b at_ => ⟨fun off1 => ?_, fun off2 => ?_, fun on1 on2 => ⟨?_, ?_⟩, fun on1 off2 => ?_, fun on2 off1 => ?_,
      fun on1 => ?_, fun on2 => ?_, fun off1 => ?_, fun off2 => ?_, fun x slow rel => ?_, fun x slow rel => ?_⟩⟩
  · rw [exec_tempSample at_]
    rfl
  · rw [exec_tempSample at_]
    rfl
  · rw [exec_shutdownEnter at_ due still]
    cases alertLeft b
    · rw [if_neg Bool.false_ne_true, if_neg Bool.false_ne_true, shutDown_eq (reachUp_ctl _ b)]
    · rw [if_pos rfl, if_pos rfl, shutDown_eq rfl]
  · show execTempSample dt (some x) s = _
    unfold execTempSample
    exact done_to at_ ((if_neg (by simp [out])).trans (if_pos shut))
  · rw [exec_droopAssert at_ 0]
    cases on2 : b.pwr.droop2 <;> simp [off1, on2, droopOn]
  · rw [exec_droopAssert at_ 1]
    cases on1 : b.pwr.droop1 <;> simp [off2, on1, droopOn]
  · rw [exec_droopDeassert at_ 0]
    simp [on1, on2, sysAdjust_droop]
  · rw [exec_droopDeassert at_ 1]
    simp [on1, on2, sysAdjust_droop]
  · rw [exec_droopDeassert at_ 0]
    simp [on1, off2, sysAdjust_droop]
  · rw [exec_droopDeassert at_ 1]
    simp [on2, off1, sysAdjust_droop]
  · rw [exec_droopAssert at_ 0]
    simp [on1]
  · rw [exec_droopAssert at_ 1]
    simp [on2]
  · rw [exec_droopDeassert at_ 0]
    simp [off1]
  · rw [exec_droopDeassert at_ 1]
    simp [off2]
  · rw [exec_throttleStepUp at_]
    simp [slow, rel]
  · rw [exec_throttleStepUp at_]
    simp [slow, rel]

/-! ### MRAM page writes, the log and the journal mirror (R313, R314, R418, R424, R426, R427) -/

theorem reachUp_pwr (a : Nat) (s : State) :
    (reachUp a s).pwr = { s.pwr with throttleFine := (reachUp a s).pwr.throttleFine } := by
  unfold reachUp
  split
  · unfold passTime
    dsimp only
    split <;> rfl
  · rfl

section
variable (a : Nat) (s : State)

@[simp] theorem reachUp_logBuf : (reachUp a s).pwr.logBuf = s.pwr.logBuf := by rw [reachUp_pwr]
@[simp] theorem reachUp_nvmQ : (reachUp a s).pwr.nvmQ = s.pwr.nvmQ := by rw [reachUp_pwr]
@[simp] theorem reachUp_nvmNow : (reachUp a s).pwr.nvmNow = s.pwr.nvmNow := by rw [reachUp_pwr]
@[simp] theorem reachUp_logQueued : logQueued (reachUp a s) = logQueued s := by
  simp only [logQueued, reachUp_nvmQ, reachUp_nvmNow]
@[simp] theorem reachUp_mirrorBusy : mirrorBusy (reachUp a s) = mirrorBusy s := by
  simp only [mirrorBusy, reachUp_nvmQ, reachUp_nvmNow]
@[simp] theorem reachUp_mirrorable : mirrorable (reachUp a s) = mirrorable s := by simp only [mirrorable, reachUp_ctl]

end

theorem nvmPut_shut {s : State} (shuts : s.pwr.shutAt.isSome = true) (j : NvmJob) :
    (nvmPut j s).pwr.nvmNow = s.pwr.nvmNow := by
  unfold nvmPut nvmKick
  rw [if_pos shuts]

/-- LOG_FLUSH queues what the buffer holds beyond the log writes that wait, at most a page (R427). -/
theorem logFlushAll_eq {s : State} (some_ : logQueued s < s.pwr.logBuf.length) :
    logFlushAll s = nvmPut (.log (min (s.pwr.logBuf.length - logQueued s) 128)) s :=
  if_neg (by omega)

theorem mirrorTick_free {x : State} (free : mirrorBusy x = false) :
    mirrorTick x = (chunks 64 4096 (mirrorable x)).foldl (fun a p => nvmPut (.journal ((p.reverse.headD {}).jseq)) a)
      { x with ctl := { x.ctl with mirrorAt := x.up } } := by
  have still : mirrorBusy { x with ctl := { x.ctl with mirrorAt := x.up } } = false := free
  simp only [mirrorTick, free, mirrorStart, still, Bool.false_eq_true, if_false]
  rfl

theorem mirrorTick_busy {x : State} (busy : mirrorBusy x = true) :
    mirrorTick x = { x with ctl := { { x.ctl with mirrorAt := x.up } with mirrorWait := true } } :=
  if_pos busy

section
variable {dt : Nat} {s b : State} (at_ : At dt s b)
include at_

theorem exec_mramPageWriteDone (ok : Bool) :
    exec (.mramPageWriteDone dt ok) s = .next (settle s (pageWritten ok b)) := by
  show execMramPageWriteDone dt ok s = _
  unfold execMramPageWriteDone
  exact doneOn_to at_ rfl

theorem exec_logFlush {x : LogRec} (first : b.pwr.logBuf[logQueued b]? = some x) :
    exec (.logFlush dt) s = .next (settle s (logFlushAll (reachUp (x.up + 1000 * fineMs) b))) := by
  show execLogFlush dt s = _
  unfold execLogFlush
  refine doneOn_to at_ ?_
  simp only [first]

theorem exec_journalMirrorWrite :
    exec (.journalMirrorWrite dt) s = .next (settle s (mirrorTick (reachUp (b.ctl.mirrorAt + 40 * fineMs) b))) := by
  show execJournalMirrorWrite dt s = _
  unfold execJournalMirrorWrite
  exact doneOn_to at_ rfl

end

/-- JOURNAL_MIRROR_WRITE queues what has its digests, or waits for the write in progress (R313, R314). -/
theorem mirrorTick_outcomes {dt : Nat} {s b x : State}
    (ticks : exec (.journalMirrorWrite dt) s = .next (settle s (mirrorTick x))) (busyX : mirrorBusy x = mirrorBusy b)
    (entries : mirrorable x = mirrorable b) :
    let y := { x with ctl := { x.ctl with mirrorAt := x.up } }
    (mirrorBusy b = false → exec (.journalMirrorWrite dt) s = .next (settle s ((chunks 64 4096 (mirrorable b)).foldl
      (fun a p => nvmPut (.journal ((p.reverse.headD {}).jseq)) a) y))) ∧
    (mirrorBusy b = true →
      exec (.journalMirrorWrite dt) s = .next (settle s { y with ctl := { y.ctl with mirrorWait := true } })) := by
  refine ⟨fun free => ?_, fun busy => ?_⟩
  · rw [ticks, mirrorTick_free (busyX.trans free), entries]
  · rw [ticks, mirrorTick_busy (busyX.trans busy)]

/-- Settles O33: page writes, the log and the mirror. -/
theorem pageWrites : Obligations.PageWrites := by
  intro dt j s b at_
  refine ⟨fun now fresh => ?_, fun now again => ?_, fun now => ?_, fun x first => ?_, fun shuts => nvmPut_shut shuts j, ?_⟩
  · rw [exec_mramPageWriteDone at_]
    simp [pageWritten, now, fresh, pwrUpd]
  · rw [exec_mramPageWriteDone at_]
    simp [pageWritten, now, again, pwrUpd]
  · rw [exec_mramPageWriteDone at_]
    simp [pageWritten, now, pwrUpd]
  · have more : logQueued b < b.pwr.logBuf.length := (List.getElem?_eq_some_iff.mp first).1
    rw [exec_logFlush at_ first, logFlushAll_eq (by simpa using more), reachUp_logBuf, reachUp_logQueued]
  · exact mirrorTick_outcomes (exec_journalMirrorWrite at_) (reachUp_mirrorBusy ..) (reachUp_mirrorable ..)

/-! ### Lock windows, the reference and the band search (R37 to R42, R55, R58, R368, R453) -/

section
variable {dt : Nat} {s b : State} (at_ : At dt s b)
include at_

theorem exec_lockWindowEnd (pll : Fin 3) (count : Nat) (phase : Int) (loop : Nat) :
    exec (.lockWindowEnd dt pll count phase loop) s = .next (settle s (
      if pll.val = 0 then tpllWindow count phase loop b else sdWindow pll.val count b)) := by
  show execLockWindowEnd dt pll count phase loop s = _
  unfold execLockWindowEnd
  exact doneOn_to at_ rfl

theorem exec_refPresent : exec (.refPresent dt) s = .next (settle s (refHere b)) := by
  show execRefPresent dt s = _
  unfold execRefPresent
  exact doneOn_to at_ rfl

theorem exec_refLoss (ago mean : Nat) : exec (.refLoss dt ⟨ago, mean⟩) s = .next (settle s (refGone ago mean b)) := by
  show execRefLoss dt ⟨ago, mean⟩ s = _
  unfold execRefLoss
  exact doneOn_to at_ rfl

theorem exec_bandSearchDone (band : Fin 64) (loop : Nat) :
    exec (.bandSearchDone dt band loop) s = .next (settle s (searchDone band.val loop b)) := by
  show execBandSearchDone dt band loop s = _
  unfold execBandSearchDone
  exact doneOn_to at_ rfl

theorem exec_tpllReacqTimeout : exec (.tpllReacqTimeout dt) s = .next (settle s (reacqLate b)) := by
  show execTpllReacqTimeout dt s = _
  unfold execTpllReacqTimeout
  exact doneOn_to at_ rfl

end

section Window
/-! The windows of a loop with its reference present, case by case (R39, R40, R55, R58). -/

variable {count loop : Nat} {phase : Int} {s : State} (present : s.tb.refPresent = true)
include present

theorem tpllWindow_judging (judging : s.tb.judging = true) : tpllWindow count phase loop s =
    { s with tb := if within count (lockExp (refHz s)) 8
      then { s.tb with judging := false, refBad := false, st := .reacquire, good := 0 } else { s.tb with refBad := true } } := by
  refine ((if_neg (by simp [present])).trans (if_pos judging)).trans ?_
  split <;> rfl

variable (judged : s.tb.judging = false)
include judged

theorem tpllWindow_acquiring (acquiring : s.tb.st = .acquire ∨ s.tb.st = .reacquire) : tpllWindow count phase loop s =
    let moved := { s with tb := { s.tb with loopWord := loop % 1024 } }
    let n := if within count (lockExp (refHz s)) 2 then s.tb.good + 1 else 0
    if n = 4 then romLocked (declareLock phase moved) else { moved with tb := { moved.tb with good := n } } := by
  refine ((if_neg (by simp [present])).trans (if_neg (by simp [judged]))).trans ?_
  rcases acquiring with h | h <;> rw [h] <;> rfl

theorem tpllWindow_locks (acquiring : s.tb.st = .acquire ∨ s.tb.st = .reacquire)
    (close : within count (lockExp (refHz s)) 2 = true) (fourth : s.tb.good = 3) : tpllWindow count phase loop s =
      romLocked (declareLock phase { s with tb := { s.tb with loopWord := loop % 1024 } }) := by
  have four : (if within count (lockExp (refHz s)) 2 then s.tb.good + 1 else 0) = 4 := by rw [if_pos close, fourth]
  rw [tpllWindow_acquiring present judged acquiring]
  exact if_pos four

theorem tpllWindow_counts (acquiring : s.tb.st = .acquire ∨ s.tb.st = .reacquire)
    (close : within count (lockExp (refHz s)) 2 = true) (fewer : s.tb.good < 3) : tpllWindow count phase loop s =
      { s with tb := { s.tb with loopWord := loop % 1024, good := s.tb.good + 1 } } := by
  rw [tpllWindow_acquiring present judged acquiring]
  simp only [close, if_true]
  exact if_neg (by omega)

theorem tpllWindow_anew (acquiring : s.tb.st = .acquire ∨ s.tb.st = .reacquire)
    (off : within count (lockExp (refHz s)) 2 = false) : tpllWindow count phase loop s =
      { s with tb := { s.tb with loopWord := loop % 1024, good := 0 } } := by
  rw [tpllWindow_acquiring present judged acquiring]
  simp only [off, Bool.false_eq_true, if_false]
  exact if_neg (by decide)

theorem tpllWindow_locked (locked : s.tb.st = .locked ∨ s.tb.st = .slewing) : tpllWindow count phase loop s =
    if within count (lockExp (refHz s)) 8 then { s with tb := { s.tb with loopWord := loop % 1024 } }
    else goCoast 0 (some loop) s := by
  refine ((if_neg (by simp [present])).trans (if_neg (by simp [judged]))).trans ?_
  rcases locked with h | h <;> rw [h] <;> rfl

end Window

section Loss
/-! The loss of a reference that counts as present (R41, R55, R58). -/

variable {ago mean : Nat} {s : State} (present : s.tb.refPresent = true)
include present

theorem refGone_locked (locked : s.tb.st = .locked ∨ s.tb.st = .slewing) : refGone ago mean s =
    goCoast ago (some mean) { s with tb := { s.tb with refPresent := false, good := 0, judging := false } } := by
  refine (if_neg (by simp [present])).trans ?_
  rcases locked with h | h <;> rw [h] <;> rfl

theorem refGone_reacquiring (st : s.tb.st = .reacquire) (held : s.tb.holdAt.isSome = true) (judged : s.tb.judging = false) :
    refGone ago mean s =
      { s with tb := { s.tb with refPresent := false, good := 0, judging := false, st := .coast, loopWord := mean % 1024 } } := by
  refine (if_neg (by simp [present])).trans ?_
  rw [st]
  refine (if_pos held).trans ?_
  rw [judged]
  rfl

theorem refGone_searching (st : s.tb.st = .search) (unset : s.tb.epochSet = false) : refGone ago mean s =
    { s with tb := { s.tb with refPresent := false, good := 0, judging := false, st := .reset } } := by
  refine (if_neg (by simp [present])).trans ?_
  rw [st]
  exact (if_neg (by simp [unset])).trans rfl

theorem refGone_coasting (st : s.tb.st = .coast) : refGone ago mean s =
    { s with tb := { s.tb with refPresent := false, good := 0, judging := false } } := by
  refine (if_neg (by simp [present])).trans ?_
  rw [st]
  rfl

end Loss

/-- A window of the SPLL or the NPLL (R40, R453). -/
theorem pllWindow_lost {e count : Nat} {p : Pll} (locked : p.lock = true) (off : within count e 8 = false) :
    pllWindow e count p = ({ lock := false, good := 0, coast := true }, false) := by
  simp [pllWindow, locked, off]

theorem pllWindow_locks {e count : Nat} {p : Pll} (free : p.lock = false) (close : within count e 2 = true) (fourth : p.good = 3) :
    pllWindow e count p = ({ lock := true, good := 0, coast := false }, true) := by
  simp [pllWindow, free, close, fourth]

theorem sdWindow_spll {count : Nat} {s : State} (present : s.tb.sdPresent = true) : sdWindow 1 count s =
    let r := pllWindow 4915 count s.tb.spll
    if r.2 then romKick { s with tb := { s.tb with spll := r.1 } } else { s with tb := { s.tb with spll := r.1 } } :=
  (if_neg (by simp [present])).trans (if_pos rfl)

theorem sdWindow_npll {count : Nat} {s : State} (present : s.tb.sdPresent = true) : sdWindow 2 count s =
    nplLost { s with tb := { s.tb with npll := (pllWindow 8448 count s.tb.npll).1 } } :=
  (if_neg (by simp [present])).trans (if_neg (by decide))

theorem reacqLate_outcome {dt a : Nat} {s b x : State} (due : b.tb.reacqAt = some a) (is : reachUp (a + 5 * fineMs) b = x)
    (late : exec (.tpllReacqTimeout dt) s = .next (settle s (reacqLate b))) :
    exec (.tpllReacqTimeout dt) s = .next (settle s (bgDone 1 true stNotLocked [] { x with tb := { x.tb with
      reacqAt := none, st := .search, good := 0, judging := false, lockAt := none } })) := by
  have searches : reacqLate b = bgDone 1 true stNotLocked []
      (bandSearch (tbUpd (fun y => { y with reacqAt := none }) (reachUp (a + 5 * fineMs) b))) := by
    simp only [reacqLate, due]
  rw [late, searches, is]
  rfl

/-- Settles O34: lock windows, the reference and the band search. -/
theorem lockAndReference : Obligations.LockAndReference := by
  refine ⟨?_, ?_⟩
  · intro dt count phase loop s b at_ e tb word
    have first : exec (.lockWindowEnd dt 0 count phase loop) s = .next (settle s (tpllWindow count phase loop b)) :=
      exec_lockWindowEnd at_ 0 count phase loop
    have second : exec (.lockWindowEnd dt 1 count phase loop) s = .next (settle s (sdWindow 1 count b)) :=
      exec_lockWindowEnd at_ 1 count phase loop
    have third : exec (.lockWindowEnd dt 2 count phase loop) s = .next (settle s (sdWindow 2 count b)) :=
      exec_lockWindowEnd at_ 2 count phase loop
    refine ⟨fun present judging => ?_, fun present judged acquiring => ⟨fun close fourth => ?_, fun close fewer => ?_,
      fun off => ?_⟩, fun present judged locked => ⟨fun close => ?_, fun off => ?_⟩,
      fun present => ⟨fun locked off => ?_, fun free close fourth => ?_, fun free close fourth => ?_, fun locked off => ?_⟩⟩
    · rw [first, tpllWindow_judging present judging]
    · rw [first, tpllWindow_locks present judged acquiring close fourth]
    · rw [first, tpllWindow_counts present judged acquiring close fewer]
    · rw [first, tpllWindow_anew present judged acquiring off]
    · rw [first, tpllWindow_locked present judged locked, if_pos close]
    · rw [first, tpllWindow_locked present judged locked, if_neg (by rw [off]; decide)]
    · rw [second, sdWindow_spll present, pllWindow_lost locked off]
      rfl
    · rw [second, sdWindow_spll present, pllWindow_locks free close fourth]
      rfl
    · rw [third, sdWindow_npll present, pllWindow_locks free close fourth]
      rfl
    · rw [third, sdWindow_npll present, pllWindow_lost locked off]
      rfl
  · intro dt s b at_
    refine ⟨fun absent => ?_, ?_, fun band loop st present => ?_, fun a due => ?_⟩
    · have arrives : exec (.refPresent dt) s = _ := exec_refPresent at_
      rw [arrives]
      refine ⟨fun st => ?_, fun st => ?_, fun st => ?_⟩ <;> simp [refHere, absent, st, tbUpd]
    · intro ago mean present x
      have goes : exec (.refLoss dt ⟨ago, mean⟩) s = _ := exec_refLoss at_ ago mean
      rw [goes]
      exact ⟨fun locked => by rw [refGone_locked present locked],
        fun st held judged => by rw [refGone_reacquiring present st held judged],
        fun st unset => by rw [refGone_searching present st unset], fun st => by rw [refGone_coasting present st]⟩
    · rw [exec_bandSearchDone at_ band loop]
      simp [searchDone, st, present, tbUpd]
    · exact reacqLate_outcome due rfl (exec_tpllReacqTimeout at_)

/-! ### Frequency, AON calibration, holdover, phase jumps, spread and SD_REFCLK (R50, R53 to R55, R61, R63, R282, R283) -/

theorem reach_tb (a : Int) (s : State) : (reach a s).tb = s.tb := by
  unfold reach
  split <;> rfl

section
variable {dt : Nat} {s b : State} (at_ : At dt s b)
include at_

theorem exec_freqCheckWindow (count : Nat) : exec (.freqCheckWindow dt count) s = .next (settle s (
    if b.tb.refPresent then freqJudge count (freqExp (refHz b)) b else b)) := by
  show execFreqCheckWindow dt count s = _
  unfold execFreqCheckWindow
  exact doneOn_to at_ rfl

theorem exec_aonFreqCheck (count : Nat) : exec (.aonFreqCheck dt count) s = .next (settle s (
    if b.tb.refPresent then b else freqJudge count ((4 * b.tb.aonCal + 2048) / 4096) b)) := by
  show execAonFreqCheck dt count s = _
  unfold execAonFreqCheck
  exact doneOn_to at_ rfl

theorem exec_aonPeriod (p : Nat) : exec (.aonPeriod dt p) s = .next (settle s (aonPeriod p b)) := by
  show execAonPeriod dt p s = _
  unfold execAonPeriod
  exact doneOn_to at_ rfl

theorem exec_holdoverExpire {a : Nat} (runs : b.tb.holdAt = some a) (new : b.safe.active.testBit 15 = false) :
    exec (.holdoverExpire dt) s = .next (settle s (decideCause 15 0 0 (reachUp (a + holdoverUs b * fineUs) b))) := by
  show execHoldoverExpire dt s = _
  unfold execHoldoverExpire
  refine doneOn_to at_ ?_
  simp only [runs, new, Bool.false_eq_true, if_false]

theorem exec_tpllFreqHoldEnd {a : Nat} {x : State} (since : b.tb.lockAt = some a) (hold : b.tb.freqHold = true)
    (locked : tpllLocked b = true) (is : reachUp (a + 10 * fineMs) b = x) :
    exec (.tpllFreqHoldEnd dt) s = .next (settle s (causeGone 13 { x with tb := { x.tb with freqHold := false } })) := by
  show execTpllFreqHoldEnd dt s = _
  unfold execTpllFreqHoldEnd
  refine doneOn_to at_ ?_
  simp only [since, hold, locked, and_self, if_true, is]

theorem exec_phaseJump (d : Int) : exec (.phaseJump dt d) s = .next (settle s (phaseJump d b)) := by
  show execPhaseJump dt d s = _
  unfold execPhaseJump
  exact doneOn_to at_ rfl

theorem exec_ssTransfer {m : Nat} {x : State} (mode : cfgF b .mode 0 0 8 6 = m) (down : m = 1 ∨ m = 2)
    (set : b.tb.epochSet = true) (is : reach (b.tb.ssAt + (16 * fineUs : Nat)) b = x) :
    exec (.ssTransfer dt) s = .next (settle s { x with tb := { x.tb with
      ssAt := b.tb.ssAt + (16 * fineUs : Nat), ssTicks := b.tb.ssTicks + 40 * m } }) := by
  have same : x.tb = b.tb := is ▸ reach_tb ..
  show execSsTransfer dt s = _
  unfold execSsTransfer
  refine doneOn_to at_ ?_
  simp only [mode, set, down, and_self, if_true, is, tbUpd, same]

end

theorem freqJudge_set {s : State} (set : s.tb.epochSet = true) (count e : Nat) :
    freqJudge count e s = if ppmOver count e then freqFault (errPpm count e) s else s := by
  simp [freqJudge, set]

section Jump
/-! A jump of the reference phase (R61, R282, R283, R454). -/
variable {d : Int} {s : State}

theorem over50ps_small (small : 50 * 4096 ≥ d.natAbs * 500) : over50ps d = false := by
  simp only [over50ps, decide_eq_false_iff_not]
  omega

theorem over50ps_large (large : 50 * 4096 < d.natAbs * 500) : over50ps d = true := by
  simp only [over50ps, decide_eq_true_eq]
  omega

theorem phaseJump_none (none : tpllLocked s = false ∨
    (50 * 4096 ≥ d.natAbs * 500 ∧ (isFollower s = false ∨ announced d s = false))) : phaseJump d s = s := by
  rcases none with h | ⟨small, h | h⟩
  · simp [phaseJump, h]
  · simp [phaseJump, h, over50ps_small small]
  · simp [phaseJump, h, over50ps_small small]

/-- A follower captures a step at once where it may, and holds it with TEAM_STALE else (R252, R282, R283). -/
def stepHere (y : State) : State :=
  if stepsNow y || quietNow y then captureStep y
  else markTeamStale { y with team := { y.team with stepPending := true, staleAt := some (y.team.staleAt.getD y.now) } }

theorem followerJump_announced (is : announced d s = true) : followerJump d s = stepHere { s with
    tb := { s.tb with phaseOfs := wrapPhase (refHz s) (s.tb.phaseOfs + d)
                      stepWait := some (s.tb.stepWait.getD 0 + s.team.stepDelta.getD d) }
    team := { s.team with stepDelta := none } } := by
  simp only [followerJump, is, if_true]
  rfl

theorem followerJump_unannounced (is : announced d s = false) : followerJump d s =
    let u := decideCause 27 (devNum s) (twos 48 (watchDev s))
      { s with team := { s.team with unannounced := satAdd 16 s.team.unannounced 1 } }
    stepHere { u with
      tb := { u.tb with phaseOfs := wrapPhase (refHz s) (s.tb.phaseOfs + d), stepWait := some (s.tb.stepWait.getD 0 + d) }
      team := { u.team with stepDelta := none } } := by
  simp only [followerJump, is, Bool.false_eq_true, if_false]
  rfl

variable (locked : tpllLocked s = true)
include locked

theorem phaseJump_own (large : 50 * 4096 < d.natAbs * 500) (own : isFollower s = false) : phaseJump d s =
    let p := wrapPhase (refHz s) (s.tb.phaseOfs + d)
    { s with tb := { s.tb with
      phaseOfs := p, slewAt := if followMode s && s.tb.st != .slewing then s.now else s.tb.slewAt
      st := if !followMode s then s.tb.st else if p = 0 then .locked else .slewing } } := by
  simp only [phaseJump, locked, own, over50ps_large large, Bool.not_true, Bool.false_and, Bool.false_eq_true, if_false]
  rfl

theorem phaseJump_follower (follower : isFollower s = true) (taken : (over50ps d || announced d s) = true) :
    phaseJump d s = followerJump d s := by
  simp only [phaseJump, locked, follower, taken, Bool.not_true, Bool.false_eq_true, Bool.and_self, if_false, if_true]

end Jump

/-- Settles O36: frequency, AON, holdover, phase jumps, spread and SD_REFCLK. -/
theorem frequencyPhaseAndSpread : Obligations.FrequencyPhaseAndSpread := by
  refine ⟨?_, ?_⟩
  · intro dt s b at_
    refine ⟨fun count present set => ?_, fun count absent set => ?_, ?_, ?_, fun a runs new => ?_, fun a since hold locked => ?_⟩
    · have judged := exec_freqCheckWindow at_ count
      rw [if_pos present, freqJudge_set set] at judged
      exact ⟨fun off => by rw [judged, if_pos off], fun near => by rw [judged, if_neg (by simp [near])]⟩
    · have judged := exec_aonFreqCheck at_ count
      rw [if_neg (by simp [absent]), freqJudge_set set] at judged
      exact ⟨fun off => by rw [judged, if_pos off], fun near => by rw [judged, if_neg (by simp [near])]⟩
    · intro p locked l x
      have enters := exec_aonPeriod at_ p
      rw [enters]
      refine ⟨fun bad notThird => ?_, fun bad third => ?_, fun good fewer => ?_, fun good all => ?_⟩
      · simp [aonPeriod, locked, bad, notThird, tbUpd, x, l]
      · simp [aonPeriod, locked, bad, third, tbUpd, decideCause, x, l]
      · have room : min 64 (b.tb.aonGood + 1) = b.tb.aonGood + 1 := by omega
        simp [aonPeriod, locked, good, Nat.not_le.mpr fewer, room, tbUpd, x, l]
      · simp [aonPeriod, locked, good, all, tbUpd, x, l]
    · show execAonEdgeTimeout dt s = _
      unfold execAonEdgeTimeout
      exact doneOn_to at_ rfl
    · exact exec_holdoverExpire at_ runs new
    · exact exec_tpllFreqHoldEnd at_ since hold locked rfl
  · intro dt s b at_
    refine ⟨fun d none => ?_, fun d locked large own => ?_, fun d x locked follower notice near => ?_,
      fun d locked follower fresh large => ?_, fun m mode down set => ?_, ?_, ?_⟩
    · rw [exec_phaseJump at_ d, phaseJump_none none]
    · have jumps := exec_phaseJump at_ d
      rw [phaseJump_own locked large own] at jumps
      intro p
      refine ⟨fun other => ?_, fun follows => ?_⟩
      · rw [jumps]
        simp [other, p]
      · rw [jumps]
        cases b.tb.st <;> simp [follows, p]
    · have is : announced d b = true := by simp [announced, notice, over50ps_small near]
      rw [exec_phaseJump at_ d, phaseJump_follower locked follower (by simp [is]), followerJump_announced is, notice]
      rfl
    · rw [exec_phaseJump at_ d, phaseJump_follower locked follower (by simp [over50ps_large large]), followerJump_unannounced fresh]
      rfl
    · exact exec_ssTransfer at_ mode down set rfl
    · show execSdRefclkLoss dt s = _
      unfold execSdRefclkLoss
      exact doneOn_to at_ rfl
    · show execSdRefclkReturn dt s = _
      unfold execSdRefclkReturn
      exact doneOn_to at_ rfl

end Sys2Proof.Machine
end

section
/-! # The team (ch. 10) and calibration (ch. 09) -/

namespace Sys2Proof.Machine

/-! ### Huddle, quiet intervals, team messages, hops and the skew watch (R45, R47, R187, R261, R270 to R284) -/

section
variable {dt : Nat} {s b : State} (at_ : At dt s b)
include at_

theorem exec_huddleIn : exec (.huddleIn dt) s = .next (settle s (huddleEdge b)) := by
  show execHuddleIn dt s = _
  unfold execHuddleIn
  exact doneOn_to at_ rfl

theorem exec_huddleOutDrive : exec (.huddleOutDrive dt) s = .next (settle s (huddleDrive b)) := by
  show execHuddleOutDrive dt s = _
  unfold execHuddleOutDrive
  exact doneOn_to at_ rfl

theorem exec_quietIntervalStart (frame : Bool) :
    exec (.quietIntervalStart dt frame) s = .next (settle s (quietStart frame b)) := by
  show execQuietIntervalStart dt frame s = _
  unfold execQuietIntervalStart
  exact doneOn_to at_ rfl

theorem exec_nolgilForm (up : Bool) (dev size id : Nat) : exec (.nolgilForm dt up dev ⟨size, id⟩) s =
    .next (settle s (nolgilIn up 0 [(dev : Int), size, id] (formMsg up dev size) b)) := by
  show execNolgilForm dt up dev ⟨size, id⟩ s = _
  unfold execNolgilForm
  exact doneOn_to at_ rfl

theorem exec_nolgilEpoch (v : Nat) : exec (.nolgilEpoch dt v) s =
    .next (settle s (nolgilIn true 3 [(v : Int)] (fun x => if isFollower x then stageEpoch v x else x) b)) := by
  show execNolgilEpoch dt v s = _
  unfold execNolgilEpoch
  exact doneOn_to at_ rfl

theorem exec_nolgilStepNotice (d : Int) : exec (.nolgilStepNotice dt d) s = .next (settle s (nolgilIn true 4 [d]
    (fun x => if isFollower x then teamUpd (fun t => { t with stepDelta := some d }) x else x) b)) := by
  show execNolgilStepNotice dt d s = _
  unfold execNolgilStepNotice
  exact doneOn_to at_ rfl

/-- The offset and the time of a team calibration, as the member they reach keeps them (R261). -/
def calApplyMsg (tt : Int) (ofs : List Int) (x : State) : State :=
  match isFollower x, ofs[devNum x - 1]? with
  | true, some o => teamUpd (fun t => { t with calApply := some (o, tt + teamOfs x) }) x
  | _, _ => x

theorem exec_nolgilCalApply (tt : Int) (ofs : List Int) : exec (.nolgilCalApply dt tt ofs) s =
    .next (settle s (nolgilIn true 5 (tt :: ofs) (calApplyMsg tt ofs) b)) := by
  show execNolgilCalApply dt tt ofs s = _
  unfold execNolgilCalApply
  exact doneOn_to at_ rfl

theorem exec_nolgilArm (tt : Int) : exec (.nolgilArm dt tt) s = .next (settle s (nolgilIn true 1 [tt]
    (fun x => { x with team := { x.team with armAt := x.team.armAt ++ [tt + teamOfs x] } }) b)) := by
  show execNolgilArm dt tt s = _
  unfold execNolgilArm
  exact doneOn_to at_ rfl

theorem exec_nolgilTrigger (dev : Fin 16) (tt : Int) (other : dev.val ≠ devNum b) : exec (.nolgilTrigger dt dev tt) s =
    .next (settle s (nolgilIn (sideOf b dev) 2 [dev.val, tt]
      (fun x => { x with team := { x.team with trigs := x.team.trigs ++ [(dev.val, tt)] } }) b)) := by
  show execNolgilTrigger dt dev tt s = _
  unfold execNolgilTrigger
  exact doneOn_to at_ (if_neg other)

theorem exec_nolgilState_own {dev : Fin 16} (own : dev.val = devNum b) (lk co id_ sf ca : Bool) (cause : Nat) :
    exec (.nolgilState dt dev lk co ⟨id_, ca⟩ sf cause) s = .next (settle s b) := by
  show execNolgilState dt dev lk co ⟨id_, ca⟩ sf cause s = _
  unfold execNolgilState
  exact doneOn_to at_ (if_pos own)

theorem exec_nolgilState {dev : Fin 16} (other : dev.val ≠ devNum b) (lk co id_ sf ca : Bool) (cause : Nat) :
    exec (.nolgilState dt dev lk co ⟨id_, ca⟩ sf cause) s = .next (settle s (nolgilIn (sideOf b dev) 6
      [(dev.val : Int), b2n lk, b2n co, b2n id_, b2n sf, b2n ca, cause] (stateMsg dev lk co id_ sf ca cause) b)) := by
  show execNolgilState dt dev lk co ⟨id_, ca⟩ sf cause s = _
  unfold execNolgilState
  exact doneOn_to at_ (if_neg other)

theorem exec_hopDown (up : Bool) : exec (.hopDown dt up) s = .next (settle s (hopLost up b)) := by
  show execHopDown dt up s = _
  unfold execHopDown
  exact doneOn_to at_ rfl

theorem exec_hopUp (up : Bool) : exec (.hopUp dt up) s = .next (settle s (hopBack up b)) := by
  show execHopUp dt up s = _
  unfold execHopUp
  exact doneOn_to at_ rfl

theorem exec_skewWatchExchange (up : Bool) (est : Stamps) : exec (.skewWatchExchange dt up est) s =
    .next (settle s (if teamEn b && b.team.formed && up then watchHop est b else b)) := by
  show execSkewWatchExchange dt up est s = _
  unfold execSkewWatchExchange
  exact doneOn_to at_ rfl

end

/-- A relay sends, and changes nothing else. -/
theorem nolgilRelay_frame (up : Bool) (kind : Nat) (vals : List Int) (s : State) :
    ∃ o, nolgilRelay up kind vals s = { s with outq := o } := by
  unfold nolgilRelay
  exact (ite_eq_or_eq _ _ s).elim (fun sent => ⟨_, sent.trans rfl⟩) (fun still => ⟨s.outq, still⟩)

section Relay
variable {up : Bool} {kind : Nat} {vals : List Int} {f : State → State} {s : State}

theorem nolgilIn_open (en : teamEn s = true) (open_ : hopOpen s up = true) :
    nolgilIn up kind vals f s = f (nolgilRelay up kind vals s) := by
  simp [nolgilIn, en, open_]

theorem nolgilIn_down (down : hopOpen s up = false) : nolgilIn up kind vals f s = s := by
  simp [nolgilIn, down]

end Relay

section Huddle
variable {s : State} (en : cfgF s .mode 0 0 3 3 ≠ 0) (set : s.tb.epochSet = true)
include en set

theorem huddleEdge_eq : huddleEdge s = if stepsNow s then huddle s
    else
      let x := { s with tb := { s.tb with restart := true } }
      if isFollower s && !isIdle s then
        decideCause 26 (devNum s) (devNum s) { x with team := { x.team with huddleRunning := satAdd 16 x.team.huddleRunning 1 } }
      else x := by
  exact (if_neg (by simp [en, set])).trans rfl

end Huddle

theorem reachUp_isMaster (a : Nat) (s : State) : isMaster (reachUp a s) = isMaster s := by
  unfold reachUp
  split <;> rfl

theorem reachUp_isIdle (a : Nat) (s : State) : isIdle (reachUp a s) = isIdle s := by
  unfold reachUp
  split <;> rfl

section Drive
variable {a : Nat} {s r : State} (due : s.team.huddleAt = some a) (is : reachUp a s = r)
include due is

theorem huddleDrive_waits (master : isMaster s = true) (idle : isIdle s = true) (open_ : zeroOpen r = true) :
    huddleDrive s = r := by
  simp only [huddleDrive, due, is, master, idle, open_, Bool.and_self, if_true]

/-- HUDDLE_OUT's time has come, and no CAL.ZERO window holds it back (R279 to R281). -/
theorem huddleDrive_goes (goes : (zeroOpen r && isMaster s && isIdle s) = false) : huddleDrive s =
    let x := { r with team := { r.team with huddleAt := none } }
    if !isMaster x then out .huddleOut x
    else if !isIdle x then x
    else
      let y := huddle (out .huddleOut x)
      if cfgF y .team 0 0 60 60 = 1 then { y with team := { y.team with autoCalAt := some (y.up + fineMs) } } else y := by
  simp only [huddleDrive, due, is, goes, Bool.false_eq_true, if_false]
  rfl

/-- What HUDDLE_OUT_DRIVE does at its time (R279 to R281). -/
theorem huddleDrive_outcomes {dt : Nat} {s0 : State} (drives : exec (.huddleOutDrive dt) s0 = .next (settle s0 (huddleDrive s))) :
    let x := { r with team := { r.team with huddleAt := none } }
    let y := huddle (out .huddleOut x)
    (isMaster x = false → exec (.huddleOutDrive dt) s0 = .next (settle s0 (out .huddleOut x))) ∧
    (isMaster x = true → isIdle x = false → exec (.huddleOutDrive dt) s0 = .next (settle s0 x)) ∧
    (isMaster s = true → isIdle s = true → zeroOpen r = true → exec (.huddleOutDrive dt) s0 = .next (settle s0 r)) ∧
    (isMaster x = true → isIdle x = true → zeroOpen r = false → exec (.huddleOutDrive dt) s0 =
      .next (settle s0 (if cfgF y .team 0 0 60 60 = 1 then
        { y with team := { y.team with autoCalAt := some (y.up + fineMs) } } else y))) := by
  intro x y
  have masterR : isMaster r = isMaster s := is ▸ reachUp_isMaster a s
  have masterX : isMaster x = isMaster s := masterR
  have idleR : isIdle r = isIdle s := is ▸ reachUp_isIdle a s
  have idleX : isIdle x = isIdle s := idleR
  have onGo (goes : (zeroOpen r && isMaster s && isIdle s) = false) : huddleDrive s =
      if !isMaster x then out .huddleOut x
      else if !isIdle x then x
      else if cfgF y .team 0 0 60 60 = 1 then { y with team := { y.team with autoCalAt := some (y.up + fineMs) } } else y :=
    huddleDrive_goes due is goes
  refine ⟨fun other => ?_, fun master runs => ?_, fun master idle open_ => ?_, fun master idle shut => ?_⟩
  · rw [drives, onGo (by simp [← masterX, other]), if_pos (by simp [other])]
  · rw [drives, onGo (by simp [← idleX, runs]), if_neg (by simp [master]), if_pos (by simp [runs])]
  · rw [drives, huddleDrive_waits due is master idle open_]
  · rw [drives, onGo (by simp [shut]), if_neg (by simp [master]), if_neg (by simp [idle])]

end Drive

section Form
/-! What FORM finds (R270, R273). -/
variable {s : State} (en : teamEn s = true)
include en

theorem formMsg_follower_up {dev size : Nat} (follower : isFollower s = true)
    (above : ¬ (dev + 1 < devNum s ∧ size = teamSizeM1 s)) : formMsg true dev size s =
      if dev + 1 = devNum s ∧ size = teamSizeM1 s then
        teamLinkGone (out (.nolgil 0 [devNum s, teamSizeM1 s, s.fact.deviceId]) { s with team := { s.team with formed := true } })
      else decideCause 26 (devNum s) (devNum s) { s with team := { s.team with formed := false } } := by
  have notRelayed : ¬ (!true || (decide (dev + 1 < devNum s) && size == teamSizeM1 s)) = true := by simpa using above
  exact (if_neg (by simp [en])).trans ((if_pos follower).trans ((if_neg notRelayed).trans rfl))

theorem formMsg_follower_down {dev size : Nat} (follower : isFollower s = true) : formMsg false dev size s = s := by
  simp [formMsg, en, follower]

theorem formMsg_master {dev size : Nat} (master : isFollower s = false) : formMsg false dev size s =
    if size ≠ teamSizeM1 s ∨ dev = 0 ∨ teamSizeM1 s < dev then s
    else
      let l := insBy (fun d => d) dev (s.team.heard.filter (fun d => d != dev))
      teamLinkGone { s with team := { s.team with heard := l, formed := s.team.formed || decide (l.length = teamSizeM1 s) } } := by
  by_cases bad : size ≠ teamSizeM1 s ∨ dev = 0 ∨ teamSizeM1 s < dev
  · have bad' : (false || size != teamSizeM1 s || dev == 0 || decide (teamSizeM1 s < dev)) = true := by simpa [or_assoc] using bad
    simp only [formMsg, en, master, bad', Bool.not_true, Bool.false_eq_true, if_false, if_true]
    exact (if_pos bad).symm
  · have good : (false || size != teamSizeM1 s || dev == 0 || decide (teamSizeM1 s < dev)) = false := by
      simpa [or_assoc, and_assoc] using bad
    simp only [formMsg, en, master, good, Bool.not_true, Bool.false_eq_true, if_false]
    exact (if_neg bad).symm

theorem formMsg_master_ignores {dev size : Nat} (master : isFollower s = false)
    (wrong : size ≠ teamSizeM1 s ∨ dev = 0 ∨ teamSizeM1 s < dev) : formMsg false dev size s = s := by
  rw [formMsg_master en master, if_pos wrong]

theorem formMsg_master_hears {dev size : Nat} (master : isFollower s = false)
    (right : ¬ (size ≠ teamSizeM1 s ∨ dev = 0 ∨ teamSizeM1 s < dev)) : formMsg false dev size s =
      let l := insBy (fun d => d) dev (s.team.heard.filter (fun d => d != dev))
      teamLinkGone { s with team := { s.team with heard := l, formed := s.team.formed || decide (l.length = teamSizeM1 s) } } := by
  rw [formMsg_master en master, if_neg right]

end Form

/-- A member's state, as it stands once it is kept by member (R284). -/
def statePut (dev : Nat) (lk co id_ sf ca : Bool) (s : State) : State :=
  let y := { s with team := { s.team with
    peerSafe := hopMask dev sf s.team.peerSafe, peerCoast := hopMask dev co s.team.peerCoast
    peerIdle := hopMask dev id_ s.team.peerIdle, peerLock := hopMask dev lk s.team.peerLock
    peerCal := hopMask dev ca s.team.peerCal } }
  if pathCoast y && !pathCoast s then markTeamCoast y
  else if pathCoast s && !pathCoast y then { y with team := { y.team with coastEnd := s.now } } else y

theorem stateMsg_eq {s : State} (en : teamEn s = true) {dev : Nat} (other : dev ≠ devNum s) (lk co id_ sf ca : Bool) (cause : Nat) :
    stateMsg dev lk co id_ sf ca cause s =
      let z := statePut dev lk co id_ sf ca s
      if sf && !s.team.peerSafe.testBit dev then decideCause 28 dev cause z
      else if z.team.peerSafe = 0 then causeGone 28 z else z :=
  (if_neg (by simp [en, other])).trans rfl

theorem stateMsg_unsafe {s : State} (en : teamEn s = true) {dev : Nat} (other : dev ≠ devNum s) (lk co id_ ca : Bool) (cause : Nat)
    (new : s.team.peerSafe.testBit dev = false) :
    stateMsg dev lk co id_ true ca cause s = decideCause 28 dev cause (statePut dev lk co id_ true ca s) := by
  rw [stateMsg_eq en other]
  exact if_pos (by simp [new])

theorem stateMsg_known {s : State} (en : teamEn s = true) {dev : Nat} (other : dev ≠ devNum s) (lk co id_ sf ca : Bool) (cause : Nat)
    (known : sf = false ∨ s.team.peerSafe.testBit dev = true) : stateMsg dev lk co id_ sf ca cause s =
      let z := statePut dev lk co id_ sf ca s
      if z.team.peerSafe = 0 then causeGone 28 z else z := by
  rw [stateMsg_eq en other]
  exact if_neg (by rcases known with h | h <;> simp [h])

section Hop
/-! A hop that goes down, one that recovers, and the skew watch (R274, R275, R278). -/
variable {s : State} (en : teamEn s = true)
include en

theorem hopLost_open {up : Bool} (open_ : (if up then s.team.uplink else s.team.downlink) = true) : hopLost up s =
    decideCause 26 (hopMember s up) (hopMember s up) { s with team := { s.team with
      uplink := s.team.uplink && !up, downlink := s.team.downlink && up
      hopUp := hopMask (hopMember s up) false s.team.hopUp, linkDrops := satAdd 16 s.team.linkDrops 1 } } :=
  (if_neg (by simp [en, open_])).trans rfl

theorem hopBack_eq (up : Bool) : hopBack up s = teamLinkGone { s with team := { s.team with
    uplink := s.team.uplink || up, downlink := s.team.downlink || !up
    hopUp := hopMask (hopMember s up) true s.team.hopUp } } :=
  (if_neg (by simp [en])).trans rfl

end Hop

/-- The skew watch with an exchange entered (R275). -/
def watched (est : Int) (s : State) : State := { s with team := { s.team with watch := (est :: s.team.watch).take 1024 } }

section Watch
variable {est : Stamps} {s : State}

theorem watchHop_new (far : ((watched (hopTwice (hopAsym s (devNum s)) est) s).team.watchHas
      && watchFar (watched (hopTwice (hopAsym s (devNum s)) est) s)) = true) (new : s.team.watchAlarm = false) :
    watchHop est s =
      let x := watched (hopTwice (hopAsym s (devNum s)) est) s
      decideCause 27 (devNum s) (twos 48 (watchDev x))
        { x with team := { x.team with watchAlarm := true, skewCount := satAdd 16 x.team.skewCount 1 } } :=
  (if_pos (Bool.and_eq_true_iff.mpr ⟨far, by simp [new]⟩)).trans rfl

theorem watchHop_again (far : ((watched (hopTwice (hopAsym s (devNum s)) est) s).team.watchHas
      && watchFar (watched (hopTwice (hopAsym s (devNum s)) est) s)) = true) (old : s.team.watchAlarm = true) :
    watchHop est s = watched (hopTwice (hopAsym s (devNum s)) est) s :=
  (if_neg (by simp [old])).trans (if_pos far)

theorem watchHop_near (near : ((watched (hopTwice (hopAsym s (devNum s)) est) s).team.watchHas
      && watchFar (watched (hopTwice (hopAsym s (devNum s)) est) s)) = false) :
    watchHop est s =
      let x := watched (hopTwice (hopAsym s (devNum s)) est) s
      causeGone 27 { x with team := { x.team with watchAlarm := false } } :=
  (if_neg (fun h => absurd (Bool.and_eq_true_iff.mp h).1 (by rw [Bool.not_eq_true]; exact near))).trans
    ((if_neg (by rw [Bool.not_eq_true]; exact near)).trans rfl)

end Watch

/-- Settles O37: Huddle, quiet intervals, team messages, hops and the skew watch. -/
theorem teamEvents : Obligations.TeamEvents := by
  refine ⟨?_, ?_, ?_⟩
  · intro dt s b at_
    refine ⟨fun en set => ?_, fun off => ?_, fun a due => huddleDrive_outcomes due rfl (exec_huddleOutDrive at_),
      fun frame idle => ?_, fun frame runs quiet => ?_, fun frame runs busy => ?_⟩
    · rw [exec_huddleIn at_, huddleEdge_eq en set]
      refine ⟨fun now => by rw [if_pos now], fun idle open_ => ?_, fun runs own => ?_, fun runs follower => ?_⟩
      · rw [if_neg (by simp [stepsNow, open_])]
        exact congrArg (fun x => Host.Outcome.next (settle s x)) (if_neg (by simp [idle]))
      · rw [if_neg (by simp [stepsNow, runs])]
        exact congrArg (fun x => Host.Outcome.next (settle s x)) (if_neg (by simp [own]))
      · rw [if_neg (by simp [stepsNow, runs])]
        exact congrArg (fun x => Host.Outcome.next (settle s x)) (if_pos (by simp [runs, follower]))
    · rw [exec_huddleIn at_]
      exact congrArg (fun x => Host.Outcome.next (settle s x)) (if_pos (by simpa using off))
    · rw [exec_quietIntervalStart at_, quietStart, if_pos idle]
    · rw [exec_quietIntervalStart at_, quietStart, if_neg (by simp [runs]), if_neg (by simp [quiet])]
    · rw [exec_quietIntervalStart at_, quietStart, if_neg (by simp [runs]), if_pos (by simp [busy])]
  · intro dt s b at_ en
    have shut {up : Bool} {kind vals f} (down : hopOpen b up = false) : nolgilIn up kind vals f b = b := nolgilIn_down down
    refine ⟨fun up => ?_, fun down => ?_, fun down dev size id => ?_, fun down dev f => ?_, fun dev tt other => ?_, ?_, ?_⟩
    · have open_ : hopOpen b true = true := up
      refine ⟨?_, fun v follower => ?_, fun d follower => ?_, fun tt ofs o follower own => ?_, fun tt => ?_⟩
      · intro dev size id follower x
        have hears : exec (.nolgilForm dt true dev ⟨size, id⟩) s = .next (settle s (formMsg true dev size x)) := by
          rw [exec_nolgilForm at_, nolgilIn_open en open_]
        obtain ⟨o, is⟩ := nolgilRelay_frame true 0 [(dev : Int), size, id] b
        have isX : x = { b with outq := o } := is
        clear_value x
        subst isX
        rw [hears]
        refine ⟨fun above same => ?_, fun wrong => ?_, fun other => ?_⟩
        · rw [formMsg_follower_up (s := { b with outq := o }) en follower (fun h => absurd h.1 (by
            show ¬ dev + 1 < devNum b
            omega)), if_pos ⟨above, same⟩]
          rfl
        · rw [formMsg_follower_up (s := { b with outq := o }) en follower (fun h => absurd h.1 (by
            show ¬ dev + 1 < devNum b
            omega)), if_neg (fun h => absurd h.1 (by
            show ¬ dev + 1 = devNum b
            omega))]
          rfl
        · rw [formMsg_follower_up (s := { b with outq := o }) en follower (fun h => absurd h.2 other),
            if_neg (fun h => absurd h.2 other)]
          rfl
      · obtain ⟨o, is⟩ := nolgilRelay_frame true 3 [(v : Int)] b
        rw [exec_nolgilEpoch at_, nolgilIn_open en open_, is]
        exact congrArg (fun x => Host.Outcome.next (settle s x)) (if_pos follower)
      · obtain ⟨o, is⟩ := nolgilRelay_frame true 4 [d] b
        rw [exec_nolgilStepNotice at_, nolgilIn_open en open_, is]
        exact congrArg (fun x => Host.Outcome.next (settle s x)) (if_pos follower)
      · obtain ⟨q, is⟩ := nolgilRelay_frame true 5 (tt :: ofs) b
        rw [exec_nolgilCalApply at_, nolgilIn_open en open_, is]
        have followerX : isFollower { b with outq := q } = true := follower
        have ownX : ofs[devNum { b with outq := q } - 1]? = some o := own
        simp only [calApplyMsg, followerX, ownX]
        rfl
      · obtain ⟨o, is⟩ := nolgilRelay_frame true 1 [tt] b
        rw [exec_nolgilArm at_, nolgilIn_open en open_, is]
        rfl
    · have shutUp : hopOpen b true = false := down
      refine ⟨fun dev f => ?_, fun v => ?_, fun d => ?_, fun tt ofs => ?_, fun tt => ?_⟩
      · rw [exec_nolgilForm at_ true dev f.sizeM1 f.ident, shut shutUp]
      · rw [exec_nolgilEpoch at_, shut shutUp]
      · rw [exec_nolgilStepNotice at_, shut shutUp]
      · rw [exec_nolgilCalApply at_, shut shutUp]
      · rw [exec_nolgilArm at_, shut shutUp]
    · intro x
      have open_ : hopOpen b false = true := down
      have hears : exec (.nolgilForm dt false dev ⟨size, id⟩) s = .next (settle s (formMsg false dev size x)) := by
        rw [exec_nolgilForm at_, nolgilIn_open en open_]
      obtain ⟨o, is⟩ := nolgilRelay_frame false 0 [(dev : Int), size, id] b
      have isX : x = { b with outq := o } := is
      clear_value x
      subst isX
      rw [hears]
      refine ⟨fun follower => ?_, fun master wrong => ?_, fun master same some_ within_ => ?_⟩
      · rw [formMsg_follower_down (s := { b with outq := o }) en follower]
      · rw [formMsg_master_ignores (s := { b with outq := o }) en master wrong]
      · have right : ¬ (size ≠ teamSizeM1 b ∨ dev = 0 ∨ teamSizeM1 b < dev) := by omega
        rw [formMsg_master_hears (s := { b with outq := o }) en master right]
        rfl
    · have shutDown_ : hopOpen b false = false := down
      rw [exec_nolgilForm at_ false dev f.sizeM1 f.ident, shut shutDown_]
    · intro x
      refine ⟨fun open_ => ?_, fun down => ?_⟩
      · rw [exec_nolgilTrigger at_ dev tt other, nolgilIn_open en open_]
      · rw [exec_nolgilTrigger at_ dev tt other, shut down]
    · intro dev lk co id_ sf ca cause other open_ x y z
      have hears : exec (.nolgilState dt dev lk co ⟨id_, ca⟩ sf cause) s =
          .next (settle s (stateMsg dev lk co id_ sf ca cause x)) := by
        rw [exec_nolgilState at_ other, nolgilIn_open en open_]
      obtain ⟨o, is⟩ := nolgilRelay_frame (sideOf b dev) 6
        [(dev.val : Int), b2n lk, b2n co, b2n id_, b2n sf, b2n ca, cause] b
      have isX : x = { b with outq := o } := is
      clear_value x
      subst isX
      have kept : z = statePut dev lk co id_ sf ca { b with outq := o } := rfl
      refine ⟨fun bad new => ?_, fun known => ?_⟩
      · subst bad
        rw [hears, stateMsg_unsafe (s := { b with outq := o }) en other lk co id_ ca cause new, ← kept]
        rfl
      · rw [hears, stateMsg_known (s := { b with outq := o }) en other lk co id_ sf ca cause known]
        rfl
    · intro dev lk co id_ sf ca cause none
      by_cases own : dev.val = devNum b
      · exact exec_nolgilState_own at_ own lk co id_ sf ca cause
      · rw [exec_nolgilState at_ own, shut (none.resolve_left own)]
  · intro dt s b at_ en
    refine ⟨fun up => ?_, fun down => ?_, ?_, ?_, fun est => ?_, fun est apart => ?_, ?_⟩
    · rw [exec_hopDown at_, hopLost_open (up := true) en up, up]
      simp [decideCause, hopMember]
    · rw [exec_hopDown at_, hopLost_open (up := false) en down, down]
      simp [decideCause, hopMember]
    · rw [exec_hopUp at_, hopBack_eq en]
      simp [hopMember]
    · rw [exec_hopUp at_, hopBack_eq en]
      simp [hopMember]
    · rw [exec_skewWatchExchange at_]
      simp
    · rw [exec_skewWatchExchange at_]
      simp [apart]
    · intro a0 w1 w2 a3 formed est x far act
      have sees : act = .next (settle s (watchHop ⟨a0, w1, w2, a3⟩ b)) := by
        show exec _ s = _
        rw [exec_skewWatchExchange at_, if_pos (by simp [en, formed])]
      rw [sees]
      refine ⟨fun beyond new => ?_, fun beyond old => ?_, fun near => ?_⟩
      · exact congrArg (fun y => Host.Outcome.next (settle s y)) (watchHop_new (est := ⟨a0, w1, w2, a3⟩) (s := b) beyond new)
      · exact congrArg (fun y => Host.Outcome.next (settle s y)) (watchHop_again (est := ⟨a0, w1, w2, a3⟩) (s := b) beyond old)
      · exact congrArg (fun y => Host.Outcome.next (settle s y)) (watchHop_near (est := ⟨a0, w1, w2, a3⟩) (s := b) near)

/-! ### The course of a calibration (R248, R251 to R261, R275, R276, R280, R286) -/

section
variable {dt : Nat} {s b : State} (at_ : At dt s b)
include at_

theorem exec_calStandbyLoaded : exec (.calStandbyLoaded dt) s = .next (settle s (standbyLoaded b)) := by
  show execCalStandbyLoaded dt s = _
  unfold execCalStandbyLoaded
  exact doneOn_to at_ rfl

theorem exec_calStaleTimeout : exec (.calStaleTimeout dt) s = .next (settle s (staleNow b)) := by
  show execCalStaleTimeout dt s = _
  unfold execCalStaleTimeout
  exact doneOn_to at_ rfl

theorem exec_calTileLeaveService (ti : Fin 64) : exec (.calTileLeaveService dt ti) s = .next (settle s (leaveService ti.val b)) := by
  show execCalTileLeaveService dt ti s = _
  unfold execCalTileLeaveService
  exact doneOn_to at_ rfl

theorem exec_calLinPassEnd (rs : List (Nat × Vector Int 64)) : exec (.calLinPassEnd dt rs) s = .next (settle s (linPass (rs.map (fun p => (p.1, p.2.toList))) b)) := by
  show execCalLinPassEnd dt rs s = _
  unfold execCalLinPassEnd
  exact doneOn_to at_ rfl

theorem exec_calLinTimeout (ti : Fin 64) : exec (.calLinTimeout dt ti) s = .next (settle s (linTimeout ti.val b)) := by
  show execCalLinTimeout dt ti s = _
  unfold execCalLinTimeout
  exact doneOn_to at_ rfl

theorem exec_calZeroShot (d : BitVec 12) : exec (.calZeroShot dt d) s = .next (settle s (zeroShot d.toNat b)) := by
  show execCalZeroShot dt d s = _
  unfold execCalZeroShot
  exact doneOn_to at_ rfl

theorem exec_calZeroBlockEnd : exec (.calZeroBlockEnd dt) s = .next (settle s (zeroBlock b)) := by
  show execCalZeroBlockEnd dt s = _
  unfold execCalZeroBlockEnd
  exact doneOn_to at_ rfl

theorem exec_calZeroTimeout : exec (.calZeroTimeout dt) s = .next (settle s (zeroTimeout b)) := by
  show execCalZeroTimeout dt s = _
  unfold execCalZeroTimeout
  exact doneOn_to at_ rfl

theorem exec_calTeamTimeout : exec (.calTeamTimeout dt) s = .next (settle s (teamTimeout b)) := by
  show execCalTeamTimeout dt s = _
  unfold execCalTeamTimeout
  exact doneOn_to at_ rfl

theorem exec_calTeamMeasureDone (meas : TeamMeas) : exec (.calTeamMeasureDone dt meas) s = .next (settle s (teamMeasured (meas.rounds.toList.map (fun r => r.map Vector.toList)) meas.room b)) := by
  show execCalTeamMeasureDone dt meas s = _
  unfold execCalTeamMeasureDone
  exact doneOn_to at_ rfl

theorem exec_calTeamApplyTime : exec (.calTeamApplyTime dt) s = .next (settle s (teamApply b)) := by
  show execCalTeamApplyTime dt s = _
  unfold execCalTeamApplyTime
  exact doneOn_to at_ rfl

theorem exec_autoCalStart : exec (.autoCalStart dt) s = .next (settle s (autoCal b)) := by
  show execAutoCalStart dt s = _
  unfold execAutoCalStart
  exact doneOn_to at_ rfl

end

section Running
variable {b : State} (runs : calRunning b = true)
include runs

theorem leaveService_free {ti : Nat} (asked : (tileGet b ti).calAsk = true) (free : tileFree b ti = true) : leaveService ti b =
    let x := tileUpd ti (fun x => { x with
      calAsk := false, calOut := true
      rcd := if x.rcd.st = .hold ∨ x.rcd.st = .armed then { x.rcd with st := .disarmed } else x.rcd }) b
    { x with cal := { x.cal with
      passAt := b.up, st := if (tilesOf b.cal.mask).any (fun t => (tileGet x t).calAsk) then b.cal.st else 2 } } := by
  refine (if_pos (by simp [runs, asked, free])).trans ?_
  simp only [Bool.or_eq_true, beq_iff_eq]
  rfl

theorem linPass_running (kind : b.cal.kind = 1) (rs : List (Nat × List Int)) :
    linPass rs b = calFinish ((tilesOf b.cal.mask).foldl (fun a ti => linTile rs ti a) b) :=
  if_pos (by simp [runs, kind])

theorem linTimeout_left {ti : Nat} {x : State} (kind : b.cal.kind = 1) (left : b.cal.left.contains ti = true)
    (is : reachUp (b.cal.startAt + 50 * fineMs) b = x) : linTimeout ti b =
      let why := fun (r : CalRes) =>
        if b.cal.redo.contains ti then 7 else if r.passes = 0 then 1 else if r.cause = 0 then 2 else r.cause
      calFinish (tileBack ti { x with cal := { x.cal with
        results := (List.range 19).foldl (fun t k => tabUpd {} t (19 * ti + k) (fun r => { r with cause := why r })) x.cal.results
        failed := x.cal.failed + 19, left := x.cal.left.erase ti } }) := by
  refine (if_pos (by simp only [runs, kind, left]; decide)).trans ?_
  rw [is]
  rfl

theorem zeroShot_fires {d : Nat} {z : State} (kind : b.cal.kind = 2) (st : b.cal.st = 2) (more : b.cal.shot < zeroF b 1 15 0)
    (is : zeroReach b = z) :
    let at_ := z.now + 300 * fineNs + (d * 4096 : Nat) + (cfgF z .emCh (zeroF z 1 45 40) 0 35 0 : Nat)
    let ps := pulsesOf z (zeroF z 1 45 40) (zeroF z 1 39 32) at_
    let o : Offer := { ch := zeroF z 1 45 40, seq := calSeq, pulses := ps, code := zeroF z 1 31 24, arrive := z.now + crossing1 z }
    ps ≠ [] → zeroShot d b = { z with
      pb := { z.pb with offers := z.pb.offers ++ [o] }
      cal := { z.cal with shot := z.cal.shot + 1, fired := z.cal.fired + zeroF z 3 63 48, firedAt := some z.up
                          shotAt := z.cal.shotAt ++ [(z.cal.blocks * zeroF z 1 15 0 + (z.cal.shot + 1), at_)] } } := by
  intro at_ ps o some_
  have notEmpty : ps.isEmpty = false := by simpa using some_
  subst is
  refine (if_pos (by simp [runs, kind, st, more])).trans ?_
  show calUpd _ (if ps.isEmpty then zeroReach b else pbUpd (fun p => { p with offers := p.offers ++ [o] }) (zeroReach b)) = _
  rw [notEmpty]
  rfl

theorem zeroBlock_full (kind : b.cal.kind = 2) (st : b.cal.st = 2) (full : b.cal.shot = zeroF b 1 15 0) : zeroBlock b =
    let z := decideAll false (reach (zeroOver b) b)
    let x := { z with cal := { z.cal with blocks := z.cal.blocks + 1, shot := 0, shotAt := [] } }
    let all := x.cal.left.all (fun ch => zeroPass x (tabGet [] x.cal.events ch))
    if !all && decide (x.cal.fired + blockUs x ≤ 400000) then x
    else
      let y := x.cal.left.foldl (fun a ch => zeroChannel ch a) x
      calFinish { y with cal := { y.cal with left := [] } } :=
  (if_pos (by simp [runs, kind, st, full])).trans rfl

theorem zeroTimeout_running (kind : b.cal.kind = 2) :
    zeroTimeout b = calAbort 1 (reachUp (b.cal.startAt + 2000 * fineMs) b) :=
  if_pos (by simp [runs, kind])

theorem teamTimeout_running (kind : b.cal.kind = 3) :
    teamTimeout b = calAbort (if b.cal.redo.isEmpty then 1 else 7) (reachUp (b.cal.startAt + 1000 * fineMs) b) :=
  if_pos (by simp [runs, kind])

end Running

theorem standbyLoaded_loads {b : State} (loading : b.cal.loading = true) (stage : 5 ≤ b.ctl.bootStage)
    (serves : b.ctl.fwFault = false) : standbyLoaded b =
      let x := { b with cal := { b.cal with loading := false, loadedAt := some b.up, bandPending := b.cal.loadBand } }
      if isIdle b then calStep x else x :=
  (if_pos (by simp [loading, stage, serves])).trans rfl

theorem staleNow_waits {b x : State} {a : Nat} (since : b.cal.loadedAt = some a) (fresh : b.cal.stale = false)
    (is : reachUp (a + 1000 * fineMs) b = x) : staleNow b =
      let mark := fun (p : Nat × Chan) => if p.2.pix.opened then (p.1, { p.2 with pix := { p.2.pix with calStale := true } }) else p
      { x with
        chan := x.chan.map mark, cal := { x.cal with stale := true }
        safe := { x.safe with todo := x.safe.todo ++ [{ at_ := x.now, up := x.up, bit := 25, obj := 0, detail := x.cal.gen }] } } := by
  simp only [staleNow, since, fresh, is, Bool.false_eq_true, if_false]
  rfl

theorem teamMeasured_follower {b : State} {rounds : List (List HopMeas)} {room : List (Int × Int)}
    (follower : isFollower b = true) (all : rounds.all (fun r => decide (devNum b ≤ r.length)) = true) :
    teamMeasured rounds room b =
      { b with team := { b.team with hopOfs := mean64 (rounds.map (fun r => hopMean b (devNum b) (r.getD (devNum b - 1) []))) } } :=
  (if_pos follower).trans (if_pos all)

/-- The members' results of a team calibration (R261, R276). -/
def teamResults (rounds : List (List HopMeas)) (room : List (Int × Int)) (b : State) : List (Int × CalRes) :=
  (upTo 1 b.cal.teamN).map (fun d => memberRes (memberVals b rounds d) (room.getD (d - 1) (0, 0)))

/-- The members' results taken in. -/
def teamJudged (rs : List (Int × CalRes)) (b : State) : State :=
  let bad := (rs.filter (fun r => r.2.cause != 0)).length
  { b with cal := { b.cal with
    results := rs.zipIdx.foldl (fun t p => tabSet {} t (p.2 + 1) p.1.2) b.cal.results
    passed := rs.length - bad, failed := bad, redo := [] } }

section Team
variable {b : State} {rounds : List (List HopMeas)} {room : List (Int × Int)} (own : isFollower b = false)
  (runs : calRunning b = true) (kind : b.cal.kind = 3) (all : rounds.all (fun r => decide (r.length = b.cal.teamN)) = true)
include own runs kind all

theorem teamMeasured_judged : teamMeasured rounds room b =
    let rs := teamResults rounds room b
    let x := teamJudged rs b
    if (rs.filter (fun r => r.2.cause != 0)).length ≠ 0 then calEnd 9 x
    else calEnd 0 (out (.nolgil 5 ((b.now + 100 * fineMs - teamOfs b) :: rs.map (fun r => r.1)))
      { x with team := { x.team with calApply := some (0, b.now + 100 * fineMs) } }) :=
  (if_neg (by simp [own])).trans ((if_neg (by simp only [runs, kind, all]; decide)).trans rfl)

end Team

theorem teamApply_due {b x : State} {ofs d : Int} (due : b.team.calApply = some (ofs, d))
    (is : reach d { b with team := { b.team with calApply := none } } = x) : teamApply b =
      if (laterCfgs x).all (fun c => (List.range 64).all (fun ch => (emOfsIn x c ch).all (skewsOk x ch ofs))) = true then
        let y := pendUser (cfgKey .calDev 0) [setFld ((userNext x .calDev 0).getD 0 0) 23 0 (twos 24 ofs)] x
        calFeed { y with cal := { y.cal with teamStep := true } }
      else calFeed x := by
  simp only [teamApply, due, is]
  cases (laterCfgs x).all (fun c => (List.range 64).all (fun ch => (emOfsIn x c ch).all (skewsOk x ch ofs))) <;> rfl

theorem autoCal_due {b x : State} {a : Nat} (due : b.team.autoCalAt = some a)
    (is : reachUp a { b with team := { b.team with autoCalAt := none } } = x) : autoCal b =
      if teamCalDev x = stOk ∧ bgBusy x 8 = false then calBegin 3 2 0 [] [] x else x := by
  simp only [autoCal, due, is, Bool.not_eq_true']

/-- Settles O38: the course of a calibration step, of CAL.LIN, CAL.ZERO and CAL.TEAM. -/
theorem calibrations : Obligations.Calibrations := by
  refine ⟨?_, ?_, ?_⟩
  · intro dt s b at_
    refine ⟨fun loading stage serves => ?_, fun a since fresh => ?_⟩
    · rw [exec_calStandbyLoaded at_, standbyLoaded_loads loading stage serves]
    · rw [exec_calStaleTimeout at_]
      exact congrArg (fun y => Host.Outcome.next (settle s y)) (staleNow_waits since fresh rfl)
  · intro dt s b at_ runs
    refine ⟨fun ti asked free => ?_, fun rs kind => ?_, fun ti kind left => ?_, fun d kind st more => ?_, fun kind st full => ?_,
      fun kind => ?_, fun kind => ?_⟩
    · rw [exec_calTileLeaveService at_]
      exact congrArg (fun y => Host.Outcome.next (settle s y)) (leaveService_free runs asked free)
    · rw [exec_calLinPassEnd at_, linPass_running runs kind]
    · rw [exec_calLinTimeout at_]
      exact congrArg (fun y => Host.Outcome.next (settle s y)) (linTimeout_left runs kind left rfl)
    · intro z at0 ps o some_
      rw [exec_calZeroShot at_]
      exact congrArg (fun y => Host.Outcome.next (settle s y)) (zeroShot_fires runs kind st more rfl some_)
    · intro z x all
      have judged : exec (.calZeroBlockEnd dt) s = .next (settle s (if !all && decide (x.cal.fired + blockUs x ≤ 400000) then x
          else
            let y := x.cal.left.foldl (fun a ch => zeroChannel ch a) x
            calFinish { y with cal := { y.cal with left := [] } })) := by
        rw [exec_calZeroBlockEnd at_]
        exact congrArg (fun y => Host.Outcome.next (settle s y)) (zeroBlock_full runs kind st full)
      clear_value all x
      rw [judged]
      refine ⟨fun lacks room => ?_, fun ends => ?_⟩
      · rw [if_pos (by simp [lacks, room])]
      · rw [if_neg (by rcases ends with h | h <;> simp [h])]
    · rw [exec_calZeroTimeout at_, zeroTimeout_running runs kind]
    · rw [exec_calTeamTimeout at_, teamTimeout_running runs kind]
  · intro dt s b at_
    refine ⟨?_, ?_, fun ofs d due => ?_, fun a due => ?_⟩
    · intro ms room hs follower all
      rw [exec_calTeamMeasureDone at_, teamMeasured_follower follower all]
      rfl
    · intro ms room hs own runs kind all rs bad x
      have judged : exec (.calTeamMeasureDone dt ⟨ms, room⟩) s = .next (settle s (if bad ≠ 0 then calEnd 9 x
          else calEnd 0 (out (.nolgil 5 ((b.now + 100 * fineMs - teamOfs b) :: rs.map (fun r => r.1)))
            { x with team := { x.team with calApply := some (0, b.now + 100 * fineMs) } }))) := by
        rw [exec_calTeamMeasureDone at_, teamMeasured_judged own runs kind all]
        rfl
      clear_value bad
      rw [judged]
      exact ⟨fun some_ => by rw [if_pos some_], fun none => by rw [if_neg (by simp [none])]⟩
    · intro x y ok
      have applied : exec (.calTeamApplyTime dt) s = .next (settle s (if ok = true then
          calFeed { y with cal := { y.cal with teamStep := true } } else calFeed x)) := by
        rw [exec_calTeamApplyTime at_]
        exact congrArg (fun y => Host.Outcome.next (settle s y)) (teamApply_due due rfl)
      clear_value ok
      rw [applied]
      exact ⟨fun fits => by rw [if_pos fits], fun none => by rw [if_neg (by simp [none])]⟩
    · rw [exec_autoCalStart at_]
      exact congrArg (fun y => Host.Outcome.next (settle s y)) (autoCal_due due rfl)

end Sys2Proof.Machine
end

section
/-! # Comparators (ch. 05), the Playbook (ch. 04), windows and recorders (ch. 06) -/

namespace Sys2Proof.Machine

/-! ### Monitor comparators (R148 to R158) -/

section
variable {dt : Nat} {s b : State} (at_ : At dt s b)
include at_

theorem exec_mcOutputChange (m : Fin 34) (hi lo : Bool) : exec (.mcOutputChange dt m hi lo) s = .next (settle s (monInputs m.val hi lo b)) := by
  show execMcOutputChange dt m hi lo s = _
  unfold execMcOutputChange
  exact doneOn_to at_ rfl

theorem exec_mcBlankEnd (m : Fin 34) : exec (.mcBlankEnd dt m) s = .next (settle s (monBlankEnd m.val b)) := by
  show execMcBlankEnd dt m s = _
  unfold execMcBlankEnd
  exact doneOn_to at_ rfl

theorem exec_mcFilterSample (m : Fin 34) : exec (.mcFilterSample dt m) s = .next (settle s (monFilter m.val b)) := by
  show execMcFilterSample dt m s = _
  unfold execMcFilterSample
  exact doneOn_to at_ rfl

theorem exec_mcHoldEnd (m : Fin 34) : exec (.mcHoldEnd dt m) s = .next (settle s (monHoldEnd m.val b)) := by
  show execMcHoldEnd dt m s = _
  unfold execMcHoldEnd
  exact doneOn_to at_ rfl

theorem exec_mcResolveSample (m : Fin 34) (hi lo : Option Bool) : exec (.mcResolveSample dt m hi lo) s = .next (settle s (resolveSample m.val hi lo b)) := by
  show execMcResolveSample dt m hi lo s = _
  unfold execMcResolveSample
  exact doneOn_to at_ rfl

theorem exec_monitorUnresolved (m : Fin 34) : exec (.monitorUnresolved dt m) s = .next (settle s (monLate m.val b)) := by
  show execMonitorUnresolved dt m s = _
  unfold execMonitorUnresolved
  exact doneOn_to at_ rfl

theorem exec_rxSettleDone (ch : Fin 1024) (above : Bool) : exec (.rxSettleDone dt ch above) s = .next (settle s (rxSettled ch.val above b)) := by
  show execRxSettleDone dt ch above s = _
  unfold execRxSettleDone
  exact doneOn_to at_ rfl

theorem exec_rxOutputDeassert (ch : Fin 1024) : exec (.rxOutputDeassert dt ch) s = .next (settle s (rxOutput ch.val false b.now b)) := by
  show execRxOutputDeassert dt ch s = _
  unfold execRxOutputDeassert
  exact doneOn_to at_ rfl

theorem exec_rxEvent (ch : Fin 1024) (cycle : Int) (code : Fin 64) (high : Bool) (ecc : Fin 3) : exec (.rxEvent dt ch cycle code high ecc) s = .next (settle s (rxEvent ch.val cycle code.val high ecc.val b)) := by
  show execRxEvent dt ch cycle code high ecc s = _
  unfold execRxEvent
  exact doneOn_to at_ rfl

theorem exec_pileLostEvent (ch : Fin 1024) : exec (.pileLostEvent dt ch) s = .next (settle s (pileLost ch.val b)) := by
  show execPileLostEvent dt ch s = _
  unfold execPileLostEvent
  exact doneOn_to at_ rfl

end

/-- Settles O39: the monitors, event by event. -/
theorem monitors : Obligations.Monitors := by
  refine ⟨?_, ?_⟩
  · intro dt m s b at_
    refine ⟨?_, fun u r due => ?_, fun free en => ?_, fun v hold => ?_, fun hold => ?_⟩
    · intro hi lo x y
      have noted : exec (.mcOutputChange dt m hi lo) s =
          .next (settle s (if (monGet b m).held then y else monSettle m y)) := exec_mcOutputChange at_ m hi lo
      clear_value y
      rw [noted]
      exact ⟨fun held => by rw [if_pos held], fun free => by rw [if_neg (by simp [free])]⟩
    · rw [exec_mcBlankEnd at_, monBlankEnd, due]
    · rw [exec_mcFilterSample at_]
      exact congrArg (fun y => Host.Outcome.next (settle s y)) (if_neg (by simp [free, en]))
    · rw [exec_mcHoldEnd at_, monHoldEnd, hold]
    · rw [exec_mcHoldEnd at_, monHoldEnd, hold]
  · intro dt m s b at_ held
    refine ⟨?_, fun hi lo off => ?_, fun en late fresh => ⟨?_, fun input => ?_⟩⟩
    · intro hi lo en x
      rw [exec_mcResolveSample at_]
      exact congrArg (fun y => Host.Outcome.next (settle s y)) (if_neg (by simp [held, en]))
    · rw [exec_mcResolveSample at_]
      exact congrArg (fun y => Host.Outcome.next (settle s y)) (if_pos (by simp [off]))
    · intro monitor x
      rw [exec_monitorUnresolved at_]
      exact congrArg (fun y => Host.Outcome.next (settle s y)) (if_pos (by simp [monitor, held, en, late, fresh]))
    · rw [exec_monitorUnresolved at_]
      exact congrArg (fun y => Host.Outcome.next (settle s y)) (if_neg (by
        rintro ⟨h, -⟩
        omega))

/-! ### Receive channels (R139, R143, R155, R165, R166, R171) -/

section Rx
variable (a : Int) (s : State) (ch : Nat)

@[simp] theorem reach_rxGet : rxGet (reach a s) ch = rxGet s ch := by
  unfold reach
  split <;> rfl

/-- An output that falls is entered in the history; one that is low already stays. -/
theorem rxOutput_falls (t : Int) : rxOutput ch false t s =
    rxUpd ch (fun x => if x.out = true then { x with out := false, trans := pushTrans t false x.trans } else x) s := by
  have falls : (fun (x : Rx) => if x.out = false then x else { x with out := false, trans := pushTrans t false x.trans }) =
      fun x => if x.out = true then { x with out := false, trans := pushTrans t false x.trans } else x := by
    funext x
    cases x.out <;> rfl
  exact congrArg (fun f => rxUpd ch f s) falls

end Rx

section Event
variable {ch : Nat} {cycle : Int} {code : Nat} {high : Bool} {ecc : Nat} {b x : State} {t : Int}
  (time : tdcTime b ch cycle code = t) (is : reach t b = x)
include time is

theorem rxEvent_none (none : (tdcCut x ch || !(rxGet x ch).active || (rxGet x ch).out || !x.tb.epochSet
    || inDead (chanGet x ch) t) = true) : rxEvent ch cycle code high ecc b = b := by
  subst time is
  exact if_pos none

theorem rxEvent_timed (active : (rxGet x ch).active = true) (low : (rxGet x ch).out = false) (set : x.tb.epochSet = true)
    (alive : inDead (chanGet x ch) t = false) (used : tdcCut x ch = false) : rxEvent ch cycle code high ecc b =
      let hi := high && fld (rxWord x ch) 45 45 == 1
      notDead ch (rateTrig (ch / 16) (ch % 16) t (highTrig (ch / 16) (ch % 16) t hi
        (tileUpd (ch / 16) (fun y => { y with pend := y.pend ++ [eventOf x ch t hi ecc] })
          (chanUpd ch (fun y => { y with eventsTimed := satAdd 64 y.eventsTimed 1, pileMark := false, lastEvt := some t })
            (rxOutput ch true t (rxUpd ch (fun y => { y with high := if hi then satAdd 32 y.high 1 else y.high }) x)))))) := by
  subst time is
  exact (if_neg (by simp only [active, low, set, alive, used]; decide)).trans rfl

end Event

section Lost
variable {ch : Nat} {b : State} (used : tdcCut b ch = false) (active : (rxGet b ch).active = true)
  (low : (rxGet b ch).out = false) (dead : inDead (chanGet b ch) b.now = true)
include used active low dead

/-- An assertion in the dead time, with the tile's windows looked at (R166). -/
theorem pileLost_dead : pileLost ch b =
    let w := tileGet b (ch / 16)
    let x := chanUpd ch (fun y => { y with pileTotal := satAdd 32 y.pileTotal 1, pileMark := true }) (rxOutput ch true b.now b)
    if w.win == .disarmed then x
    else match postShot w b.now, preShot w b.now with
    | some e, _ => chanUpd ch (fun y =>
        if y.pix.acqSeqs.contains e.seq then { y with pix := { y.pix with pile := satAdd 32 y.pix.pile 1 } } else y) x
    | none, some _ => chanUpd ch (fun y => { y with prePile := y.prePile + 1 }) x
    | none, none => x :=
  (if_neg (by simp [used, active, low, dead])).trans rfl

end Lost

/-- Settles O40: receive channels, event by event. -/
theorem receiveEvents : Obligations.ReceiveEvents := by
  intro dt ch s b at_
  refine ⟨fun above settling => ?_, ?_, ?_, ?_, fun cycle code high ecc off => ?_, ?_⟩
  · rw [exec_rxSettleDone at_, rxSettled, if_pos settling]
  · rw [exec_rxOutputDeassert at_, rxOutput_falls]
  · intro cycle code high ecc t x hi active low set alive used
    rw [exec_rxEvent at_]
    exact congrArg (fun y => Host.Outcome.next (settle s y)) (rxEvent_timed rfl rfl active low set alive used)
  · intro cycle code high ecc t l last early
    have dead : inDead (chanGet (reach t b) ch) t = true := by
      rw [inDead, last]
      exact decide_eq_true early
    rw [exec_rxEvent at_, rxEvent_none (t := t) rfl rfl (by rw [dead, Bool.or_true])]
  · rw [exec_rxEvent at_, rxEvent_none rfl rfl (by simp [off])]
  · intro used active low dead w x
    have lost := exec_pileLostEvent at_ ch
    rw [pileLost_dead used active low dead] at lost
    have counted : exec (.pileLostEvent dt ch) s = .next (settle s (if w.win == .disarmed then x
        else match postShot w b.now, preShot w b.now with
        | some e, _ => chanUpd ch (fun y =>
            if y.pix.acqSeqs.contains e.seq then { y with pix := { y.pix with pile := satAdd 32 y.pix.pile 1 } } else y) x
        | none, some _ => chanUpd ch (fun y => { y with prePile := y.prePile + 1 }) x
        | none, none => x)) := lost
    clear_value x
    rw [counted]
    refine ⟨fun off => ?_, fun on post pre => ?_, fun on post pre => ?_, fun e on post => ?_⟩
    · rw [if_pos (by simp [off])]
    · rw [if_neg (by simpa using on), post, pre]
    · obtain ⟨e, pre⟩ := Option.isSome_iff_exists.mp pre
      rw [if_neg (by simpa using on), post, pre]
    · rw [if_neg (by simpa using on), post]

/-! ### The walk of the Playbook (R110 to R117, R124, R130 to R132) -/

section
variable {dt : Nat} {s b : State} (at_ : At dt s b)
include at_

theorem exec_descFetch : exec (.descFetch dt) s = .next (settle s (descFetch b)) := by
  show execDescFetch dt s = _
  unfold execDescFetch
  exact doneOn_to at_ rfl

theorem exec_shotExpand : exec (.shotExpand dt) s = .next (settle s (shotExpand b)) := by
  show execShotExpand dt s = _
  unfold execShotExpand
  exact doneOn_to at_ rfl

theorem exec_segmentDecisionPoint : exec (.segmentDecisionPoint dt) s = .next (settle s (decisionPoint b)) := by
  show execSegmentDecisionPoint dt s = _
  unfold execSegmentDecisionPoint
  exact doneOn_to at_ rfl

theorem exec_pbHalt : exec (.pbHalt dt) s = .next (settle s (haltEvent b)) := by
  show execPbHalt dt s = _
  unfold execPbHalt
  exact doneOn_to at_ rfl

end

/-- Where lost mirror lock does not starve the walk, it stands as it stood (R124). -/
theorem mirrorStarve_lit {b : State} (lit : mirrorMode b = false ∨ cfgF b .pb 0 3 28 28 ≠ 1 ∨ b.pb.mirrorLocked = true) :
    mirrorStarve b = b := by
  refine if_neg ?_
  rcases lit with h | h | h <;> simp [h]

section Fetch
variable {b : State} (lit : mirrorStarve b = b) (walk : b.pb.walk = .fetch) (goes : b.pb.st = .running ∨ b.pb.st = .skipping)
include lit walk goes

/-- The walk at a descriptor: none in the ring, a gap, an entry out of range, or one that it reaches. -/
theorem descFetch_lit (headed : streamed b = false ∨ b.pb.header = true) : descFetch b =
    if ringDry b then underCheck b
    else if streamed b && b.pb.gapAt.contains b.pb.rd then
      unstarve (gapEnd 2 { b with pb := { b.pb with gapAt := b.pb.gapAt.filter (fun g => g != b.pb.rd) } })
    else if streamed b && !(reservedOk .desc 0 (curDesc b) && rangeOk .desc 0 (curDesc b)) then
      gapEnd 3 (ringPop { b with pb := { b.pb with curIdx := b.pb.idx, gaps := satAdd 16 b.pb.gaps 1 } })
    else reachDesc (curDesc b) { b with pb := { b.pb with curIdx := b.pb.idx } } := by
  have stands : ¬ (b.pb.walk != .fetch || !(b.pb.st == .running || b.pb.st == .skipping)) = true := by
    rcases goes with h | h <;> simp [walk, h]
  have head : ¬ (streamed b && !b.pb.header) = true := by
    rcases headed with h | h <;> simp [h]
  have fetches : ¬ (b.pb.walk != .fetch) = true := by simp [walk]
  unfold descFetch
  simp only [lit]
  rw [if_neg stands, if_neg head, if_neg fetches]
  rfl

theorem descFetch_resident (resident : streamed b = false) :
    descFetch b = reachDesc (curDesc b) { b with pb := { b.pb with curIdx := b.pb.idx } } := by
  rw [descFetch_lit lit walk goes (.inl resident)]
  simp [ringDry, resident]

section Streamed
variable (stream : streamed b = true) (headed : b.pb.header = true)
include stream headed

theorem descFetch_dry (dry : b.pb.rd = b.pb.wr) : descFetch b = underCheck b := by
  rw [descFetch_lit lit walk goes (.inr headed), if_pos (by simp [ringDry, walk, stream, dry])]

variable (more : b.pb.rd ≠ b.pb.wr)
include more

theorem descFetch_gap (gap : b.pb.gapAt.contains b.pb.rd = true) : descFetch b =
    unstarve (gapEnd 2 { b with pb := { b.pb with gapAt := b.pb.gapAt.filter (fun g => g != b.pb.rd) } }) := by
  rw [descFetch_lit lit walk goes (.inr headed), if_neg (by simp [ringDry, more]),
    if_pos (Bool.and_eq_true_iff.mpr ⟨stream, gap⟩)]

variable (noGap : b.pb.gapAt.contains b.pb.rd = false)
include noGap

omit stream in
theorem descFetch_entry (ok : (reservedOk .desc 0 (curDesc b) && rangeOk .desc 0 (curDesc b)) = true) :
    descFetch b = reachDesc (curDesc b) { b with pb := { b.pb with curIdx := b.pb.idx } } := by
  rw [descFetch_lit lit walk goes (.inr headed), if_neg (by simp [ringDry, more]), if_neg (by rw [noGap]; simp),
    if_neg (by rw [ok]; simp)]

theorem descFetch_wrong (bad : (reservedOk .desc 0 (curDesc b) && rangeOk .desc 0 (curDesc b)) = false) : descFetch b =
    gapEnd 3 (ringPop { b with pb := { b.pb with curIdx := b.pb.idx, gaps := satAdd 16 b.pb.gaps 1 } }) := by
  rw [descFetch_lit lit walk goes (.inr headed), if_neg (by simp [ringDry, more]), if_neg (by rw [noGap]; simp),
    if_pos (by rw [bad, stream]; rfl)]

end Streamed
end Fetch

section Expand
variable {b : State} {d : Obj} {a0 : Int} (lit : mirrorStarve b = b) (walk : b.pb.walk = .expand d a0)
  (runs : b.pb.st = .running)
include lit walk

theorem shotExpand_full (full : heldFull b = true) : shotExpand b = b := by
  simp only [shotExpand, lit, walk, full, Bool.or_true, if_true]

include runs
variable (room : heldFull b = false)
include room

theorem shotExpand_stops (frame : dFlag d 34 = true) (stop : b.pb.stop = some 1) : shotExpand b = pbStopping b := by
  simp [shotExpand, lit, walk, runs, room, frame, stop]

theorem shotExpand_goes (goes : dFlag d 34 = false ∨ b.pb.stop ≠ some 1) : shotExpand b =
    let anchorAt := fun (st : State) => if st.pb.rephase then a0 else anchorOf st d
    let x := applyWaiting (fun w => w.boundary == 1 || (w.boundary == 2 && w.closed))
      (monAdvance (reach (max (anchorAt b + (dF d 1 35 0 : Nat) - leadFine b) b.pb.expandAt) b))
    walkOn (if dFlag d 34 then mirrorTick (expandShot d (anchorAt x) x) else expandShot d (anchorAt x) x) := by
  have runsOn : ¬ (b.pb.st != .running || heldFull b) = true := by simp [runs, room]
  have noStop : ¬ (dFlag d 34 && b.pb.stop == some 1) = true := by rcases goes with h | h <;> simp [h]
  unfold shotExpand
  simp only [lit, walk]
  rw [if_neg runsOn, if_neg noStop]

end Expand

/-- The moment of a decision point: 16 ns before the origin of the segment's last shot, or at once (R112). -/
def decisionAt (b : State) : State :=
  match b.pb.origin with
  | some o => if b.pb.passed then b else reach (o - 16 * fineNs) b
  | none => b

theorem reach_pb (a : Int) (s : State) : (reach a s).pb = s.pb := by
  unfold reach
  split <;> rfl

theorem reach_cfgF (a : Int) (s : State) (k : CfgKind) (i n hi lo : Nat) :
    cfgF (reach a s) k i n hi lo = cfgF s k i n hi lo := by
  unfold reach
  split <;> rfl

theorem decisionAt_pb (b : State) : (decisionAt b).pb = b.pb := by
  unfold decisionAt
  split
  · split
    · rfl
    · exact reach_pb ..
  · rfl

theorem decisionAt_cfgF (b : State) (k : CfgKind) (i n hi lo : Nat) : cfgF (decisionAt b) k i n hi lo = cfgF b k i n hi lo := by
  unfold decisionAt
  split
  · split
    · rfl
    · exact reach_cfgF ..
  · rfl

section Decide
variable {b x : State} (walk : b.pb.walk = .decide) (is : decisionAt b = x)
include walk is

/-- What a decision point decides: a STOP, a latched jump, or the end action (R112). -/
theorem decisionPoint_at : decisionPoint b =
    if x.pb.stop == some 2 then pbStopping x
    else match x.pb.latch with
    | some slot => unstarve (enterSeg (cfgF x .jump slot 0 11 0) { x with pb := { x.pb with
        latch := none, stack := [], jumpsTaken := satAdd 16 x.pb.jumpsTaken 1 } })
    | none =>
      match dF x.pb.entry 0 61 60 with
      | 2 => pbStopping x
      | 1 => unstarve (loopEnd x)
      | _ => unstarve (enterSeg (dF x.pb.entry 0 59 48) x) := by
  subst is
  exact (if_neg (by simp [walk])).trans rfl

theorem decisionPoint_stops (stop : b.pb.stop = some 2) : decisionPoint b = pbStopping x := by
  have stopX : x.pb.stop = some 2 := by rw [← is, decisionAt_pb, stop]
  rw [decisionPoint_at walk is, if_pos (by simp [stopX])]

variable (goes : b.pb.stop ≠ some 2)
include goes

theorem decisionPoint_jumps {slot : Nat} (latched : b.pb.latch = some slot) : decisionPoint b =
    unstarve (enterSeg (cfgF b .jump slot 0 11 0) { x with pb := { x.pb with
      latch := none, stack := [], jumpsTaken := satAdd 16 x.pb.jumpsTaken 1 } }) := by
  have samePb : x.pb = b.pb := is ▸ decisionAt_pb b
  have sameCfg : cfgF x .jump slot 0 11 0 = cfgF b .jump slot 0 11 0 := is ▸ decisionAt_cfgF b ..
  have latchX : x.pb.latch = some slot := by rw [samePb, latched]
  rw [decisionPoint_at walk is, if_neg (by simp [samePb, goes])]
  simp only [latchX, sameCfg]

theorem decisionPoint_ends (empty : b.pb.latch = none) : decisionPoint b =
    if dF b.pb.entry 0 61 60 = 2 then pbStopping x
    else if dF b.pb.entry 0 61 60 = 1 then unstarve (loopEnd x) else unstarve (enterSeg (dF b.pb.entry 0 59 48) x) := by
  have samePb : x.pb = b.pb := is ▸ decisionAt_pb b
  have latchX : x.pb.latch = none := by rw [samePb, empty]
  have entryX : x.pb.entry = b.pb.entry := by rw [samePb]
  rw [decisionPoint_at walk is, if_neg (by simp [samePb, goes])]
  simp only [latchX, entryX]
  split
  next h => rw [if_pos h]
  next h => rw [h, if_neg (by decide), if_pos rfl]
  next h2 h1 => rw [if_neg h2, if_neg h1]

end Decide

/-- Settles O41: the walk of the Playbook. -/
theorem walk : Obligations.Walk := by
  refine ⟨?_, ?_⟩
  · intro dt s b at_ lit
    have lit' := mirrorStarve_lit lit
    refine ⟨fun fetch goes => ?_, fun d a0 expand runs room frame stop => ?_, ?_⟩
    · intro d
      rw [exec_descFetch at_]
      exact ⟨fun resident => by rw [descFetch_resident lit' fetch goes resident],
        fun stream headed dry => by rw [descFetch_dry lit' fetch goes stream headed dry],
        fun stream headed more noGap ok => by rw [descFetch_entry lit' fetch goes headed more noGap ok],
        fun stream headed more gap => by rw [descFetch_gap lit' fetch goes stream headed more gap],
        fun stream headed more noGap bad => by rw [descFetch_wrong lit' fetch goes stream headed more noGap bad]⟩
    · rw [exec_shotExpand at_, shotExpand_stops lit' expand runs room frame stop]
      rfl
    · intro d a0 expand runs goes anchorAt x
      have expands (room : heldFull b = false) : exec (.shotExpand dt) s = .next (settle s (walkOn
          (if dFlag d 34 then mirrorTick (expandShot d (anchorAt x) x) else expandShot d (anchorAt x) x))) := by
        rw [exec_shotExpand at_, shotExpand_goes lit' expand runs room goes]
      clear_value x
      refine ⟨fun room plain => ?_, fun room frame => ?_, fun full => ?_⟩
      · rw [expands room, if_neg (by simp [plain])]
      · rw [expands room, if_pos frame]
      · rw [exec_shotExpand at_, shotExpand_full lit' expand full]
  · intro dt s b at_
    refine ⟨?_, fun stopping done_ => ?_, fun not_ => ?_⟩
    · intro decides x stopped
      have is : decisionAt b = x := rfl
      have points : exec (.segmentDecisionPoint dt) s = .next (settle s (decisionPoint b)) := exec_segmentDecisionPoint at_
      have stops : pbStopping x = stopped := rfl
      clear_value stopped x
      rw [points, ← stops]
      refine ⟨fun stop => by rw [decisionPoint_stops decides is stop],
        fun slot goes latched => by rw [decisionPoint_jumps decides is goes latched], fun goes empty => ?_⟩
      rw [decisionPoint_ends decides is goes empty]
      exact ⟨fun ends => by rw [if_pos ends], fun loops => by rw [if_neg (by omega), if_pos loops],
        fun notLoop notEnd => by rw [if_neg notEnd, if_neg notLoop]⟩
    · rw [exec_pbHalt at_]
      exact congrArg (fun y => Host.Outcome.next (settle s y)) (if_pos (by simp [stopping, done_]))
    · rw [exec_pbHalt at_]
      exact congrArg (fun y => Host.Outcome.next (settle s y)) (if_neg (by rcases not_ with h | h <;> simp [h]))

/-! ### Shot clock, mirror edges, link words, shot origins and windows (R119, R123 to R125, R155, R158, R168, R202) -/

section
variable {dt : Nat} {s b : State} (at_ : At dt s b)
include at_

theorem exec_shotClockEvent : exec (.shotClockEvent dt) s = .next (settle s (clockEvent b)) := by
  show execShotClockEvent dt s = _
  unfold execShotClockEvent
  exact doneOn_to at_ rfl

theorem exec_mp0Edge (mp1 : Bool) : exec (.mp0Edge dt mp1) s = .next (settle s (mpEdge mp1 b)) := by
  show execMp0Edge dt mp1 s = _
  unfold execMp0Edge
  exact doneOn_to at_ rfl

theorem exec_mirrorEdgeTimeout : exec (.mirrorEdgeTimeout dt) s = .next (settle s (mirrorTimeout b)) := by
  show execMirrorEdgeTimeout dt s = _
  unfold execMirrorEdgeTimeout
  exact doneOn_to at_ rfl

theorem exec_steerUpdateEdge (n : Fin 4) : exec (.steerUpdateEdge dt n) s = .next (settle s (steerEdge n.val b)) := by
  show execSteerUpdateEdge dt n s = _
  unfold execSteerUpdateEdge
  exact doneOn_to at_ rfl

theorem exec_shotOrigin (ti : Fin 64) : exec (.shotOrigin dt ti) s = .next (settle s (shotOrigin ti.val b)) := by
  show execShotOrigin dt ti s = _
  unfold execShotOrigin
  exact doneOn_to at_ rfl

theorem exec_postWindowEnd (ti : Fin 64) : exec (.postWindowEnd dt ti) s = .next (settle s (postEnd ti.val b)) := by
  show execPostWindowEnd dt ti s = _
  unfold execPostWindowEnd
  exact doneOn_to at_ rfl

theorem exec_rearm (ti : Fin 64) : exec (.rearm dt ti) s = .next (settle s (tileRearm ti.val b)) := by
  show execRearm dt ti s = _
  unfold execRearm
  exact doneOn_to at_ rfl

end

section Clock
/-! A shot-clock event on the grid that stands, or on the next from its change point on (R119). -/
variable {b x : State} (on : b.pb.gridOn = true)
include on

theorem clockEvent_on (is : reach (nextEvent b) b = x) : clockEvent b =
    let q := gridsLeft x.pb.gridOld x.pb.gridK
    { x with pb := { x.pb with scEvent := (x.pb.scEvent + 1) % 2 ^ 32, gridOld := q.1, gridK := q.2 + 1 } } := by
  subst is
  exact (if_neg (by simp [on])).trans rfl

theorem clockEvent_left {q : List (Int × Nat × Int) × Nat} (left : gridsLeft b.pb.gridOld b.pb.gridK = q)
    (is : reach (nextEvent b) b = x) : clockEvent b =
      { x with pb := { x.pb with scEvent := (x.pb.scEvent + 1) % 2 ^ 32, gridOld := q.1, gridK := q.2 + 1 } } := by
  have samePb : x.pb = b.pb := is ▸ reach_pb ..
  have leftX : gridsLeft x.pb.gridOld x.pb.gridK = q := by rw [samePb, left]
  rw [clockEvent_on on is, leftX]

/-- On a grid that goes on, the grids stand as they stood. -/
theorem clockEvent_same (left : gridsLeft b.pb.gridOld b.pb.gridK = (b.pb.gridOld, b.pb.gridK))
    (is : reach (nextEvent b) b = x) : clockEvent b =
      { x with pb := { x.pb with scEvent := (x.pb.scEvent + 1) % 2 ^ 32, gridK := x.pb.gridK + 1 } } := by
  have samePb : x.pb = b.pb := is ▸ reach_pb ..
  rw [clockEvent_left on left is, ← samePb]

end Clock

theorem nextEvent_first {b : State} (none : b.pb.gridOld = []) :
    nextEvent b = b.pb.gridT + (b.pb.gridK : Int) * b.pb.gridPer := by
  simp only [nextEvent, none, gridsLeft]

theorem gridsLeft_stands {g end_ : Int} {per k : Nat} {l : List (Int × Nat × Int)} (before : g + (k : Int) * per < end_) :
    gridsLeft ((g, per, end_) :: l) k = ((g, per, end_) :: l, k) := if_pos before

theorem gridsLeft_changes {g end_ : Int} {per k : Nat} {l : List (Int × Nat × Int)} (over_ : end_ ≤ g + (k : Int) * per) :
    gridsLeft ((g, per, end_) :: l) k = gridsLeft l 0 := if_neg (by omega)

section Mirror
/-! An edge of MP0, accepted or not (R123, R124, R158). -/
variable {mp1 : Bool} {b v : State} (is : monInputs 33 mp1 false b = v)
include is

theorem mpEdge_none (none : mpAccepts v = false) : mpEdge mp1 b = v := by
  subst is
  exact if_pos (by simp [none])

/-- The edge kept, the scan direction with it. -/
def edgeKept (u : State) : State :=
  { u with pb := { u.pb with
    mpEdges := (mpStamp u :: u.pb.mpEdges).take 65
    scanDir := if cfgF u .pb 0 3 29 29 = 1 then scanDirNow u else u.pb.scanDir } }

/-- The shot clock after an edge kept: in mirror mode it starts anew at the edge (R119). -/
def edgeClock (u : State) : State :=
  let x := edgeKept u
  if mirrorMode x then gridStart (mpStamp u) (cfgF u .pb 0 4 35 0 : Nat) ((mirrorSpacing x).getD x.pb.gridPer) x else x

/-- An accepted edge is good where it comes as predicted (R124). -/
def edgeGood (u : State) : Bool :=
  match mirrorNext u with
  | some e => decide ((mpStamp u - e).natAbs ≤ cfgF u .pb 0 3 63 48 * 4096)
  | none => false

theorem mpEdge_accepted {u : State} (accepts : mpAccepts v = true) (seen : monUpd 32 (fun x => { x with crossNew := false }) v = u) :
    mpEdge mp1 b =
      let y := edgeClock u
      if !edgeGood u || decide ((mirrorSpacing (edgeKept u)).getD (edgeKept u).pb.gridPer < 500 * fineNs) then mirrorLost y
      else unstarve { y with pb := { y.pb with
        mpGood := min 8 (y.pb.mpGood + 1), mirrorLocked := y.pb.mirrorLocked || min 8 (y.pb.mpGood + 1) == 8 } } := by
  subst is seen
  exact (if_neg (by simp [accepts])).trans rfl

end Mirror

theorem cfgF_bit (s : State) (k : CfgKind) (i n bit : Nat) : cfgF s k i n bit bit = 0 ∨ cfgF s k i n bit bit = 1 := by
  have small : cfgF s k i n bit bit < 2 ^ (bit - bit + 1) := Nat.mod_lt _ (by positivity)
  rw [Nat.sub_self] at small
  omega

theorem mpAccepts_none {v : State} (none : (monGet v 32).held = true ∨ v.tb.epochSet = false ∨
    (cfgF v .mp 0 0 56 56 = 1 ∧ ((monGet v 32).filt = false ∨ (monGet v 32).crossNew = false))) : mpAccepts v = false := by
  unfold mpAccepts
  rcases none with h | h | ⟨en, h | h⟩
  · simp [h]
  · simp [h]
  · simp [en, h]
  · simp [en, h]

theorem mpAccepts_one {v : State} (resolved : (monGet v 32).held = false) (set : v.tb.epochSet = true)
    (new : cfgF v .mp 0 0 56 56 = 1 → (monGet v 32).filt = true ∧ (monGet v 32).crossNew = true) : mpAccepts v = true := by
  unfold mpAccepts
  rcases cfgF_bit v .mp 0 0 56 with off | en
  · simp [resolved, set, off]
  · obtain ⟨filt, cross⟩ := new en
    simp [resolved, set, filt, cross]

theorem shotOrigin_acquired {ti : Nat} {b x : State} {e : ShotEnt} {r : List ShotEnt}
    (is : passDue true ti (tileGet b ti).shots.length b = x) (none : (tileGet x ti).cur = none)
    (first : (tileGet x ti).shots = e :: r) (acquired : e.judge = .acquired) :
    shotOrigin ti b = underCheck (startShot ti e (passBoundaries (reach e.origin x))) := by
  simp only [shotOrigin, is, none, first, acquired]
  rfl

theorem steerEdge_word {n : Nat} {b x : State} {w : LinkWord} {r : List LinkWord}
    (waits : (tabGet ({} : Link) b.pb.links n).words = w :: r) (is : reach w.at_ b = x) : steerEdge n b =
      out (.link n w.driver (linkBits x n w.word)) { x with pb := { x.pb with
        links := tabUpd {} x.pb.links n (fun l => { l with words := r, last := w.word })
        upds := (w.at_ :: x.pb.upds).filter (fun t => decide (x.now ≤ t + keepFine)) } } := by
  subst is
  simp only [steerEdge, waits]
  rfl

/-- Settles O42: the shot clock, mirror edges, link words, shot origins and windows. -/
theorem shotsAndWindows : Obligations.ShotsAndWindows := by
  refine ⟨?_, ?_, ?_⟩
  · intro dt s b at_
    have ticks := exec_shotClockEvent at_
    refine ⟨fun on none => ?_, fun g per end_ l on old => ⟨fun before => ?_, fun after last => ?_, fun after => ?_⟩,
      fun off => ?_, ?_, ?_, fun e next locked => ?_⟩
    · have left : gridsLeft b.pb.gridOld b.pb.gridK = (b.pb.gridOld, b.pb.gridK) := by rw [none, gridsLeft]
      rw [ticks, ← nextEvent_first none]
      exact congrArg (fun y => Host.Outcome.next (settle s y)) (clockEvent_same on left rfl)
    · have left : gridsLeft b.pb.gridOld b.pb.gridK = (b.pb.gridOld, b.pb.gridK) := by rw [old, gridsLeft_stands before]
      have next : nextEvent b = g + (b.pb.gridK : Int) * per := by rw [nextEvent, left, old]
      rw [ticks, ← next]
      exact congrArg (fun y => Host.Outcome.next (settle s y)) (clockEvent_same on left rfl)
    · have left : gridsLeft b.pb.gridOld b.pb.gridK = ([], 0) := by rw [old, gridsLeft_changes after, last, gridsLeft]
      have next : nextEvent b = b.pb.gridT := by simp [nextEvent, left]
      rw [ticks, ← next]
      exact congrArg (fun y => Host.Outcome.next (settle s y)) (clockEvent_left on left rfl)
    · have left : gridsLeft b.pb.gridOld b.pb.gridK = gridsLeft l 0 := by rw [old, gridsLeft_changes after]
      rw [ticks]
      exact congrArg (fun y => Host.Outcome.next (settle s y)) (clockEvent_left on left rfl)
    · rw [ticks]
      exact congrArg (fun y => Host.Outcome.next (settle s y)) (if_pos (by simp [off]))
    · intro mp1 u none
      rw [exec_mp0Edge at_, mpEdge_none rfl (mpAccepts_none none)]
    · intro mp1 v resolved set new u t x sp y
      have edge : exec (.mp0Edge dt mp1) s = .next (settle s (if !edgeGood u || decide (sp < 500 * fineNs) then mirrorLost y
          else unstarve { y with pb := { y.pb with
            mpGood := min 8 (y.pb.mpGood + 1), mirrorLocked := y.pb.mirrorLocked || min 8 (y.pb.mpGood + 1) == 8 } })) := by
        rw [exec_mp0Edge at_, mpEdge_accepted rfl (mpAccepts_one resolved set new) rfl]
        rfl
      have good : edgeGood u = match mirrorNext u with
        | some e => decide ((t - e).natAbs ≤ cfgF u .pb 0 3 63 48 * 4096)
        | none => false := rfl
      clear_value y sp x t
      rw [edge]
      refine ⟨fun none => ?_, fun e next wide => ⟨fun far => ?_, fun near => ?_⟩⟩
      · rw [if_pos]
        rcases none with h | h
        · simp [good, h]
        · simp [h]
      · rw [if_pos]
        simp [good, next, far]
      · rw [if_neg]
        simp [good, next, near]
        omega
    · rw [exec_mirrorEdgeTimeout at_, mirrorTimeout, next, locked]
      rfl
  · intro dt s b at_
    refine ⟨?_, fun line link off => ?_, ?_⟩
    · intro n w r waits x bits
      rw [exec_steerUpdateEdge at_]
      exact congrArg (fun y => Host.Outcome.next (settle s y)) (steerEdge_word waits rfl)
    · simp [unitLevel, off]
    · intro ti e r x none first acquired
      rw [exec_shotOrigin at_]
      exact congrArg (fun y => Host.Outcome.next (settle s y)) (shotOrigin_acquired rfl none first acquired)
  · intro dt ti s b at_
    refine ⟨fun e cur => ?_, fun hold => ?_, fun other => ?_⟩
    · rw [exec_postWindowEnd at_, postEnd, cur]
    · rw [exec_rearm at_]
      exact congrArg (fun y => Host.Outcome.next (settle s y)) (if_pos (by simp [hold]))
    · rw [exec_rearm at_]
      exact congrArg (fun y => Host.Outcome.next (settle s y)) (if_neg (by simp [other]))

/-! ### The stream, jumps and segments (R108, R111, R113, R129 to R131, R366) -/

section
variable {dt : Nat} {s b : State} (at_ : At dt s b)
include at_

theorem exec_pbStreamDoorbell (v : BitVec 32) : exec (.pbStreamDoorbell dt v) s = .next (settle s (streamRing v.toNat b)) := by
  show execPbStreamDoorbell dt v s = _
  unfold execPbStreamDoorbell
  exact doneOn_to at_ rfl

theorem exec_streamDmaFetch (es : List (Vector Word 4)) : exec (.streamDmaFetch dt es) s = .next (settle s (dmaFetch (es.map Vector.toList) b)) := by
  show execStreamDmaFetch dt es s = _
  unfold execStreamDmaFetch
  exact doneOn_to at_ rfl

theorem exec_streamDatagram (p : Fin 2) (f : EthFrame) (seq n : Nat) (es : List Obj) (frame : wfFrame f = true)
    (entries : wfEntries es = true) : exec (.streamDatagram dt ⟨p, f⟩ ⟨seq, n⟩ es) s = .next (settle s (
      if (frameRx p f b).1 && f.udp.map (fun u => u.2) == some (cfgF b .stream 0 0 15 0)
      then streamData seq n es (frameRx p f b).2 else (frameRx p f b).2)) := by
  show execStreamDatagram dt ⟨p, f⟩ ⟨seq, n⟩ es s = _
  unfold execStreamDatagram
  refine doneOn_to at_ ((if_pos frame).trans ?_)
  simp only [entries, if_true]
  rfl

end

section Datagram
/-! A stream datagram that the device accepts for its stream (R130, R131). -/
variable {seq n : Nat} {es : List Obj} {c x : State}

theorem streamData_off (other : cfgF c .stream 0 0 27 26 ≠ 2) : streamData seq n es c = c := if_pos other

/-- The numbers leave a gap: a bad datagram since the last, or another number than the next (R131). -/
def netGap (seq : Nat) (x : State) : Bool :=
  x.pb.netBad || (match x.pb.netSeq with
    | some k => decide (seq % 2 ^ 32 ≠ (k + 1) % 2 ^ 32)
    | none => false)

variable (udp : cfgF c .stream 0 0 27 26 = 2) (is : underCheck c = x)
include udp is

theorem streamData_bad (bad : n = 0 ∨ 44 < n ∨ es.length ≠ n) : streamData seq n es c =
    { x with pb := { x.pb with bad := satAdd 12 x.pb.bad 1, netBad := true } } := by
  subst is
  exact (if_neg (by simp [udp])).trans ((if_pos bad).trans rfl)

variable (some_ : 1 ≤ n) (most : n ≤ 44) (whole : es.length = n)
include some_ most whole

theorem streamData_overflow (full : ringRoom x < n) : streamData seq n es c =
    { x with pb := { x.pb with overflow := satAdd 16 x.pb.overflow 1 } } := by
  subst is
  exact (if_neg (by simp [udp])).trans ((if_neg (by omega)).trans ((if_pos full).trans rfl))

theorem streamData_enters (room : n ≤ ringRoom x) : streamData seq n es c =
    let y := if netGap seq x then { x with pb := { x.pb with gaps := satAdd 16 x.pb.gaps 1, gapAt := x.pb.gapAt ++ [x.pb.wr] } } else x
    unstarve (ringAdd es { y with pb := { y.pb with netSeq := some (seq % 2 ^ 32), netBad := false } }) := by
  subst is
  exact (if_neg (by simp [udp])).trans ((if_neg (by omega)).trans ((if_neg (by omega)).trans rfl))

end Datagram

/-- Settles O43: the doorbell, the DMA fetch and the datagrams of the stream. -/
theorem streaming : Obligations.Streaming := by
  intro dt s b at_
  refine ⟨fun v => ?_, ?_, fun es other => ?_, ?_⟩
  · rw [exec_pbStreamDoorbell at_]
    rfl
  · intro es host_ x host n y
    rw [exec_streamDmaFetch at_]
    refine congrArg (fun z => Host.Outcome.next (settle s z)) ((if_neg (by simp [host_])).trans ?_)
    simp only [List.length_map]
    rfl
  · rw [exec_streamDmaFetch at_]
    exact congrArg (fun z => Host.Outcome.next (settle s z)) (if_pos other)
  · intro p f seq n es frame entries a c act
    have arrives : act = .next (settle s (
        if a.1 && f.udp.map (fun u => u.2) == some (cfgF b .stream 0 0 15 0) then streamData seq n es c else c)) :=
      exec_streamDatagram at_ p f seq n es frame entries
    clear_value act c a
    rw [arrives]
    refine ⟨fun none => ?_, fun other => ?_, ?_⟩
    · rw [if_neg (by rcases none with h | h <;> simp [h])]
    · rw [streamData_off other, ite_self]
    · intro passed port udp x
      have is : underCheck c = x := rfl
      clear_value x
      rw [if_pos (by simp [passed, port])]
      refine ⟨fun bad => by rw [streamData_bad udp is bad],
        fun some_ most whole full => by rw [streamData_overflow udp is some_ most whole full], fun some_ most whole room => ?_⟩
      rw [streamData_enters udp is some_ most whole room]
      intro enter gap
      refine ⟨fun bad => ?_, fun good none => ?_, fun k good last next => ?_, fun k last other => ?_⟩
      · have gaps : netGap seq x = true := by simp [netGap, bad]
        rw [gaps]
        rfl
      · have follows : netGap seq x = false := by simp [netGap, good, none]
        rw [follows]
        rfl
      · have follows : netGap seq x = false := by simpa [netGap, good, last] using next
        rw [follows]
        rfl
      · have differs : decide (seq % 2 ^ 32 ≠ (k + 1) % 2 ^ 32) = true := decide_eq_true other
        have gaps : netGap seq x = true := by simp only [netGap, last, differs, Bool.or_true]
        rw [gaps]
        rfl

/-- Settles O44: a jump request, and entering a segment. -/
theorem jumpsAndSegments : Obligations.JumpsAndSegments := by
  intro s
  refine ⟨fun slot => ?_, fun seg invalid => ?_, fun seg valid => ?_⟩
  · exact ⟨rfl, by simp [latchJump, pbUpd], rfl⟩
  · have stops : enterSeg seg s = pbFault 2 (pbUpd (fun p => { p with seg := seg, idx := 0, curIdx := 0 }) s) := if_pos invalid
    rw [stops]
    exact ⟨rfl, rfl⟩
  · have enters : ¬ dF (cfgObj s .seg seg) 0 63 63 = 0 := by omega
    intro r
    have is : r = _ := if_neg enters
    rw [is]
    exact ⟨rfl, rfl, rfl, rfl, rfl⟩

/-! ### Recorder markers, timers and triggers (R180, R182, R183, R185, R187) -/

section
variable {dt : Nat} {s b : State} (at_ : At dt s b)
include at_

theorem exec_recEpochMarker (ti : Fin 64) : exec (.recEpochMarker dt ti) s = .next (settle s (recEpoch ti.val b)) := by
  show execRecEpochMarker dt ti s = _
  unfold execRecEpochMarker
  exact doneOn_to at_ rfl

theorem exec_recHoldEnd (ti : Fin 64) : exec (.recHoldEnd dt ti) s = .next (settle s (recHoldOver ti.val b)) := by
  show execRecHoldEnd dt ti s = _
  unfold execRecHoldEnd
  exact doneOn_to at_ rfl

theorem exec_recPostTimeout (ti : Fin 64) : exec (.recPostTimeout dt ti) s = .next (settle s (recTimeout ti.val b)) := by
  show execRecPostTimeout dt ti s = _
  unfold execRecPostTimeout
  exact doneOn_to at_ rfl

theorem exec_recReadoutDone (ti : Fin 64) : exec (.recReadoutDone dt ti) s = .next (settle s (recReadDone ti.val b)) := by
  show execRecReadoutDone dt ti s = _
  unfold execRecReadoutDone
  exact doneOn_to at_ rfl

theorem exec_trigInEdge (pin : Fin 2) : exec (.trigInEdge dt pin) s = .next (settle s (trigIn pin.val b)) := by
  show execTrigInEdge dt pin s = _
  unfold execTrigInEdge
  exact doneOn_to at_ rfl

theorem exec_recTeamArmTime : exec (.recTeamArmTime dt) s = .next (settle s (recTeamArm b)) := by
  show execRecTeamArmTime dt s = _
  unfold execRecTeamArmTime
  exact doneOn_to at_ rfl

theorem exec_recTeamTriggerTime : exec (.recTeamTriggerTime dt) s = .next (settle s (recTeamFire b)) := by
  show execRecTeamTriggerTime dt s = _
  unfold execRecTeamTriggerTime
  exact doneOn_to at_ rfl

end

theorem recTimeout_filling {ti : Nat} {b : State} (filling : (tileGet b ti).rcd.st = .filling) : recTimeout ti b =
    let t := (tileGet b ti).rcd.trigDt + (cfgF b .rcd ti 0 15 0 * fineUs : Nat)
    recFreeze ti t (reach t b) := by
  rw [Nat.cast_mul]
  exact if_pos (by simp [filling])

/-- The earliest of a list is a member of it and below all. -/
theorem earliestOf_spec : ∀ l : List Int, (earliestOf l = none → l = []) ∧ ∀ u, earliestOf l = some u → u ∈ l ∧ ∀ v ∈ l, u ≤ v
  | [] => ⟨fun _ => rfl, by simp [earliestOf]⟩
  | a :: r => by
    obtain ⟨empty, least⟩ := earliestOf_spec r
    unfold earliestOf
    split
    next u first =>
      obtain ⟨mem, below⟩ := least u first
      refine ⟨by simp, fun w is => ?_⟩
      obtain rfl : min a u = w := by simpa using is
      refine ⟨?_, fun v inL => ?_⟩
      · rcases le_total a u with h | h
        · simp [min_eq_left h]
        · simp [min_eq_right h, mem]
      · rcases List.mem_cons.mp inL with rfl | inR
        · exact min_le_left ..
        · exact (min_le_right ..).trans (below v inR)
    next none =>
      obtain rfl := empty none
      exact ⟨by simp, by simp⟩

theorem earliestOf_least {t : Int} {l : List Int} (mem : t ∈ l) (least : ∀ u ∈ l, t ≤ u) : earliestOf l = some t := by
  obtain ⟨empty, spec⟩ := earliestOf_spec l
  cases first : earliestOf l with
  | none => simp [empty first] at mem
  | some u =>
    obtain ⟨inL, below⟩ := spec u first
    rw [le_antisymm (below t mem) (least u inL)]

/-- At the common arming time the team's tiles arm but those that a capture or a calibration holds (R187). -/
theorem recTeamArm_due {b x : State} {t : Int} (due : earliestOf b.team.armAt = some t)
    (is : reach t { b with team := { b.team with armAt := b.team.armAt.erase t } } = x) : recTeamArm b =
      (teamTiles x).foldl (fun a ti =>
        if (tileGet a ti).rcd.st = .filling ∨ (tileGet a ti).rcd.st = .reading ∨ (tileGet a ti).calOut = true then
          recUpd ti (fun r => { r with armIgnored := satAdd 16 r.armIgnored 1 }) a
        else recArm ti a) x := by
  simp only [recTeamArm, due, is, Bool.or_eq_true, beq_iff_eq, or_assoc]

/-- What a team trigger does on one tile (R187). -/
theorem recTeamTake_eq (dev : Nat) (tt t : Int) (rest : List (Nat × Int)) (ti : Nat) (a : State) : recTeamTake dev tt t rest ti a =
    let r := (tileGet a ti).rcd
    if r.gone.contains (dev, tt) = true then recUpd ti (fun y => { y with gone := y.gone.erase (dev, tt) }) a
    else if r.st = .armed then
      recUpd ti (fun y => { y with
        gone := rest, busy := satAdd 16 y.busy (rest.filter (fun p => !y.gone.contains p)).length }) (recTrigger ti 7 dev t a)
    else recTrigger ti 7 dev t a := by
  simp only [recTeamTake, beq_iff_eq]

theorem recTeamFire_first {b y x : State} {dev : Nat} {tt t : Int} (sends : recSends true b = y)
    (first : firstTrig y.team.trigs = some (dev, tt)) (time : tt + teamOfs y + teamLat = t)
    (is : reach t { y with team := { y.team with trigs := y.team.trigs.erase (dev, tt) } } = x) :
    recTeamFire b = (teamTiles x).foldl (fun a ti => recTeamTake dev tt t (y.team.trigs.erase (dev, tt)) ti a) x := by
  simp only [recTeamFire, sends, first, time, is]

theorem teamLat_cast : ((teamLat : Nat) : Int) = 2500 * (fineNs : Int) := by
  push_cast [teamLat]

/-- Settles O45: markers, timers and triggers of the recorders. -/
theorem recorders : Obligations.Recorders := by
  intro dt s b at_
  refine ⟨?_, fun pin => ?_, ?_, ?_⟩
  · intro ti r
    refine ⟨fun writes => ?_, fun hold => ?_, fun filling => ?_, fun reading again => ?_, fun reading frozen => ?_⟩
    · have entered : recWrites (tileGet b ti).rcd = true := by
        rcases writes with h | h | h <;> (simp only [r] at h; simp [recWrites, h])
      intro t x
      rw [exec_recEpochMarker at_]
      exact congrArg (fun z => Host.Outcome.next (settle s z)) (if_pos entered)
    · rw [exec_recHoldEnd at_]
      exact congrArg (fun z => Host.Outcome.next (settle s z)) (if_pos (by simp only [r] at hold; simp [hold]))
    · rw [exec_recPostTimeout at_]
      exact congrArg (fun z => Host.Outcome.next (settle s z)) (recTimeout_filling filling)
    · rw [exec_recReadoutDone at_]
      exact congrArg (fun z => Host.Outcome.next (settle s z))
        ((if_pos (by simp only [r] at reading; simp [reading])).trans (if_pos again))
    · rw [exec_recReadoutDone at_]
      exact congrArg (fun z => Host.Outcome.next (settle s z))
        ((if_pos (by simp only [r] at reading; simp [reading])).trans (if_neg frozen))
  · exact exec_trigInEdge at_ pin
  · intro t mem least x
    rw [exec_recTeamArmTime at_]
    exact congrArg (fun z => Host.Outcome.next (settle s z)) (recTeamArm_due (earliestOf_least mem least) rfl)
  · intro dev tt y first t rest x
    rw [exec_recTeamTriggerTime at_]
    have time : tt + teamOfs y + teamLat = t := by rw [teamLat_cast]
    have fires : recTeamFire b = (teamTiles x).foldl (fun a ti => recTeamTake dev tt t rest ti a) x :=
      recTeamFire_first rfl first time rfl
    rw [fires]
    simp only [recTeamTake_eq]

end Sys2Proof.Machine
end

section
/-! # Emitters and trips (ch. 03), histograms and echoes (ch. 07, ch. 08) -/

namespace Sys2Proof.Machine

/-! ### The scheduler, launches, the accountant, the loopback and the trip balls (R72 to R77, R85 to R98, R246, R377) -/

section
variable {dt : Nat} {s b : State} (at_ : At dt s b)
include at_

theorem exec_volleyOffer (ch : Fin 64) : exec (.volleyOffer dt ch) s = .next (settle s (volleyOffer ch.val b)) := by
  show execVolleyOffer dt ch s = _
  unfold execVolleyOffer
  exact doneOn_to at_ rfl

theorem exec_accountantBucket (ch : Fin 64) (w : Fin 3) : exec (.accountantBucket dt ch w) s = .next (settle s (slideBuckets ch.val w.val b)) := by
  show execAccountantBucket dt ch w s = _
  unfold execAccountantBucket
  exact doneOn_to at_ rfl

theorem exec_edgeLaunch (ch : Fin 64) : exec (.edgeLaunch dt ch) s = .next (settle s (edgeLaunch ch.val b)) := by
  show execEdgeLaunch dt ch s = _
  unfold execEdgeLaunch
  exact doneOn_to at_ rfl

theorem exec_loopbackCheck (ch : Fin 64) (rise : Bool) (seen : Option (Int × Fin 64)) : exec (.loopbackCheck dt ch rise seen) s = .next (settle s (lbCheck ch.val rise seen b)) := by
  show execLoopbackCheck dt ch rise seen s = _
  unfold execLoopbackCheck
  exact doneOn_to at_ rfl

theorem exec_driverBiasSettled (ch : Fin 64) : exec (.driverBiasSettled dt ch) s = .next (settle s (emUpd ch.val (fun e => { e with settled := e.settled || decide (e.out = 1) }) b)) := by
  show execDriverBiasSettled dt ch s = _
  unfold execDriverBiasSettled
  exact doneOn_to at_ rfl

end

theorem volleyOffer_room {ch : Nat} {b x : State} {o : Offer} {t : Int} (first : b.pb.offers.find? (fun o => o.ch == ch) = some o)
    (room : queueFull o b = false) (time : offerTime o b = t) (is : dueNow (reach (nsEnd t) b) = x) : volleyOffer ch b =
      judgeVolley { o with arrive := t } { x with pb := { x.pb with offers := x.pb.offers.erase o } } := by
  simp only [volleyOffer, first, room, time, is, Bool.false_eq_true, if_false]
  rfl

theorem volleyOffer_full {ch : Nat} {b : State} {o : Offer} (first : b.pb.offers.find? (fun o => o.ch == ch) = some o)
    (full : queueFull o b = true) : volleyOffer ch b = b := by
  simp only [volleyOffer, first, full, if_true]

theorem reach_emGet (a : Int) (s : State) (ch : Nat) : emGet (reach a s) ch = emGet s ch := by
  unfold reach
  split <;> rfl

section Launch
/-! The next edge of a channel at its time (R69, R75, R90). -/
variable {ch : Nat} {b x : State} {t u : Int} {v : Vol} (next : earliest (nextEdges b ch) = some (t, u, v)) (is : reach t b = x)
include next is

theorem edgeLaunch_live (live : (emGet b ch).latched = false) : edgeLaunch ch b =
    let p := launchPoint x ch u
    leaveArmed ch (out (.edge ch (v.launched % 2 == 0) u p.1 p.2) (emUpd ch (fun e => { e with
      vols := e.vols.map (fun y => if y = v then { y with launched := y.launched + 1 } else y)
      lbWait := e.lbWait ++ [(v.launched % 2 == 0, u)] }) x)) := by
  have liveX : (emGet x ch).latched = false := by rw [← is, reach_emGet, live]
  simp only [edgeLaunch, next, is, liveX, Bool.false_eq_true, if_false]

theorem edgeLaunch_tripped (tripped : (emGet b ch).latched = true) : edgeLaunch ch b =
    markRefused v.seq (emUpd ch (fun e => { e with tripSkip := satAdd 32 e.tripSkip 1, vols := e.vols.erase v }) x) := by
  have trippedX : (emGet x ch).latched = true := by rw [← is, reach_emGet, tripped]
  simp only [edgeLaunch, next, is, trippedX, if_true]

end Launch

section Loopback
/-! An edge seen by the loopback, matched or not (R95 to R98). -/
variable {ch : Nat} {rise : Bool} {b : State} {y : Int × Fin 64} {t : Int} (time : refTime b ch rise y.1 y.2.val = t)
include time

theorem lbCheck_matched {w : Bool × Int} (near : (emGet b ch).lbWait.find? (fun w => w.1 == rise && closer 3277 w.2 t) = some w) :
    lbCheck ch rise (some y) b =
      let x := emUpd ch (fun e => { e with lbWait := e.lbWait.erase w }) b
      if (t - w.2).natAbs ≤ 409 then emUpd ch (fun e => { e with lbErr := ((t - w.2) :: e.lbErr).take 4096 }) x
      else lbFault ch 1 (t - w.2) x := by
  subst time
  have near' : (emGet b ch).lbWait.find? (fun w => w.1 == rise && closer (lbWindow + 1) w.2 (refTime b ch rise y.1 y.2.val)) = some w :=
    near
  simp only [lbCheck, near']

theorem lbCheck_extra (none : (emGet b ch).lbWait.find? (fun w => w.1 == rise && closer 3277 w.2 t) = none) :
    lbCheck ch rise (some y) b =
      if !rise && decide (0 < (emGet b ch).cuts) then emUpd ch (fun y => { y with cuts := y.cuts - 1 }) b else lbFault ch 3 0 b := by
  subst time
  have none' : (emGet b ch).lbWait.find? (fun w => w.1 == rise && closer (lbWindow + 1) w.2 (refTime b ch rise y.1 y.2.val)) = Option.none :=
    none
  simp only [lbCheck, none']

end Loopback

/-- Settles O47: offers, launches, buckets, the loopback and the driver's bias. -/
theorem schedulerAndEmitters : Obligations.SchedulerAndEmitters := by
  refine ⟨?_, ?_⟩
  · intro dt ch s b at_
    refine ⟨fun o first => ⟨fun room => ?_, fun full => ?_⟩, ?_, fun w => ?_⟩
    · rw [exec_volleyOffer at_]
      exact congrArg (fun z => Host.Outcome.next (settle s z)) (volleyOffer_room first room rfl rfl)
    · rw [exec_volleyOffer at_, volleyOffer_full first full]
    · intro t u v next x p
      rw [exec_edgeLaunch at_]
      exact ⟨fun live => congrArg (fun z => Host.Outcome.next (settle s z)) (edgeLaunch_live next rfl live),
        fun tripped => congrArg (fun z => Host.Outcome.next (settle s z)) (edgeLaunch_tripped next rfl tripped)⟩
    · exact exec_accountantBucket at_ ch w
  · intro dt ch rise s b at_
    refine ⟨?_, fun w waits => ?_, fun none => ?_, exec_driverBiasSettled at_ ch⟩
    · intro cycle code t
      have checks := exec_loopbackCheck at_ ch rise (some (cycle, code))
      have time : refTime b ch rise cycle code = t := rfl
      clear_value t
      refine ⟨fun w near => ?_, fun none => ?_⟩
      · rw [checks, lbCheck_matched (y := (cycle, code)) time near]
        exact ⟨fun close => by rw [if_pos close], fun off => by rw [if_neg (by omega)]⟩
      · rw [checks, lbCheck_extra (y := (cycle, code)) time none]
        refine ⟨fun h => ?_, fun fall cut => ?_⟩
        · rw [if_neg (by rcases h with h | h <;> simp [h])]
        · rw [if_pos (by simp [fall, cut])]
    · rw [exec_loopbackCheck at_, lbCheck]
      simp only [waits]
    · rw [exec_loopbackCheck at_, lbCheck]
      simp only [none]

/-- Settles O48: the TRIP_N balls. -/
theorem tripBalls : Obligations.TripBalls := by
  intro dt pin low s b at_ x
  have falls (f : State) (is : (if b.pwr.inReset || b.pwr.shut then
      (if 500 ≤ low then { b with tripN := b.tripN ||| 2 ^ pin.val } else b) else tripFall pin.val low b) = f) :
      exec (.tripNAssert dt pin low) s = .next (settle s f) := by
    show execTripNAssert dt pin low s = _
    unfold execTripNAssert
    exact done_to at_ is
  have onB (on : s.on = true) : ¬ (b.pwr.inReset || b.pwr.shut) = true := by
    obtain ⟨out, lit⟩ := At.runs ⟨on, at_⟩
    simp [out, lit]
  have offB (off : s.on = false) : (b.pwr.inReset || b.pwr.shut) = true := by
    rw [← at_, begin_inReset, begin_shut]
    cases out : s.pwr.inReset
    · simpa [State.on, out] using off
    · rfl
  refine ⟨fun long on => ?_, fun long off => ?_, fun short off => ?_, fun short on => ?_, ?_⟩
  · exact falls _ ((if_neg (onB on)).trans ((if_pos long).trans rfl))
  · exact falls _ ((if_pos (offB off)).trans (if_pos long))
  · exact falls _ ((if_pos (offB off)).trans (if_neg (by omega)))
  · exact falls _ ((if_neg (onB on)).trans ((if_neg (by omega)).trans rfl))
  · show execTripNDeassert dt pin s = _
    unfold execTripNDeassert
    exact done_to at_ rfl

/-! ### Tags and the bank swap (R213, R230) -/

/-- A block out of reset whose table of tag memories holds an entry at its reset value: the table is not in the
canonical form of the log, that no statement of the obligation asks for. -/
def idleTagsKept : State :=
  { pwr := { inReset := false, io33 := true, rstLow := false }, pers := [(0, {})] }

/-- How many tag memories the table holds at the end of a step. -/
def persAfter : Host.Outcome State Fault Refusal → Nat
  | .next t => t.pers.length
  | _ => 0

/-- Refutes O50: PERS_TAG_CLEAR_DONE with nothing being cleared puts the quadrant's entry in its canonical form, so that an
entry at its reset value leaves the table; the state that it found does not come out. -/
theorem not_enginesHaltAndTags : ¬ Obligations.EnginesHaltAndTags := by
  intro h
  obtain ⟨-, events⟩ := h
  obtain ⟨-, -, -, idle⟩ := events 0 idleTagsKept (begin_ 0 idleTagsKept) ⟨rfl, rfl⟩
  have same := idle 0 (by decide +kernel)
  exact absurd (congrArg persAfter same) (by decide +kernel)

/-- Settles O51: what a bank swap does and answers. -/
theorem bankSwap : Obligations.BankSwap := by
  intro q bank m s e r
  refine ⟨fun still same => ?_, fun still other => ?_, fun runs none => ?_, fun k n runs queued => ?_⟩
  · have is : r = (s, pack [(2, 1), (62, 0)]) := (if_pos (show (!e.run) = true by simp [still])).trans (if_pos same)
    rw [is]
    exact ⟨rfl, rfl⟩
  · have is : r = (engUpd q (fun x => { x with run := true, target := bank, m := m, pos := 0 }) s, 0) :=
      (if_pos (show (!e.run) = true by simp [still])).trans (if_neg other)
    rw [is]
    exact ⟨engGet_engUpd_same .., rfl⟩
  · have is : r = (engUpd q (fun x => { x with queued := some (bank, m) }) s, pack [(2, 2), (62, 0)]) := by
      simp only [e] at runs none
      simp only [r, swapBank, runs, none, Bool.not_true, Bool.false_eq_true, if_false]
    rw [is]
    exact ⟨engGet_engUpd_same .., rfl⟩
  · have is : r = (engUpd q (fun x => { x with queued := some (bank, m), replaced := satAdd 16 x.replaced 1 }) s,
        pack [(2, 3), (1, k), (45, 0), (16, n)]) := by
      simp only [e] at runs queued
      simp only [r, swapBank, runs, queued, Bool.not_true, Bool.false_eq_true, if_false]
    rw [is]
    exact ⟨engGet_engUpd_same .., rfl⟩

end Sys2Proof.Machine
end

section
/-! # The Umpire's events (ch. 14), the host interfaces (ch. 11) and the output network (ch. 13) -/

namespace Sys2Proof.Machine

/-! ### The self-test, the controller's watch, memory errors, plausibility and liveness (R385 to R397) -/

/-- The end of the self-test (R385). -/
def selftestDone (fail : Option (Nat × Nat)) (s : State) : State :=
  if s.safe.selftest then
    let s1 := safeUpd (fun u => { u with selftest := false }) s
    match fail with
    | some f => bootReady (decideCause 2 f.1 f.2 s1)
    | none => bootReady s1
  else s

/-- A service of the watchdog (R387). -/
def watchdogService (s : State) : State :=
  if s.ctl.fwFault then s
  else
    match s.safe.wdAt with
    | some t =>
      let s1 := safeUpd (fun u => { u with wdAt := some s.up }) s
      if s.up < t + 32 * s.tb.aonCal then decideCause 7 0 1 s1 else s1
    | none => s

/-- The watchdog's timeout (R387). -/
def watchdogTimeout (s : State) : State :=
  match s.safe.wdAt with
  | some t => decideCause 7 0 0 (safeUpd (fun u => { u with wdAt := none }) (reachUp (t + 320 * s.tb.aonCal) s))
  | none => s

/-- HOST_SILENT comes (R395). -/
def hostSilent (s : State) : State :=
  if cfgF s .safe 0 0 31 16 = 0 ∨ s.safe.active.testBit 17 then s
  else
    let s1 := reachUp (max (s.safe.confirmAt.getD 0) s.safe.liveAt + aonSpan s (cfgF s .safe 0 0 31 16 * fineMs)) s
    decideCause 17 0 (msSinceConfirm s1) s1

/-- HEARTBEAT comes (R397). -/
def heartbeat (s : State) : State :=
  if cfgF s .safe 0 0 47 32 = 0 then s
  else
    let s1 := reachUp (s.safe.heartAt + aonSpan s (cfgF s .safe 0 0 47 32 * fineMs)) s
    decideCause 30 0 s1.safe.active (safeUpd (fun u => { u with heartAt := s1.up }) s1)

section
variable {dt : Nat} {s b : State} (at_ : At dt s b)
include at_

theorem exec_selftestDone (fail : Option (Nat × Nat)) : exec (.selftestDone dt fail) s = .next (settle s (selftestDone fail b)) := by
  show execSelftestDone dt fail s = _
  unfold execSelftestDone
  exact doneOn_to at_ rfl

theorem exec_lockstepMismatch (g : Fin 8) : exec (.lockstepMismatch dt g) s = .next (settle s (if b.ctl.fwFault then b else decideCause 6 0 g.val b)) := by
  show execLockstepMismatch dt g s = _
  unfold execLockstepMismatch
  exact doneOn_to at_ rfl

theorem exec_watchdogService : exec (.watchdogService dt) s = .next (settle s (watchdogService b)) := by
  show execWatchdogService dt s = _
  unfold execWatchdogService
  exact doneOn_to at_ rfl

theorem exec_watchdogTimeout : exec (.watchdogTimeout dt) s = .next (settle s (watchdogTimeout b)) := by
  show execWatchdogTimeout dt s = _
  unfold execWatchdogTimeout
  exact doneOn_to at_ rfl

theorem exec_eccRateWindow : exec (.eccRateWindow dt) s = .next (settle s (if b.safe.ceOver = 0 then b else decideCause 9 b.safe.ceMem b.safe.ceOver (safeUpd (fun u => { u with ceOver := 0 }) b))) := by
  show execEccRateWindow dt s = _
  unfold execEccRateWindow
  exact doneOn_to at_ rfl

theorem exec_scrub (ch : Fin 1024) (g : Fin 8192) (kind : Fin 3) : exec (.scrub dt ch g kind) s = .next (settle s (eccRead ch.val g.val kind.val b)) := by
  show execScrub dt ch g kind s = _
  unfold execScrub
  exact doneOn_to at_ rfl

theorem exec_memoryScrub (mem g : Nat) (kind : Fin 3) : exec (.memoryScrub dt mem g kind) s = .next (settle s (if 0x400 ≤ mem then eccRead mem g kind.val b else b)) := by
  show execMemoryScrub dt mem g kind s = _
  unfold execMemoryScrub
  exact doneOn_to at_ rfl

theorem exec_tempPlausibilityCheck (t : Int) : exec (.tempPlausibilityCheck dt t) s = .next (settle s (plausCheck t b)) := by
  show execTempPlausibilityCheck dt t s = _
  unfold execTempPlausibilityCheck
  exact doneOn_to at_ rfl

theorem exec_hostSilent : exec (.hostSilent dt) s = .next (settle s (hostSilent b)) := by
  show execHostSilent dt s = _
  unfold execHostSilent
  exact doneOn_to at_ rfl

theorem exec_heartbeat : exec (.heartbeat dt) s = .next (settle s (heartbeat b)) := by
  show execHeartbeat dt s = _
  unfold execHeartbeat
  exact doneOn_to at_ rfl

end

theorem watchdogService_armed {b : State} {a : Nat} (armed : b.safe.wdAt = some a) (runs : b.ctl.fwFault = false) :
    watchdogService b =
      if b.up < a + 32 * b.tb.aonCal then decideCause 7 0 1 (safeUpd (fun u => { u with wdAt := some b.up }) b)
      else safeUpd (fun u => { u with wdAt := some b.up }) b := by
  simp [watchdogService, armed, runs]

theorem watchdogTimeout_armed {b : State} {a : Nat} (armed : b.safe.wdAt = some a) :
    watchdogTimeout b =
      decideCause 7 0 0 (safeUpd (fun u => { u with wdAt := none }) (reachUp (a + 320 * b.tb.aonCal) b)) := by
  simp [watchdogTimeout, armed]

theorem eccRead_corrected (mem g : Nat) (s : State) : eccRead mem g 1 s = eccCorrected mem s := by
  rw [eccRead, if_neg (by omega), if_pos rfl]

theorem eccRead_lost {mem : Nat} (other : mem ≠ 0x420) (g : Nat) (s : State) :
    eccRead mem g 2 s = eccZero mem g (decideCause 8 mem g s) := by
  rw [eccRead, if_neg (by omega), if_neg (by omega), if_neg other]

theorem eccRead_controller (g : Nat) (s : State) : eccRead 0x420 g 2 s = decideCause 8 0x420 g s := by
  rw [eccRead, if_neg (by omega), if_neg (by omega), if_pos rfl]

/-- A granule of a channel's memory lies below 0x400: the error is decided and the granule zeroed (R389, R390). -/
theorem eccRead_channel {mem g : Nat} (small : mem < 0x400) (s : State) :
    eccRead mem g 2 s = eccBank mem g (decideCause 8 mem g s) := by
  rw [eccRead_lost (by omega), eccZero, if_pos small]

/-- What a plausibility check notes before it judges (R393). -/
def plausNoted (t : Int) (s : State) : State :=
  safeUpd (fun u => { u with tempInferred := t, tempSensor := sampleMean s, sameInf := infRun t u }) s

theorem plausCheck_bad {t : Int} {b : State}
    (bad : (plausSuspended b = false ∧ (192 < (sampleMean b - t).natAbs ∨
      1000 ≤ b.safe.sameCnt ∧ infMoved (infRun t b.safe) = true)) ∨ 4 ≤ b.safe.missing) :
    plausCheck t b = implausible (plausNoted t b) := by
  have same : plausSuspended (plausNoted t b) = plausSuspended b := rfl
  refine (if_pos ?_).trans rfl
  rw [← plausNoted, same]
  rcases bad with ⟨going, far | ⟨long, moved⟩⟩ | gone
  · simp [going, plausNoted, safeUpd, far]
  · simp [going, plausNoted, safeUpd, long, moved]
  · simp [plausNoted, safeUpd, gone]

/-- The condition for a check without a fault (R393). -/
theorem plausCheck_good {t : Int} {b : State} (present : b.safe.missing < 4) (tame : b.pwr.samples.any sampleWild = false)
    (fits : plausSuspended b = true ∨ ((sampleMean b - t).natAbs ≤ 192 ∧
      (b.safe.sameCnt < 1000 ∨ infMoved (infRun t b.safe) = false))) :
    plausCheck t b =
      if plausSuspended b then safeUpd (fun u => { u with plausCnt := 0 }) (plausNoted t b)
      else if 10 ≤ b.safe.plausCnt + 1 then causeGone 21 (safeUpd (fun u => { u with plausCnt := u.plausCnt + 1 }) (plausNoted t b))
      else safeUpd (fun u => { u with plausCnt := u.plausCnt + 1 }) (plausNoted t b) := by
  have same : plausSuspended (plausNoted t b) = plausSuspended b := rfl
  refine (if_neg ?_).trans (by rw [← plausNoted, same]; rfl)
  rw [← plausNoted, same]
  rcases fits with off | ⟨near, short | still⟩
  · simp [off, plausNoted, safeUpd, Nat.not_le.mpr present, tame]
  · simp [plausNoted, safeUpd, Nat.not_le.mpr present, tame, Nat.not_le.mpr short, Nat.not_lt.mpr near]
  · simp [plausNoted, safeUpd, Nat.not_le.mpr present, tame, still, Nat.not_lt.mpr near]

theorem infMoved_eq_true {l : List (Nat × Int)} : infMoved l = true ↔ ∃ p ∈ l, ∃ q ∈ l, 80 < q.2 - p.2 := by
  simp only [infMoved, List.any_eq_true, decide_eq_true_eq]
  exact ⟨fun ⟨x, hx, y, hy, far⟩ => ⟨y, hy, x, hx, far⟩, fun ⟨y, hy, x, hx, far⟩ => ⟨x, hx, y, hy, far⟩⟩

theorem infMoved_eq_false {l : List (Nat × Int)} : infMoved l = false ↔ ∀ p ∈ l, ∀ q ∈ l, q.2 - p.2 ≤ 80 := by
  rw [← Bool.not_eq_true, infMoved_eq_true]
  push Not
  rfl

theorem hostSilent_due {b r : State} (on : cfgF b .safe 0 0 31 16 ≠ 0) (quiet : b.safe.active.testBit 17 = false)
    (is : reachUp (max (b.safe.confirmAt.getD 0) b.safe.liveAt + aonSpan b (cfgF b .safe 0 0 31 16 * fineMs)) b = r) :
    hostSilent b = decideCause 17 0 (msSinceConfirm r) r := by
  rw [← is, hostSilent, if_neg (by simp [on, quiet])]

theorem decideCause_heartAt (r : State) :
    decideCause 30 0 r.safe.active (safeUpd (fun u => { u with heartAt := r.up }) r) =
      { r with safe := { r.safe with
        heartAt := r.up, todo := r.safe.todo ++ [{ at_ := r.now, up := r.up, bit := 30, obj := 0, detail := r.safe.active }] } } :=
  rfl

/-- HEARTBEAT, with the block `r` at its time (R397). -/
theorem heartbeat_due {b r : State} (on : cfgF b .safe 0 0 47 32 ≠ 0)
    (is : reachUp (b.safe.heartAt + aonSpan b (cfgF b .safe 0 0 47 32 * fineMs)) b = r) :
    heartbeat b = { r with safe := { r.safe with
      heartAt := r.up, todo := r.safe.todo ++ [{ at_ := r.now, up := r.up, bit := 30, obj := 0, detail := r.safe.active }] } } := by
  rw [← decideCause_heartAt r, ← is, heartbeat, if_neg on]

/-- Settles O59: self-test, lockstep, watchdog, memory errors, plausibility, HOST_SILENT and HEARTBEAT. -/
theorem supervision : Obligations.Supervision := by
  refine ⟨?_, ?_, ?_⟩
  · intro dt s b at_ also
    refine ⟨?_, fun g runs => ?_, ?_, ?_⟩
    · intro testing x
      refine ⟨?_, fun p n => ?_⟩
      · rw [exec_selftestDone at_, selftestDone, if_pos testing]
        rfl
      · rw [exec_selftestDone at_, selftestDone, if_pos testing]
        rfl
    · rw [exec_lockstepMismatch at_, if_neg (by simp [runs])]
      rfl
    · intro a armed runs x
      rw [exec_watchdogService at_, watchdogService_armed armed runs]
      exact ⟨fun late => by rw [if_neg (by omega)]; rfl, fun early => by rw [if_pos early]; rfl⟩
    · intro a armed r
      rw [exec_watchdogTimeout at_, watchdogTimeout_armed armed]
      rfl
  · intro dt s b at_ also limit second corrected
    have fixed (mem g : Nat) : eccRead mem g 1 b = corrected mem := eccRead_corrected mem g b
    have granule {mem g : Nat} {kind : Fin 3} (high : 0x400 ≤ mem) {y : State} (is : eccRead mem g kind.val b = y) :
        exec (.memoryScrub dt mem g kind) s = .next (settle s y) := by
      rw [exec_memoryScrub at_, if_pos high, is]
    have bank {ch : Fin 1024} {g : Fin 8192} {kind : Fin 3} {y : State} (is : eccRead ch.val g.val kind.val b = y) :
        exec (.scrub dt ch g kind) s = .next (settle s y) := by
      rw [exec_scrub at_, is]
    refine ⟨fun h => ?_, fun h => ?_, fun ch g => ⟨bank (if_pos rfl), bank (fixed ch g), bank (eccRead_channel ch.isLt b)⟩,
      fun mem g high => ⟨granule high (if_pos rfl), granule high (fixed mem g), ?_,
        fun other => granule high (eccRead_lost other g b)⟩⟩
    · rw [exec_eccRateWindow at_, if_neg h]
      rfl
    · rw [exec_eccRateWindow at_, if_pos h]
    · rintro rfl
      exact granule high (eccRead_controller g b)
  · intro dt s b at_
    refine ⟨?_, ?_, fun off => ?_, ?_, fun off => ?_⟩
    · intro t run x y act
      have does (z : State) (is : plausCheck t b = z) : act = .next (settle s z) :=
        (exec_tempPlausibilityCheck at_ t).trans (by rw [is])
      refine ⟨fun going far => does _ (plausCheck_bad (.inl ⟨going, .inl far⟩)),
        fun going long moved => does _ (plausCheck_bad (.inl ⟨going, .inr ⟨long, infMoved_eq_true.mpr moved⟩⟩)),
        fun gone => does _ (plausCheck_bad (.inr gone)),
        fun present tame => ⟨fun off => does _ ?_, fun going near still => does _ ?_⟩⟩
      · rw [plausCheck_good present tame (.inl off), if_pos off]
        rfl
      · rw [plausCheck_good present tame (.inr ⟨near, still.imp_right infMoved_eq_false.mpr⟩), if_neg (by simp [going])]
        rfl
    · intro on quiet r
      have does := hostSilent_due on quiet (r := r) rfl
      clear_value r
      rw [exec_hostSilent at_, does]
      rfl
    · rw [exec_hostSilent at_, hostSilent, if_pos (.inl off)]
    · intro on r
      have does := heartbeat_due on (r := r) rfl
      clear_value r
      rw [exec_heartbeat at_, does]
    · rw [exec_heartbeat at_, heartbeat, if_pos off]

/-! ### The registers (R287 to R293, R363) -/

section
variable {dt : Nat} {s b : State} (at_ : At dt s b)
include at_

theorem exec_hostDoorbell (iface : Fin 2) (v : BitVec 32) : exec (.hostDoorbell dt iface v) s = .next (settle s (overMask (ring iface.val) v.toNat b)) := by
  show execHostDoorbell dt iface v s = _
  unfold execHostDoorbell
  exact doneOn_to at_ rfl

theorem exec_hostRelease (iface : Fin 2) (v : BitVec 32) : exec (.hostRelease dt iface v) s = .next (settle s (overMask (releaseMbx iface.val) v.toNat b)) := by
  show execHostRelease dt iface v s = _
  unfold execHostRelease
  exact doneOn_to at_ rfl

theorem exec_irqPendingClear (iface : Fin 2) (v : BitVec 32) : exec (.irqPendingClear dt iface v) s = .next (settle s (irqClear iface.val v.toNat b)) := by
  show execIrqPendingClear dt iface v s = _
  unfold execIrqPendingClear
  exact doneOn_to at_ rfl

theorem exec_spiAlertAck : exec (.spiAlertAck dt) s = .next (settle s (irqClear 1 64 b)) := by
  show execSpiAlertAck dt s = _
  unfold execSpiAlertAck
  exact doneOn_to at_ rfl

theorem exec_spiAlertRead : exec (.spiAlertRead dt) s = .next (settle s (alertLatch b)) := by
  show execSpiAlertRead dt s = _
  unfold execSpiAlertRead
  exact doneOn_to at_ rfl

theorem exec_registerWrite (iface : Fin 2) (off : Nat) (data : BusData) : exec (.registerWrite dt iface off data) s = .next (settle s (busWrite iface off data b)) := by
  show execRegisterWrite dt iface off data s = _
  unfold execRegisterWrite
  exact doneOn_to at_ rfl

theorem exec_mbxSlotWrite (iface : Fin 2) {off : Nat} {data : BusData} (slot : wfSlot off = true) (wide : wfWide iface off data.high = true) :
    exec (.mbxSlotWrite dt iface off data) s =
      .next (settle s (slotWrite iface.val off data.low.toNat (data.high.map BitVec.toNat) b)) := by
  show execMbxSlotWrite dt iface off data s = _
  unfold execMbxSlotWrite
  rw [if_pos (by simp [slot, wide])]
  exact doneOn_to at_ rfl

/-- A 32-bit register write in the page. -/
theorem exec_registerWrite_word (iface : Fin 2) {off : Nat} (v : BitVec 32) (page : wfOffset off = true) :
    exec (.registerWrite dt iface off ⟨v, none⟩) s = .next (settle s (regWrite iface.val off v.toNat b)) := by
  rw [exec_registerWrite at_, busWrite, if_pos (by simp [page, wfWide])]

end

theorem wfSlot_iff {off : Nat} : wfSlot off = true ↔ wfOffset off = true ∧ 0x8000 ≤ off ∧ off < 0xC000 := by
  simp [wfSlot, and_assoc]

theorem wfSlot_eq_false {off : Nat} (page : wfOffset off = true) : wfSlot off = false ↔ ¬ (0x8000 ≤ off ∧ off < 0xC000) := by
  rw [← Bool.not_eq_true, wfSlot_iff]
  simp only [page, true_and]

theorem regWrite_slot {iface off : Nat} (slot : wfSlot off = true) (v : Nat) (s : State) :
    regWrite iface off v s = slotWrite iface off v none s := by
  obtain ⟨-, low, high⟩ := wfSlot_iff.mp slot
  unfold regWrite
  rw [if_neg (by omega), if_neg (by omega), if_neg (by omega), if_neg (by omega), if_neg (by omega), if_pos ⟨low, high⟩]

theorem regWrite_nothing {iface off : Nat} (page : wfOffset off = true) (slot : wfSlot off = false)
    (other : off ∉ [0x0008, 0x000C, 0x0018, 0x001C, 0x0034]) (v : Nat) (s : State) : regWrite iface off v s = s := by
  simp only [List.mem_cons, List.not_mem_nil, or_false, not_or] at other
  obtain ⟨doorbell, release, clear, enable, stream⟩ := other
  unfold regWrite
  rw [if_neg doorbell, if_neg release, if_neg clear, if_neg enable, if_neg stream, if_neg ((wfSlot_eq_false page).mp slot)]

/-- A 64-bit write in the slots is one write of a slot, elsewhere two of registers. -/
theorem busWrite_wide {iface : Fin 2} {off : Nat} {data : BusData} {h : BitVec 32} (is : data.high = some h)
    (page : wfOffset off = true) (wide : wfWide iface off data.high = true) (b : State) :
    busWrite iface off data b = regWrite64 iface.val off data.low.toNat h.toNat b := by
  rw [busWrite, if_pos (by simp [page, wide]), is]

theorem overMask_one {f : Nat → State → State} {mask m : Nat} (one : maskBits 32 mask = [m]) (b : State) : overMask f mask b = f m b := by
  rw [overMask, one, List.foldl_cons, List.foldl_nil]

theorem ring_served {iface m : Nat} {b : State} (own : mbxIface m = iface) (free : (mbxGet b m).st ≠ .posted) (entry : entryFree iface b = true)
    (ready : b.ctl.mbxReady = true) : ring iface m b = mbxPut m { mbxGet b m with st := .posted }
      { b with ctl := { b.ctl with queue := b.ctl.queue ++ [m] } } := by
  rw [ring_posts own free entry]
  simp only [ready, if_true]

theorem irqClear_spi (mask : Nat) (b : State) : irqClear 1 mask b =
    let x := { b with ctl := { b.ctl with irqPendS := b.ctl.irqPendS - (b.ctl.irqPendS &&& mask) } }
    let y := { x with outq := { x.outq with acked := b.outq.seenSeq } }
    if mask.testBit 6 then (if b.outq.seenSeq < b.outq.newest then irqBoth 6 y else y) else x := rfl

/-- Settles O52: the registers of the host interfaces. -/
theorem hostRegisters : Obligations.HostRegisters := by
  intro dt iface v s b at_
  have word {off : Nat} (page : wfOffset off = true) := exec_registerWrite_word at_ iface v page
  refine ⟨exec_hostDoorbell at_ iface v, fun m one own free entry ready => ?_, exec_hostRelease at_ iface v,
    fun m one own done => ?_, fun off slot => ?_, fun off slot => exec_mbxSlotWrite at_ iface slot rfl,
    fun off h slot aligned => exec_mbxSlotWrite at_ 0 slot (by simp [wfWide, aligned]), exec_irqPendingClear at_ 0 v,
    ?_, exec_spiAlertAck at_, exec_spiAlertRead at_, ?_, ?_, ?_, ?_, fun off high slot wide => ?_,
    fun off h page slot aligned => ?_, ?_, ?_, fun off page slot other => ?_⟩
  · rw [exec_hostDoorbell at_, overMask_one one, ring_served own free entry ready]
  · rw [exec_hostRelease at_, overMask_one one, releaseMbx_done own done]
  · intro m i x own free command
    refine ⟨?_, fun h pci aligned => ?_⟩
    · rw [exec_mbxSlotWrite at_ iface slot rfl, slotWrite_lands rfl rfl own free command]
      rfl
    · subst pci
      have even : i % 8 / 4 = 0 := by
        obtain ⟨-, low, -⟩ := wfSlot_iff.mp slot
        omega
      rw [exec_mbxSlotWrite at_ 0 slot (by simp [wfWide, aligned]), slotWrite_lands rfl rfl own free command]
      simp only [slotPut]
      rw [even]
      rfl
  · have clears := exec_irqPendingClear at_ 1 v
    rw [show (1 : Fin 2).val = 1 from rfl, irqClear_spi] at clears
    refine ⟨fun no => ?_, fun yes seen => ?_, fun yes newer => ?_⟩
    · rw [clears]; simp only [no, Bool.false_eq_true, if_false]
    · rw [clears]; simp only [yes, if_true, if_neg (Nat.not_lt.mpr seen)]
    · rw [clears]; simp only [yes, if_true, if_pos newer]
  · rw [word rfl, exec_hostDoorbell at_]
    rfl
  · rw [word rfl, exec_hostRelease at_]
    rfl
  · rw [word rfl, exec_irqPendingClear at_]
    rfl
  · rw [word rfl, exec_pbStreamDoorbell at_]
    rfl
  · rw [exec_registerWrite at_, exec_mbxSlotWrite at_ iface slot wide]
    obtain ⟨page, low, top⟩ := wfSlot_iff.mp slot
    cases high with
    | none => rw [busWrite, if_pos (by simp [page, wfWide])]; exact congrArg (fun y => Host.Outcome.next (settle s y)) (regWrite_slot slot _ b)
    | some h => rw [busWrite_wide rfl page wide, regWrite64, if_pos ⟨low, top⟩]; rfl
  · rw [exec_registerWrite at_, busWrite_wide rfl page (by simp [wfWide, aligned]), regWrite64,
      if_neg ((wfSlot_eq_false page).mp slot)]
    rfl
  · exact exec_registerWrite_word at_ 0 v rfl
  · exact exec_registerWrite_word at_ 1 v rfl
  · rw [word page, regWrite_nothing page slot other]

/-! ### SPI transfers and UDP control datagrams (R299 to R302) -/

theorem length_leBytes (n v : Nat) : (leBytes n v).length = n := by simp [leBytes]

theorem chunks_whole {α : Type} {n : Nat} {l : List α} (full : l.length = n) (some_ : 0 < n) : chunks n n l = [l] := by
  obtain ⟨k, rfl⟩ := Nat.exists_eq_succ_of_ne_zero (Nat.ne_of_gt some_)
  have rest : l.drop (k + 1) = [] := List.drop_eq_nil_of_le (Nat.le_of_eq full)
  have head : l.take (k + 1) = l := List.take_of_length_le (Nat.le_of_eq full)
  have filled : l.isEmpty = false := by cases l <;> simp_all
  have done : chunks (k + 1) k ([] : List α) = [] := by cases k <;> rfl
  rw [chunks, filled, rest, head, done]
  rfl

theorem spiStore_one {a : Nat} (page : a < 65536) (w : List (BitVec 8)) (s : State) :
    spiStore a [w] s = regWrite 1 a (ofLe (w.map BitVec.toNat)) s := by
  rw [spiStore, spiStore, Nat.mod_eq_of_lt page]

/-- A word read over SPI outside the alert buffer's latch leaves the block as it was. -/
theorem spiWord_plain {a : Nat} (other : a ≠ 0xC000) (s : State) : spiWord a s = (regRead 1 a s, s) := by
  rw [spiWord, if_neg other]

theorem spiWords_one {a : Nat} (page : a < 65536) (other : a ≠ 0xC000) (s : State) :
    spiWords 1 a s = (leBytes 4 (regRead 1 a s), s) := by
  simp only [spiWords, Nat.mod_eq_of_lt page, spiWord_plain other, List.append_nil]

/-- A burst read from CFG_EPOCH on gives the published pair first (R300). -/
theorem spiWords_pair (n : Nat) (s : State) :
    (spiWords (n + 2) 0x0028 s).1.take 8 = leBytes 4 s.ctl.pubEpoch ++ leBytes 4 s.ctl.pubDigest := by
  have epoch : spiWord (0x0028 % 65536) s = (s.ctl.pubEpoch, s) := spiWord_plain (by decide) s
  have digest : spiWord ((0x0028 + 4) % 65536) s = (s.ctl.pubDigest, s) := spiWord_plain (by decide) s
  simp only [spiWords, epoch, digest]
  rw [← List.append_assoc, List.take_append_of_le_length (by simp [length_leBytes]), List.take_of_length_le (by simp [length_leBytes])]

/-- SPI WRITE (R299). -/
def spiWritten (a : Nat) (d : List (BitVec 8)) (s : State) : State :=
  if a % 4 = 0 ∧ d.length % 4 = 0 then spiStore a (chunks 4 d.length d) s else s

/-- SPI READ (R299). -/
def spiReadOut (a n : Nat) (s : State) : State :=
  let r := if a % 4 = 0 then spiWords ((n + 3) / 4) a s else freeBytes n s
  out (.miso (r.1.take n)) r.2

/-- SPI WRITE_C (R300). -/
def spiWrittenC (a n : Nat) (d : List (BitVec 8)) (crc : Nat) (ended : Bool) (s : State) : State :=
  if !ended ∨ d.length ≠ 4 * n ∨ crc32c (spiCrcBytes 0x12 a n (d.map BitVec.toNat)) ≠ crc then
    { s with ctl := { s.ctl with spiCrcErrors := satAdd 8 s.ctl.spiCrcErrors 1 } }
  else if a % 4 = 0 ∧ 1 ≤ n ∧ n ≤ 64 then spiStore a (chunks 4 n d) s
  else s

/-- SPI READ_C (R300). -/
def spiReadOutC (a n : Nat) (s : State) : State :=
  if a % 4 = 0 ∧ 1 ≤ n ∧ n ≤ 64 then
    let r := spiWords n a s
    out (.miso (r.1 ++ leBytes 4 (crc32c (spiCrcBytes 0x0B a n r.1)))) r.2
  else
    let r := freeBytes (4 * n + 4) s
    out (.miso r.1) r.2

section
variable {dt : Nat} {s b : State} (at_ : At dt s b)
include at_

theorem exec_spiWrite (a : BitVec 16) (d : List (BitVec 8)) : exec (.spiWrite dt a d) s = .next (settle s (spiWritten a.toNat d b)) := by
  show execSpiWrite dt a d s = _
  unfold execSpiWrite
  exact doneOn_to at_ rfl

theorem exec_spiRead (a : BitVec 16) (n : Nat) : exec (.spiRead dt a n) s = .next (settle s (spiReadOut a.toNat n b)) := by
  show execSpiRead dt a n s = _
  unfold execSpiRead
  exact doneOn_to at_ rfl

theorem exec_spiWriteC (a : BitVec 16) (n : BitVec 8) (d : List (BitVec 8)) (crc : BitVec 32) (ended : Bool) : exec (.spiWriteC dt a n d crc ended) s = .next (settle s (spiWrittenC a.toNat n.toNat d crc.toNat ended b)) := by
  show execSpiWriteC dt a n d crc ended s = _
  unfold execSpiWriteC
  exact doneOn_to at_ rfl

theorem exec_spiReadC (a : BitVec 16) (n : BitVec 8) : exec (.spiReadC dt a n) s = .next (settle s (spiReadOutC a.toNat n.toNat b)) := by
  show execSpiReadC dt a n s = _
  unfold execSpiReadC
  exact doneOn_to at_ rfl

theorem exec_udpCtrlDatagram {p : Fin 2} {f : EthFrame} {ip : BitVec 32} {udp : BitVec 16} {d : UdpData} (frame : wfFrame f = true) :
    exec (.udpCtrlDatagram dt ⟨p, f⟩ ip udp d) s =
      .next (settle s (datagramRx p.val f (cfgF b .ctrlPort 0 0 15 0)
        (udpCommand { ip := ip.toNat, port := udp.toNat, swPort := p.val, mac := f.srcMac } (udpNorm d)) b)) := by
  show execUdpCtrlDatagram dt ⟨p, f⟩ ip udp d s = _
  unfold execUdpCtrlDatagram
  exact doneOn_to at_ (if_pos frame)

end

theorem spiWrittenC_checked {a n crc : Nat} {d : List (BitVec 8)} {s : State} (size : d.length = 4 * n)
    (checks : crc32c (spiCrcBytes 0x12 a n (d.map BitVec.toNat)) = crc) :
    spiWrittenC a n d crc true s = if a % 4 = 0 ∧ 1 ≤ n ∧ n ≤ 64 then spiStore a (chunks 4 n d) s else s := by
  rw [spiWrittenC, if_neg (by simp [size, checks])]

theorem datagramRx_other {p : Nat} {f : EthFrame} {port : Nat} {act : State → State} {s : State}
    (other : (frameRx p f s).1 = false ∨ f.udp.map (fun u => u.2) ≠ some port) : datagramRx p f port act s = (frameRx p f s).2 := by
  refine if_neg ?_
  rcases other with h | h <;> simp [h]

theorem datagramRx_act {p : Nat} {f : EthFrame} {port : Nat} {act : State → State} {s : State}
    (taken : (frameRx p f s).1 = true) (dest : f.udp.map (fun u => u.2) = some port) :
    datagramRx p f port act s = act (frameRx p f s).2 := if_pos (by simp [taken, dest])

section
variable {src : UdpSrc} {d : UdpData} {a : State} {m : Nat} (box : fld (d.words.getD 0 0) 63 56 = m)
include box

theorem udpCommand_ignored (bad : udpOk d = false ∨ (mbxGet a m).st = .posted) : udpCommand src d a = dbIgnore a := by
  subst box
  unfold udpCommand
  rcases bad with malformed | posted
  · exact if_pos (by simp [malformed])
  · by_cases ok : udpOk d = true
    · exact (if_neg (by simp [ok])).trans (if_pos posted)
    · exact if_pos (by simpa using ok)

/-- The last command of a DONE mailbox again, from the same sender (R302). -/
theorem udpCommand_again {old : UdpSrc} (ok : udpOk d = true) (done : (mbxGet a m).st = .done) (was : (mbxGet a m).src = some old)
    (ip : old.ip = src.ip) (port : old.port = src.port) (last : (mbxGet a m).last = udpCmd d) :
    udpCommand src d a = udpReply m src (resentWords (mbxGet a m)) a := by
  subst box
  unfold udpCommand
  have free : (mbxGet a (fld (d.words.getD 0 0) 63 56)).st ≠ .posted := by rw [done]; decide
  exact (if_neg (by simp [ok])).trans ((if_neg free).trans (if_pos ⟨done, by rw [was]; simp only [ip, port]; rfl, last⟩))

theorem udpCommand_new (ok : udpOk d = true) (free : (mbxGet a m).st ≠ .posted)
    (new : (mbxGet a m).st = .idle ∨ (mbxGet a m).last ≠ udpCmd d ∨
      ∃ old : UdpSrc, (mbxGet a m).src = some old ∧ (old.ip ≠ src.ip ∨ old.port ≠ src.port)) :
    udpCommand src d a = ring 2 m (mbxPut m { mbxGet a m with cmd := udpSlot d, src := some src, last := udpCmd d } a) := by
  subst box
  unfold udpCommand
  refine (if_neg (by simp [ok])).trans ((if_neg free).trans (if_neg ?_))
  rintro ⟨done, same, last⟩
  rcases new with idle | other | ⟨old, was, other⟩
  · exact absurd (idle.symm.trans done) (by decide)
  · exact other last
  · simp only [was, decide_eq_true_eq] at same
    exact other.elim (fun h => h same.1) (fun h => h same.2)

end

/-- The mailbox of a well-formed control datagram is one of UDP. -/
theorem mbxIface_udpOk {d : UdpData} (ok : udpOk d = true) : mbxIface (fld (d.words.getD 0 0) 63 56) = 2 := by
  simp only [udpOk, Bool.and_eq_true, decide_eq_true_eq] at ok
  obtain ⟨⟨⟨⟨⟨-, low⟩, -⟩, -⟩, -⟩, -⟩ := ok
  unfold mbxIface
  rw [if_neg (by omega), if_neg (by omega)]

theorem tabPut_tabPut {α : Type} (t : Tab α) (i : Nat) (x y : α) : tabPut (tabPut t i x) i y = tabPut t i y := by
  induction t with
  | nil => simp [tabPut]
  | cons e t ih =>
    obtain ⟨k, v⟩ := e
    by_cases here : k = i
    · simp [tabPut, here]
    · by_cases before : i < k
      · simp [tabPut, here, before]
      · simp [tabPut, here, before, ih]

/-- Of two writes of a mailbox that was last written by UDP the later one stands, whatever the table. -/
theorem mbxPut_mbxPut_src {x y : Mbx} {p q : UdpSrc} (hx : x.src = some p) (hy : y.src = some q) (m : Nat) (s : State) :
    mbxPut m y (mbxPut m x s) = mbxPut m y s := by
  have nx : x ≠ {} := fun h => by rw [h] at hx; cases hx
  have ny : y ≠ {} := fun h => by rw [h] at hy; cases hy
  simp only [mbxPut, tabSet, if_neg nx, if_neg ny, tabPut_tabPut]

/-- A doorbell of a mailbox just written by UDP (R302). -/
theorem ring_mbxPut {m : Nat} {a : State} {y : Mbx} {p : UdpSrc} (own : mbxIface m = 2) (free : y.st ≠ .posted) (was : y.src = some p)
    (entry : entryFree 2 a = true) (ready : a.ctl.mbxReady = true) :
    ring 2 m (mbxPut m y a) = mbxPut m { y with st := .posted } { a with ctl := { a.ctl with queue := a.ctl.queue ++ [m] } } := by
  have still : (mbxGet (mbxPut m y a) m).st ≠ .posted := by rw [mbxGet_mbxPut_same]; exact free
  have twice := mbxPut_mbxPut_src (x := y) (y := { y with st := .posted }) was was m
    { a with ctl := { a.ctl with queue := a.ctl.queue ++ [m] } }
  rw [ring_served own still entry ready, mbxGet_mbxPut_same]
  exact twice

/-- Settles O55: SPI transfers and UDP control datagrams. -/
theorem spiAndUdp : Obligations.SpiAndUdp := by
  refine ⟨?_, ?_⟩
  · intro dt a s b at_
    have page : a.toNat < 65536 := a.isLt
    have writeC (n : BitVec 8) (d : List (BitVec 8)) (crc : BitVec 32) (e : Bool) {y : State}
        (is : spiWrittenC a.toNat n.toNat d crc.toNat e b = y) : exec (.spiWriteC dt a n d crc e) s = .next (settle s y) := by
      rw [exec_spiWriteC at_, is]
    refine ⟨fun d aligned whole => ?_, fun d aligned one => ?_, fun d bad => ?_, fun n aligned => ?_, fun aligned plain => ?_,
      fun n d crc some_ most aligned size checks => writeC n d crc true ?_, fun n d crc e bad => writeC n d crc e (if_pos ?_),
      fun n d crc size checks bad => writeC n d crc true ?_, fun n some_ most aligned => ?_, fun n bad => ?_, fun n two => ?_⟩
    · rw [exec_spiWrite at_, spiWritten, if_pos ⟨aligned, whole⟩]
    · rw [exec_spiWrite at_, spiWritten, if_pos ⟨aligned, by omega⟩, one, chunks_whole one (by decide), spiStore_one page]
    · rw [exec_spiWrite at_, spiWritten, if_neg (by omega)]
    · rw [exec_spiRead at_, spiReadOut, if_pos aligned]
    · rw [exec_spiRead at_, spiReadOut, if_pos aligned, spiWords_one page plain, List.take_of_length_le (by simp [length_leBytes])]
    · rw [spiWrittenC_checked size checks, if_pos ⟨aligned, some_, most⟩]
    · simpa using bad
    · rw [spiWrittenC_checked size checks, if_neg (by omega)]
    · rw [exec_spiReadC at_, spiReadOutC, if_pos ⟨aligned, some_, most⟩]
    · rw [exec_spiReadC at_, spiReadOutC, if_neg (by omega)]
    · obtain ⟨k, rfl⟩ := Nat.exists_eq_add_of_le' two
      exact spiWords_pair k b
  · intro dt port f ip udp d s b at_ frame wf a m x src
    have acts : exec (.udpCtrlDatagram dt ⟨port, f⟩ ip udp d) s =
        .next (settle s (datagramRx port.val f (cfgF b .ctrlPort 0 0 15 0) (udpCommand src d) b)) := by
      rw [exec_udpCtrlDatagram at_ frame, udpNorm_wf wf]
    refine ⟨fun other => by rw [acts, datagramRx_other other], fun taken dest => ?_⟩
    rw [acts, datagramRx_act taken dest]
    have runs {y : State} (is : udpCommand src d a = y) :
        (.next (settle s (udpCommand src d a)) : Host.Outcome State Fault Refusal) = .next (settle s y) := by rw [is]
    refine ⟨fun bad => runs (udpCommand_ignored rfl bad), fun old ok done was sameIp samePort last => runs ?_,
      fun ok free new => runs ?_, fun old ok done was other => runs ?_, fun noTail => ?_, fun ok idle entry ready => runs ?_⟩
    · exact udpCommand_again rfl ok done was sameIp samePort last
    · exact udpCommand_new rfl ok free (new.imp_right .inl)
    · exact udpCommand_new rfl ok (by rw [done]; decide) (.inr (.inr ⟨old, was, other⟩))
    · simp [udpSlot, udpCmd, noTail]
    · have free : (mbxGet a m).st ≠ .posted := by rw [idle]; decide
      refine (udpCommand_new rfl ok free (.inl idle)).trans ?_
      exact ring_mbxPut (mbxIface_udpOk ok) free rfl entry ready

/-! ### Publication, result queues, alerts and telemetry (R314, R320, R360 to R371, R394) -/

/-- CONS_READ of a host ring (R361). -/
def consRead (q cons : Nat) (s : State) : State :=
  if q < queueCount s ∧ (cfgF s .queue q 0 63 63 = 1 ∨ (qRun s q).wait ≠ []) ∧ cfgF s .queue q 0 60 59 = 0 then
    ringDecide q (qUpd q (fun r => { r with cons := cons % 2 ^ cfgF s .queue q 0 43 39 }) s)
  else s

/-- The end of a queue's interrupt coalescing (R360). -/
def queueIrqCoal (q : Nat) (s : State) : State :=
  if (qRun s q).irqWait then queueIrq q (reachUp ((qRun s q).irqAt.getD 0 + cfgF s .queue q 0 38 32 * fineUs) s) else s

/-- A datagram's FLUSH_US is over (R366). -/
def datagramFlush (q : Nat) (s : State) : State :=
  if (qRun s q).dgram.frags.isEmpty then s
  else flushQueue q (reachUp ((qRun s q).dgram.firstAt + cfgF s .route (cfgF s .queue q 1 7 0) 2 47 40 * fineUs) s)

/-- A telemetry record falls due (R371). -/
def telemetryDue (s : State) : State :=
  { s with outq := { s.outq with
    telemAt := s.up, telemDue := true
    telemSkipped := if s.outq.telemDue then satAdd 16 s.outq.telemSkipped 1 else s.outq.telemSkipped } }

/-- The end of a TELEM_PERIOD_MS (R371). -/
def telemetryPeriod (s : State) : State :=
  if cfgF s .port 2 1 30 15 = 0 ∨ s.ctl.fwFault ∨ !s.ctl.mbxReady then s
  else telemetryDue (reachUp (s.outq.telemAt + cfgF s .port 2 1 30 15 * fineMs) s)

section
variable {dt : Nat} {s b : State} (at_ : At dt s b)
include at_

theorem exec_cfgPublish : exec (.cfgPublish dt) s = .next (settle s (publish b)) := by
  show execCfgPublish dt s = _
  unfold execCfgPublish
  exact doneOn_to at_ rfl

theorem exec_consRead (q cons : Nat) : exec (.consRead dt q cons) s = .next (settle s (consRead q cons b)) := by
  show execConsRead dt q cons s = _
  unfold execConsRead
  exact doneOn_to at_ rfl

theorem exec_queueIrqCoal (q : Nat) : exec (.queueIrqCoal dt q) s = .next (settle s (queueIrqCoal q b)) := by
  show execQueueIrqCoal dt q s = _
  unfold execQueueIrqCoal
  refine doneOn_to at_ ?_
  unfold queueIrqCoal
  cases was : (qRun b q).irqAt <;> simp only [was, Option.getD_none, Option.getD_some]

theorem exec_datagramFlush (q : Nat) : exec (.datagramFlush dt q) s = .next (settle s (datagramFlush q b)) := by
  show execDatagramFlush dt q s = _
  unfold execDatagramFlush
  exact doneOn_to at_ rfl

theorem exec_c0StoreDrain (d : Fin 3) : exec (.c0StoreDrain dt d) s = .next (settle s (drainC0 d.val 256 b)) := by
  show execC0StoreDrain dt d s = _
  unfold execC0StoreDrain
  exact doneOn_to at_ rfl

theorem exec_telemetryPeriod : exec (.telemetryPeriod dt) s = .next (settle s (telemetryPeriod b)) := by
  show execTelemetryPeriod dt s = _
  unfold execTelemetryPeriod
  exact doneOn_to at_ rfl

end

theorem publish_newEpoch {b : State} {e d : Nat} {r : List (Nat × Nat)} (first : b.ctl.unpub = (e, d) :: r) (new : e ≠ b.ctl.pubEpoch) :
    publish b = decideCause 18 0 b.ctl.jseq (safeUpd (fun u => { u with confirmPending := true, pubAt := b.up })
      (irqBoth 2 { b with ctl := { b.ctl with
        unpub := r, pubEpoch := e, pubDigest := d
        jrnl := b.ctl.jrnl.map (fun j => if j.epoch = e then { j with digestOk := true } else j) } })) := by
  simp only [publish, first, new, ne_eq, not_false_eq_true, true_or, decide_true, if_true, if_false]
  rfl

/-- What a pair of the epoch already published leaves: its digest, and those of the journal's entries (R314). -/
def publishedDigest (d : Nat) (r : List (Nat × Nat)) (b : State) : State :=
  { b with ctl := { b.ctl with
    unpub := r, pubDigest := d
    jrnl := b.ctl.jrnl.map (fun j => if j.epoch = b.ctl.pubEpoch then { j with digestOk := true } else j) } }

theorem publish_sameEpoch {b : State} {d : Nat} {r : List (Nat × Nat)} (first : b.ctl.unpub = (b.ctl.pubEpoch, d) :: r) :
    publish b = if d = b.ctl.pubDigest then publishedDigest d r b
      else decideCause 18 0 b.ctl.jseq (safeUpd (fun u => { u with confirmPending := true, pubAt := b.up }) (publishedDigest d r b)) := by
  by_cases same : d = b.ctl.pubDigest <;>
  · simp only [publish, first, same, ne_eq, not_true_eq_false, not_false_eq_true, or_self, or_true, decide_true, decide_false,
      Bool.false_eq_true, if_true, if_false]
    rfl

theorem qRun_qUpd_same (q : Nat) (f : QRun → QRun) (s : State) : qRun (qUpd q f s) q = f (qRun s q) := by
  simp [qRun, qUpd, tabUpd]

theorem drainC0_none {d fuel q : Nat} {body : List Word} {r : List (Nat × List Word)} {s : State}
    (first : c0Get s d = (q, body) :: r) (full : destAccepts d q body s = false) : drainC0 d (fuel + 1) s = s := by
  rw [drainC0, first]
  simp only [full, Bool.false_eq_true, if_false]

theorem drainC0_next {d fuel q : Nat} {body : List Word} {r : List (Nat × List Word)} {s : State}
    (first : c0Get s d = (q, body) :: r) (room : destAccepts d q body s = true) :
    drainC0 d (fuel + 1) s = drainC0 d fuel (deliverAlert d q body (c0Set d r s)) := by
  rw [drainC0, first]
  simp only [room, if_true]

theorem telemetryPeriod_due {b r : State} (on : cfgF b .port 2 1 30 15 ≠ 0) (runs : b.ctl.fwFault = false) (ready : b.ctl.mbxReady = true)
    (is : reachUp (b.outq.telemAt + cfgF b .port 2 1 30 15 * fineMs) b = r) : telemetryPeriod b = telemetryDue r := by
  rw [← is, telemetryPeriod, if_neg (by simp [on, runs, ready])]

/-- Settles O56: publication, queues, alerts and telemetry. -/
theorem publicationAndQueues : Obligations.PublicationAndQueues := by
  refine ⟨?_, ?_⟩
  · intro dt s b at_
    refine ⟨fun none => ?_, fun e d r first new => ?_, fun r first => ?_, fun d r first new => ?_⟩
    · rw [exec_cfgPublish at_]
      simp only [publish, none]
    · intro x
      rw [exec_cfgPublish at_, publish_newEpoch first new]
      rfl
    · rw [exec_cfgPublish at_, publish_sameEpoch first, if_pos rfl]
      rfl
    · rw [exec_cfgPublish at_, publish_sameEpoch first, if_neg new]
      rfl
  · intro dt s b at_
    refine ⟨fun q cons small waits plain => ?_, fun q waits => ?_, fun q idle => ?_, fun q held => ?_, fun d q body r first => ⟨fun full => ?_, fun room => ?_⟩,
      fun on runs ready => ?_⟩
    · intro x
      rw [exec_consRead at_, consRead, if_pos ⟨small, waits, plain⟩, ringDecide, qRun_qUpd_same]
    · rw [exec_queueIrqCoal at_, queueIrqCoal, if_pos waits]
    · rw [exec_queueIrqCoal at_, queueIrqCoal, if_neg (by simp [idle])]
    · rw [exec_datagramFlush at_, datagramFlush, if_neg (by simpa using held)]
    · rw [exec_c0StoreDrain at_, drainC0_none first full]
    · rw [exec_c0StoreDrain at_, drainC0_next first room]
    · intro r
      have does := telemetryPeriod_due on runs ready (r := r) rfl
      rw [exec_telemetryPeriod at_, does]
      rfl

/-! ### The switch (R364 to R373) -/

section
variable {dt : Nat} {s b : State} (at_ : At dt s b)
include at_

theorem exec_ethFrameRx (p : Fin 2) {f : EthFrame} (frame : wfFrame f = true) :
    exec (.ethFrameRx dt p f) s =
      .next (settle s (if (frameRx p.val f b).1 then datagramAct p.val f (frameRx p.val f b).2 else (frameRx p.val f b).2)) := by
  show execEthFrameRx dt p f s = _
  unfold execEthFrameRx
  exact doneOn_to at_ (if_pos frame)

theorem exec_frameTransmitted (p : Fin 2) : exec (.frameTransmitted dt p) s = .next (settle s (frameSent p.val b)) := by
  show execFrameTransmitted dt p s = _
  unfold execFrameTransmitted
  exact doneOn_to at_ rfl

theorem exec_portLinkChange (p : Fin 2) (up : Bool) : exec (.portLinkChange dt p up) s = .next (settle s (linkChange p.val up b)) := by
  show execPortLinkChange dt p up s = _
  unfold execPortLinkChange
  exact doneOn_to at_ rfl

theorem exec_gptpMessageRx (p : Fin 2) (msg : GptpMsg) : exec (.gptpMessageRx dt p msg) s = .next (settle s (gptpRx p.val msg b)) := by
  show execGptpMessageRx dt p msg s = _
  unfold execGptpMessageRx
  exact doneOn_to at_ rfl

theorem exec_gptpMessageTx (p : Fin 2) (pdelay : Bool) : exec (.gptpMessageTx dt p pdelay) s = .next (settle s (gptpTx p.val pdelay b)) := by
  show execGptpMessageTx dt p pdelay s = _
  unfold execGptpMessageTx
  exact doneOn_to at_ rfl

theorem exec_gateListApply (p : Fin 2) : exec (.gateListApply dt p) s = .next (settle s (gateApply p.val b)) := by
  show execGateListApply dt p s = _
  unfold execGateListApply
  exact doneOn_to at_ rfl

theorem exec_gateIntervalEnd (p : Fin 2) : exec (.gateIntervalEnd dt p) s = .next (settle s (gateNext p.val b)) := by
  show execGateIntervalEnd dt p s = _
  unfold execGateIntervalEnd
  exact doneOn_to at_ rfl

theorem exec_cbRecoveryReset (st : Fin 64) : exec (.cbRecoveryReset dt st) s = .next (settle s (cbReset st.val b)) := by
  show execCbRecoveryReset dt st s = _
  unfold execCbRecoveryReset
  exact doneOn_to at_ rfl

end

theorem frameRx_linkDown {p : Nat} {f : EthFrame} {b : State} (down : (portGet b p).link = false) : frameRx p f b = (false, b) := by
  rw [frameRx, if_pos (by simp [down])]

theorem recoverPass_none {f : EthFrame} {b : State} (none : recoverOf b f = none) : recoverPass f b = (true, b) := by
  simp only [recoverPass, none]

/-- A frame that no filter and no recovery stream names is learned (R364). -/
theorem frameRx_plain {p : Nat} {f : EthFrame} {b : State} (up : (portGet b p).link = true) (free : filterOf b p f = none)
    (alone : recoverOf b f = none) : frameRx p f b =
      if f.dstMac = devMac b then deliver p f (learn p f b) else (false, bridge p f (learn p f b)) := by
  refine (if_neg (by simp [up])).trans ?_
  simp only [free, recoverPass_none alone, Bool.not_true, Bool.false_eq_true, if_false]
  rfl

theorem arpForUs_none {f : EthFrame} (none : f.arpFor = none) (b : State) : arpForUs b f = false := by
  simp [arpForUs, none]

theorem bridge_broadcast {p : Nat} {f : EthFrame} {b : State} (all : f.dstMac = bcast) (plain : f.arpFor = none) :
    bridge p f b = forward (1 - p) f b := by
  simp [bridge, all, arpTake, arpForUs_none plain]

theorem deliver_plain {p : Nat} {f : EthFrame} {b : State} (plain : f.arpFor = none) (room : admitP2 b p f = true) :
    deliver p f b = if devAccepts b p f then (true, b) else (false, qciDrop p b) := by
  rw [deliver, arpForUs_none plain, room]
  rfl

/-- The frame on the line, with the block `r` when its bytes have had their line time (R370, R372). -/
theorem frameSent_line {p q : Nat} {f : Frame} {b r : State} (line : (portGet b p).sending = some (q, f))
    (is : holdFor p (reachUp ((portGet b p).sendAt + lineTime (f.len - (portGet b p).sentB + 20)) b) = r) :
    frameSent p b = if (portGet r p).sending.isNone then r
      else portServe p (followUp p f (out (.frame p f) (portUpd p (fun y => { y with sending := none, tx := satAdd 64 y.tx 1 }) r))) := by
  rw [← is, frameSent]
  simp only [line]

theorem followUp_plain {p : Nat} {f : Frame} (sync : ∀ d, f.info ≠ .sync d) (resp : ∀ n, f.info ≠ .pdelayResp n) (b : State) :
    followUp p f b = b := by
  unfold followUp
  cases is : f.info with
  | sync d => exact absurd is (sync d)
  | pdelayResp n => exact absurd is (resp n)
  | _ => rfl

theorem followUp_sync {p d : Nat} {f : Frame} (is : f.info = .sync d) (b : State) :
    followUp p f b = gptpFrame p (.followUp d
      (rndDiv (b.now - ((b.up : Int) - f.began) + (portGet b (1 - p)).gptpOfs * fineNs) fineNs)) b := by
  simp only [followUp, is, stampNs]

theorem followUp_pdelayResp {p : Nat} {n : Int} {f : Frame} (is : f.info = .pdelayResp n) (b : State) :
    followUp p f b = gptpFrame p (.pdelayFollow (rndDiv (b.now - ((b.up : Int) - f.began)) fineNs)) b := by
  simp only [followUp, is, stampNs]

theorem linkChange_up {p : Nat} {b : State} (down : (portGet b p).link = false) (on : cfgF b .port p 0 63 62 ≠ 0) (lock : b.tb.npll.lock = true) :
    linkChange p true b = portServe p (portUpd p (fun x => { x with
      link := true, preempt := cfgF b .port p 0 61 61 == 1 && (drawBool b).1 }) (drawBool b).2) := by
  rw [linkChange, if_pos rfl, if_neg (by simp [down, on, lock])]

theorem linkChange_down {p : Nat} {b : State} (up : (portGet b p).link = true) : linkChange p false b = portDown p b := by
  rw [linkChange, if_neg Bool.false_ne_true, if_pos up]

section
variable {p : Nat} {b : State} (on : asOn b p = true)
include on

theorem gptpRx_on (msg : GptpMsg) : gptpRx p msg b = match msg with
    | .pdelayReq => gptpFrame p (.pdelayResp (stampNs b.now)) b
    | .pdelay ns => schedBoth (portUpd p (fun x => { x with
        propDelay := ns, asCapable := decide (ns ≤ cfgF b .time p 0 62 47) }) b)
    | .sync d t => if d = gptpDomain b ∧ (portGet b p).asCapable = true then syncOfs t (1 - p) (syncOfs t p b) else b
    | .announce d g =>
      if d = gptpDomain b ∧ (portGet b p).asCapable = true then schedBoth (portUpd p (fun x => { x with gmKnown := g }) b)
      else b := by
  unfold gptpRx
  exact if_neg (by simp [on])

theorem syncOfs_capable (t : Nat) (capable : (portGet b p).asCapable = true) : syncOfs t p b =
    portUpd p (fun x => { x with gptpOfs := rndDiv ((t : Int) * fineNs - b.now) fineNs }) b := by
  rw [syncOfs, if_pos (by simp [on, capable])]

theorem gptpTx_pdelay {r : State} (is : reachUp ((portGet b p).pdelays + logInterval (cfgF b .time p 0 42 39)) b = r) :
    gptpTx p true b = gptpFrame p .pdelay (portUpd p (fun y => { y with pdelays := r.up }) r) := by
  rw [← is, gptpTx, if_neg (by simp [on]), if_pos rfl]

theorem gptpTx_sync {r : State} (relays : relaysSync b p = true)
    (is : reachUp ((portGet b p).syncs + logInterval (cfgF b .time p 0 46 43)) b = r) :
    gptpTx p false b = gptpFrame p (.sync (gptpDomain b)) (portUpd p (fun y => { y with syncs := r.up }) r) := by
  rw [← is, gptpTx, if_neg (by simp [on]), if_neg Bool.false_ne_true, if_pos relays]

end

theorem gptpRx_off {p : Nat} {b : State} (off : asOn b p = false) (msg : GptpMsg) : gptpRx p msg b = b := by
  unfold gptpRx
  exact if_pos (by simp [off])

theorem gateNext_oper {p : Nat} {b r : State} {l : GateList} (oper : (portGet b p).oper = some l)
    (is : reachSched p (portGet b p).gateEnd b = r) :
    gateNext p b = gateEnter p l (((portGet b p).gateIdx + 1) % max 1 (gateTimes l).length) (portGet b p).gateEnd r := by
  rw [← is, gateNext]
  simp only [oper]

theorem gateApply_admin {p : Nat} {b : State} {l : GateList} (admin : (portGet b p).admin = some l) :
    gateApply p b = gateEnter p l 0 (cycleStart l (schedT b p))
      (portUpd p (fun x => { x with oper := some l, admin := none }) (reachSched p (cycleStart l (schedT b p)) b)) := by
  rw [gateApply]
  simp only [admin]

theorem holdCut_quiet {p : Nat} {r : State} (quiet : (portGet r p).sending = none) (win : Int) : holdCut p win r = r := by
  simp only [holdCut, quiet]

/-- An entry of the gate list with no frame on the line (R364). -/
theorem gateEnter_quiet {p : Nat} {r : State} (quiet : (portGet r p).sending = none) (l : GateList) (i : Nat) (start : Int) :
    gateEnter p l i start r = portServe p (portUpd p (fun x => { x with
      gateIdx := i, gateEnd := start + (((gateTimes l).getD i (255, 0, 0)).2.2 : Int)
      gatesOpen := ((gateTimes l).getD i (255, 0, 0)).1
      hold := x.preempt && ((gateTimes l).getD i (255, 0, 0)).1 == 128 }) r) := by
  simp only [gateEnter, holdCut_quiet quiet, ite_self, c0Gates]

/-- Settles O58: frames, links, 802.1AS, gate lists and recovery. -/
theorem switchEvents : Obligations.SwitchEvents := by
  refine ⟨?_, ?_⟩
  · intro dt p s b at_
    have arrives {f : EthFrame} (frame : wfFrame f = true) {y : State}
        (is : (if (frameRx p.val f b).1 then datagramAct p.val f (frameRx p.val f b).2 else (frameRx p.val f b).2) = y) :
        exec (.ethFrameRx dt p f) s = .next (settle s y) := by
      rw [exec_ethFrameRx at_ p frame, is]
    refine ⟨fun f frame gone => arrives frame (if_neg (by simp [gone])), fun f frame ours => ?_, fun f frame down => arrives frame ?_,
      fun f frame up free alone plain => ?_, fun q f line => ?_, fun none => ?_, fun down on lock => ?_, fun up => ?_⟩
    · intro a
      refine ⟨fun control => arrives frame ((if_pos ours).trans (if_pos (by simpa using control))), fun stream => ?_⟩
      exact arrives frame ((if_pos ours).trans (if_neg (by simpa using stream)))
    · rw [frameRx_linkDown down]
      rfl
    · intro x
      have passes := frameRx_plain up free alone
      have x_ : learn p.val f b = x := rfl
      rw [x_] at passes
      refine ⟨fun other all => arrives frame ?_, fun ours room accepts => arrives frame ?_, fun ours room refuses => arrives frame ?_⟩
      · rw [passes, if_neg other, bridge_broadcast all plain]
        rfl
      · have taken : frameRx p.val f b = (true, x) := by rw [passes, if_pos ours, deliver_plain plain room, if_pos accepts]
        rw [taken]
        rfl
      · have refused : frameRx p.val f b = (false, qciDrop p.val x) := by
          rw [passes, if_pos ours, deliver_plain plain room, if_neg (by simp [refuses])]
        rw [refused]
        rfl
    · intro r
      have sent := frameSent_line line (r := r) rfl
      clear_value r
      rw [exec_frameTransmitted at_, sent]
      refine ⟨fun cut => by rw [if_pos (by simp [cut])], ?_⟩
      intro v left still
      rw [if_neg (by rw [Option.isNone_iff_eq_none, ← Option.not_isSome_iff_eq_none]; exact fun h => h still)]
      refine ⟨fun sync resp => ?_, fun d is => ?_, fun n is => ?_⟩
      · rw [followUp_plain sync resp]
      · rw [followUp_sync is]
      · rw [followUp_pdelayResp is]
    · rw [exec_frameTransmitted at_, frameSent]
      simp only [none]
    · rw [exec_portLinkChange at_, linkChange_up down on lock]
      rfl
    · rw [exec_portLinkChange at_, linkChange_down up]
      rfl
  · intro dt p s b at_ dom
    refine ⟨fun on => ⟨fun ns => ?_, ?_, fun t capable => ?_, fun g capable => ?_, fun d t g other => ⟨?_, ?_⟩, ?_, fun capable peer gm => ?_⟩,
      fun off msg => ?_, fun l admin => ?_, fun l oper => ?_, fun l oper => ?_, fun st => ?_⟩
    · rw [exec_gptpMessageRx at_, gptpRx_on on]
    · rw [exec_gptpMessageRx at_, gptpRx_on on]
      rfl
    · have both : dom = gptpDomain b ∧ (portGet b p).asCapable = true := ⟨rfl, capable⟩
      rw [exec_gptpMessageRx at_, gptpRx_on on]
      simp only [if_pos both, syncOfs_capable on t capable]
    · have both : dom = gptpDomain b ∧ (portGet b p).asCapable = true := ⟨rfl, capable⟩
      rw [exec_gptpMessageRx at_, gptpRx_on on]
      simp only [if_pos both]
    · rw [exec_gptpMessageRx at_, gptpRx_on on]
      exact congrArg (fun y => Host.Outcome.next (settle s y)) (if_neg fun h => other h.1)
    · rw [exec_gptpMessageRx at_, gptpRx_on on]
      exact congrArg (fun y => Host.Outcome.next (settle s y)) (if_neg fun h => other h.1)
    · intro r
      rw [exec_gptpMessageTx at_, gptpTx_pdelay on (r := r) rfl]
    · intro r
      rw [exec_gptpMessageTx at_, gptpTx_sync on (by simp [relaysSync, capable, peer, gm]) (r := r) rfl]
      rfl
    · rw [exec_gptpMessageRx at_, gptpRx_off off]
    · intro start
      rw [exec_gateListApply at_, gateApply_admin admin]
    · rw [exec_gateIntervalEnd at_, gateNext_oper oper rfl]
    · intro i r e quiet
      rw [exec_gateIntervalEnd at_, gateNext_oper oper (r := r) rfl, gateEnter_quiet quiet]
    · exact exec_cbRecoveryReset at_ st

end Sys2Proof.Machine
end

section
/-! # Entry into the safe state (ch. 14): no edge to come, no volley to be offered -/

namespace Sys2Proof.Machine

/-! ### What stays quiet once the safe state is entered (R77, R379) -/

/-- The emitters, the volleys to be offered and the time of the entry into the safe state. -/
def State.still (s : State) : Tab EmCh × List Offer × Int := (s.em, s.pb.offers, s.safe.entryDt)

@[simp] theorem still_mk (p n u f cfg ctl tb sa pw oq sw te em pb rx mo sm cd bq rt tn ch ti en tr pe ca fa ta) :
    State.still (State.mk p n u f cfg ctl tb sa pw oq sw te em pb rx mo sm cd bq rt tn ch ti en tr pe ca fa ta)
      = (em, pb.offers, sa.entryDt) := rfl

@[simp] theorem still_eta (s : State) : (s.em, s.pb.offers, s.safe.entryDt) = s.still := rfl

@[simp] theorem ite_still (c : Prop) [Decidable c] (x y : State) :
    (if c then x else y).still = if c then x.still else y.still := apply_ite State.still c x y

@[simp] theorem foldl_still {α : Type} (f : State → α → State) (h : ∀ a x, (f a x).still = a.still) (l : List α) (s : State) :
    (l.foldl f s).still = s.still := by
  induction l generalizing s with
  | nil => rfl
  | cons x t ih => rw [List.foldl_cons, ih, h]

/-- What leaves the block and the Umpire's time of entry leaves the emitters. -/
theorem still_of_block {s t : State} (block : t.block = s.block) (entry : t.safe.entryDt = s.safe.entryDt) : t.still = s.still := by
  simp only [State.block, Prod.mk.injEq] at block
  obtain ⟨-, -, -, -, -, -, -, -, em, pb, -⟩ := block
  rw [State.still, State.still, em, pb, entry]

@[simp] theorem pbUpd_still (f) (s : State) : (pbUpd f s).still = (s.em, (f s.pb).offers, s.safe.entryDt) := rfl
@[simp] theorem safeUpd_still (f) (s : State) : (safeUpd f s).still = (s.em, s.pb.offers, (f s.safe).entryDt) := rfl
@[simp] theorem drawFree_still (s : State) : (drawFree s).2.still = s.still := by simp [drawFree]
@[simp] theorem drawBool_still (s : State) : (drawBool s).2.still = s.still := by simp [drawBool]
@[simp] theorem decideCause_still (a) (b) (c) (s : State) : (decideCause a b c s).still = s.still := by
  simp [decideCause]
@[simp] theorem causeGone_still (a) (s : State) : (causeGone a s).still = s.still := by
  simp [causeGone]
@[simp] theorem irqBoth_still (a) (s : State) : (irqBoth a s).still = s.still :=
  still_of_block (by simp) (by simp)
@[simp] theorem journal_still (a) (s : State) : (journal a s).still = s.still :=
  still_of_block (by simp) (by simp)
@[simp] theorem journalDev_still (a) (s : State) : (journalDev a s).still = s.still :=
  still_of_block (by simp) (by simp)
@[simp] theorem logRec_still (a) (b) (s : State) : (logRec a b s).still = s.still := by simp [logRec]
@[simp] theorem qUpd_still (a) (b) (s : State) : (qUpd a b s).still = s.still :=
  still_of_block (by simp) (by simp)
@[simp] theorem out_still (a) (s : State) : (out a s).still = s.still :=
  still_of_block (by simp) (by simp)
@[simp] theorem portUpd_still (a) (b) (s : State) : (portUpd a b s).still = s.still :=
  still_of_block (by simp) (by simp)
@[simp] theorem schedBoth_still (s : State) : (schedBoth s).still = s.still :=
  still_of_block (by simp) (by simp)
@[simp] theorem portDown_still (a) (s : State) : (portDown a s).still = s.still :=
  still_of_block (by simp) (by simp)
@[simp] theorem portServe_still (a) (s : State) : (portServe a s).still = s.still :=
  still_of_block (by simp) (by simp)
@[simp] theorem flushQueue_still (a) (s : State) : (flushQueue a s).still = s.still :=
  still_of_block (by simp) (by simp)
@[simp] theorem emitRecord_still (a) (b) (c) (d) (s : State) : (emitRecord a b c d s).still = s.still :=
  still_of_block (by simp) (by simp)
@[simp] theorem queueAlert_still (a) (b) (c) (s : State) : (queueAlert a b c s).still = s.still :=
  still_of_block (by simp) (by simp only [queueAlert]; (repeat' split) <;> simp [decideCause])
@[simp] theorem sendAlert_still (a) (b) (c) (d) (e) (s : State) : (sendAlert a b c d e s).still = s.still := by
  simp [sendAlert]
@[simp] theorem nvmPut_still (a) (s : State) : (nvmPut a s).still = s.still :=
  still_of_block (by simp) (by simp)
@[simp] theorem bgDone_still (a) (b) (c) (d) (s : State) : (bgDone a b c d s).still = s.still :=
  still_of_block (by simp) (by simp)
@[simp] theorem freezeLoop_still (a) (s : State) : (freezeLoop a s).still = s.still := by
  simp only [freezeLoop, drawFree]; split <;> simp
@[simp] theorem markOpen_still (a) (s : State) : (markOpen a s).still = s.still := by simp [markOpen]
@[simp] theorem markTeamStale_still (s : State) : (markTeamStale s).still = s.still := by simp [markTeamStale]
@[simp] theorem markRefused_still (a) (s : State) : (markRefused a s).still = s.still := by simp [markRefused]
@[simp] theorem tripGone_still (s : State) : (tripGone s).still = s.still := by simp [tripGone]
@[simp] theorem rxUpd_still (a) (b) (s : State) : (rxUpd a b s).still = s.still := by simp [rxUpd]
@[simp] theorem monUpd_still (a) (b) (s : State) : (monUpd a b s).still = s.still := by simp [monUpd]
@[simp] theorem rxApply_still (a) (b) (s : State) : (rxApply a b s).still = s.still := by simp [rxApply]
@[simp] theorem rxTileApply_still (a) (b) (s : State) : (rxTileApply a b s).still = s.still := by simp [rxTileApply]
@[simp] theorem rxMargins_still (s : State) : (rxMargins s).still = s.still := by simp [rxMargins]
@[simp] theorem tileUpd_still (a) (b) (s : State) : (tileUpd a b s).still = s.still := by simp [tileUpd]
@[simp] theorem chanUpd_still (a) (b) (s : State) : (chanUpd a b s).still = s.still := by simp [chanUpd]
@[simp] theorem engUpd_still (a) (b) (s : State) : (engUpd a b s).still = s.still := by simp [engUpd]
@[simp] theorem recUpd_still (a) (b) (s : State) : (recUpd a b s).still = s.still := by simp [recUpd]
@[simp] theorem countWritten_still (a) (b) (s : State) : (countWritten a b s).still = s.still := by simp [countWritten]
@[simp] theorem recPut_still (a) (b) (c) (d) (e) (s : State) : (recPut a b c d e s).still = s.still := by simp [recPut]
@[simp] theorem recRead_still (a) (b) (s : State) : (recRead a b s).still = s.still := by simp [recRead]
@[simp] theorem recSettle_still (a) (s : State) : (recSettle a s).still = s.still := by
  simp only [recSettle]; (repeat' split) <;> simp
@[simp] theorem recStop_still (a b c) (s : State) : (recStop a b c s).still = s.still := by simp [recStop]
@[simp] theorem recFreeze_still (a) (b) (s : State) : (recFreeze a b s).still = s.still := by
  simp [recFreeze]
@[simp] theorem recFill_still (a t) (s : State) : (recFill a t s).still = s.still := by simp [recFill]
@[simp] theorem markPut_still (a) (b) (s : State) : (markPut a b s).still = s.still := by simp [markPut]
@[simp] theorem recTake_still (a) (b) (c) (d) (s : State) : (recTake a b c d s).still = s.still := by simp [recTake]
@[simp] theorem recBusy_still (a) (b) (c) (d) (s : State) : (recBusy a b c d s).still = s.still := by simp [recBusy]
@[simp] theorem recSend_still (a) (s : State) : (recSend a s).still = s.still := by
  simp only [recSend]; split <;> simp
@[simp] theorem recSends_still (a) (s : State) : (recSends a s).still = s.still := by simp [recSends]
@[simp] theorem recLocal_still (a b t) (s : State) : (recLocal a b t s).still = s.still := by
  simp only [recLocal]; (repeat' split) <;> simp
@[simp] theorem recTrigger_still (a) (b) (c) (d) (s : State) : (recTrigger a b c d s).still = s.still := by
  simp only [recTrigger]; split <;> simp
@[simp] theorem recLayout_still (a) (b) (s : State) : (recLayout a b s).still = s.still := by simp [recLayout]
@[simp] theorem recEvent_still (a) (b) (c) (d) (e) (s : State) : (recEvent a b c d e s).still = s.still := by
  simp [recEvent]
@[simp] theorem pixUpd_still (a) (b) (c) (d) (s : State) : (pixUpd a b c d s).still = s.still := by simp [pixUpd]
@[simp] theorem calZeroEvent_still (a) (b) (s : State) : (calZeroEvent a b s).still = s.still := by
  simp [calZeroEvent]
@[simp] theorem eccCorrected_still (a) (s : State) : (eccCorrected a s).still = s.still := by simp [eccCorrected]
@[simp] theorem binRead_still (a b c) (s : State) : (binRead a b c s).still = s.still := by simp [binRead]
@[simp] theorem decideEvent_still (ti e) (s : State) : (decideEvent ti e s).still = s.still := by
  simp only [decideEvent, tileUpd_still, calZeroEvent_still, ite_still, ite_self]
  generalize pixOf _ _ _ _ = o
  cases o with
  | none => simp
  | some p => simp only []; generalize Option.map (binGranule p.wide) _ = hit; cases hit <;> simp
@[simp] theorem decideEvents_still (f ti n) (s : State) : (decideEvents f ti n s).still = s.still := by
  induction n generalizing s with
  | zero => rfl
  | succ n ih =>
    simp only [decideEvents]
    split
    · rw [ih, decideEvent_still]
    · rfl
@[simp] theorem decideTile_still (f ti) (s : State) : (decideTile f ti s).still = s.still := by
  unfold decideTile
  extract_lets s1 x go
  split
  · exact decideEvents_still f ti _ s
  · rw [recSettle_still]
    exact (foldl_still _ (fun a i => by cases i <;> simp [TileItem.take_]) go s1).trans (decideEvents_still f ti _ s)
@[simp] theorem decideAll_still (a) (s : State) : (decideAll a s).still = s.still := by simp [decideAll]
@[simp] theorem xing3_still (a) (s : State) : (xing3 a s).still = s.still := by simp [xing3]
@[simp] theorem closeChan_still (a) (b) (s : State) : (closeChan a b s).still = s.still := by simp [closeChan]
@[simp] theorem haltChan_still (a) (b) (s : State) : (haltChan a b s).still = s.still := by simp [haltChan]
@[simp] theorem takeResets_still (s : State) : (takeResets s).still = s.still := by simp [takeResets]
@[simp] theorem winApply_still (a) (b) (c) (s : State) : (winApply a b c s).still = s.still := by simp [winApply]
@[simp] theorem coincApply_still (a) (b) (s : State) : (coincApply a b s).still = s.still := by simp [coincApply]
@[simp] theorem haltClose_still (s : State) : (haltClose s).still = s.still := by simp [haltClose]
@[simp] theorem setDiv_still (a) (s : State) : (setDiv a s).still = s.still := by simp [setDiv]
@[simp] theorem sysAdjust_still (s : State) : (sysAdjust s).still = s.still := by simp [sysAdjust]
@[simp] theorem logPages_still (s : State) : (logPages s).still = s.still := by simp [logPages]
@[simp] theorem logEvent_still (a) (b) (s : State) : (logEvent a b s).still = s.still := by simp [logEvent]
@[simp] theorem calUpd_still (a) (s : State) : (calUpd a s).still = s.still := by simp [calUpd]
@[simp] theorem calRest_still (s : State) : (calRest s).still = s.still := by simp [calRest]
@[simp] theorem calSettle_still (s : State) : (calSettle s).still = s.still := by simp [calSettle]
@[simp] theorem calFeed_still (s : State) : (calFeed s).still = s.still := by simp [calFeed]
@[simp] theorem pendUser_still (a) (b) (s : State) : (pendUser a b s).still = s.still := by
  simp only [pendUser]; split <;> simp
@[simp] theorem rejoinTile_still (a) (s : State) : (rejoinTile a s).still = s.still := by simp [rejoinTile]
@[simp] theorem calFailLeft_still (a) (s : State) : (calFailLeft a s).still = s.still := by simp [calFailLeft]
@[simp] theorem tileBack_still (a) (s : State) : (tileBack a s).still = s.still := by simp [tileBack]
@[simp] theorem pendTrim_still (a) (s : State) : (pendTrim a s).still = s.still := by simp only [pendTrim]; split <;> simp
@[simp] theorem calEnd_still (a) (s : State) : (calEnd a s).still = s.still := by simp [calEnd]
@[simp] theorem calAbort_still (a) (s : State) : (calAbort a s).still = s.still := by simp [calAbort]
@[simp] theorem calStepHit_still (s : State) : (calStepHit s).still = s.still := by simp [calStepHit]
@[simp] theorem gridStart_still (a) (b) (c) (s : State) : (gridStart a b c s).still = s.still := by
  simp only [gridStart, pbUpd_still]; split <;> rfl
@[simp] theorem gridRestart_still (a) (s : State) : (gridRestart a s).still = s.still := by simp [gridRestart]
@[simp] theorem swapBank_still (a) (b) (c) (s : State) : (swapBank a b c s).1.still = s.still := by
  simp only [swapBank]; (repeat' split) <;> simp
@[simp] theorem tpllHook_still (a) (b) (s : State) : (tpllHook a b s).still = s.still := by
  simp only [tpllHook]; (repeat' split) <;> simp
@[simp] theorem modeHook_still (a) (b) (s : State) : (modeHook a b s).still = s.still := by
  simp only [modeHook]; (repeat' split) <;> rfl
@[simp] theorem pbHook_still (a) (b) (c) (s : State) : (pbHook a b c s).still = s.still := by simp [pbHook]
@[simp] theorem streamHook_still (s : State) : (streamHook s).still = s.still := by simp [streamHook]
@[simp] theorem deadPrune_still (s : State) : (deadPrune s).still = s.still := by simp [deadPrune]
@[simp] theorem safeHook_still (a) (b) (s : State) : (safeHook a b s).still = s.still := by
  simp only [safeHook, tripGone_still, deadPrune_still]; (repeat' split) <;> rfl
@[simp] theorem teamHook_still (a) (b) (s : State) : (teamHook a b s).still = s.still := by simp [teamHook]
@[simp] theorem queueHook_still (a) (b) (c) (s : State) : (queueHook a b c s).still = s.still := by simp [queueHook]
@[simp] theorem portHook_still (a) (b) (c) (s : State) : (portHook a b c s).still = s.still := by simp [portHook]
@[simp] theorem timeHook_still (a) (b) (s : State) : (timeHook a b s).still = s.still := by simp [timeHook]
@[simp] theorem gateHook_still (a) (b) (c) (s : State) : (gateHook a b c s).still = s.still := by simp [gateHook]
@[simp] theorem calConfig_still (a) (s : State) : (calConfig a s).still = s.still := by simp [calConfig]
@[simp] theorem bndApply_still (a) (s : State) : (bndApply a s).still = s.still := by simp only [bndApply]; split <;> simp
@[simp] theorem bndTake_still (a) (s : State) : (bndTake a s).still = s.still := by simp [bndTake]
@[simp] theorem bndChange_still (a) (b) (c) (s : State) : (bndChange a b c s).still = s.still := by simp [bndChange]
@[simp] theorem journalMember_still (a) (b) (c) (d) (s : State) : (journalMember a b c d s).still = s.still := by
  simp [journalMember]
@[simp] theorem teamAgain_still (s : State) : (teamAgain s).still = s.still := by simp [teamAgain]
@[simp] theorem staleOver_still (s : State) : (staleOver s).still = s.still := by simp [staleOver]
@[simp] theorem restartStep_still (s : State) : (restartStep s).2.still = s.still := by
  simp only [restartStep]; split <;> simp
@[simp] theorem syncReset_still (s : State) : (syncReset s).still = s.still := by simp [syncReset]
@[simp] theorem huddleRelay_still (s : State) : (huddleRelay s).still = s.still := by simp [huddleRelay]
@[simp] theorem safetyTrig_still (a) (b) (s : State) : (safetyTrig a b s).still = s.still := by simp [safetyTrig]
@[simp] theorem takeSupp_still (a) (b) (c) (s : State) : (takeSupp a b c s).2.still = s.still := by simp [takeSupp]
@[simp] theorem sendCode_still (a) (b) (c) (d) (e) (f) (s : State) : (sendCode a b c d e f s).still = s.still := by simp [sendCode]
@[simp] theorem sendDecision_still (a) (b) (s : State) : (sendDecision a b s).still = s.still := by simp [sendDecision]
@[simp] theorem safetyAlert_still (a) (s : State) : (safetyAlert a s).still = s.still := by
  simp [safetyAlert]
@[simp] theorem dropWords_still (s : State) : (dropWords s).still = s.still := by simp [dropWords]

/-! ### A volley with no edge to come -/

/-- The volley was cut or has launched all of its edges. -/
def Vol.spent (v : Vol) : Bool := v.dead || decide (2 * v.pulses.length ≤ v.launched)

/-- The channel has no edge to come. -/
def allSpent (e : EmCh) : Prop := ∀ v ∈ e.vols, v.spent = true

/-- No channel has an edge to come, no volley is to be offered, and the safe state was entered at `t`. -/
structure Calm (t : Int) (s : State) : Prop where
  spent : ∀ ch, allSpent (emGet s ch)
  offers : s.pb.offers = []
  entry : s.safe.entryDt = t

theorem length_edgesOf (s : State) (ps : List Pulse) : (edgesOf s ps).length = 2 * ps.length := by
  induction ps with
  | nil => rfl
  | cons p ps ih =>
    rw [List.length_cons, show edgesOf s (p :: ps) = [p.rise, _] ++ edgesOf s ps from rfl, List.length_append, ih]
    simp only [List.length_cons, List.length_nil]
    omega

theorem nextEdges_spent {s : State} {ch : Nat} (spent : allSpent (emGet s ch)) : nextEdges s ch = [] := by
  refine List.filterMap_eq_nil_iff.mpr fun v mem => ?_
  have done := spent v mem
  simp only [Vol.spent, Bool.or_eq_true, decide_eq_true_eq] at done
  rcases done with dead | launched
  · rw [if_pos dead]
  · split
    · rfl
    · rw [List.getElem?_eq_none (by rw [length_edgesOf]; exact launched)]
      rfl

theorem Calm.of_still {t : Int} {x y : State} (c : Calm t x) (same : y.still = x.still) : Calm t y := by
  simp only [State.still, Prod.mk.injEq] at same
  obtain ⟨em, offers, entry⟩ := same
  exact ⟨fun ch => by rw [emGet, em]; exact c.spent ch, offers.trans c.offers, entry.trans c.entry⟩

theorem Calm.foldl {α : Type} {t : Int} {f : State → α → State} (keeps : ∀ a x, Calm t a → Calm t (f a x)) (l : List α) {s : State}
    (c : Calm t s) : Calm t (l.foldl f s) := by
  induction l generalizing s with
  | nil => exact c
  | cons x l ih => exact ih (keeps s x c)

/-! ### Emitters: what cuts a volley leaves none to come -/

section
variable {t : Int} {s : State}

theorem calm_emUpd {f : EmCh → EmCh} (keeps : ∀ e, allSpent e → allSpent (f e)) (ch : Nat) (c : Calm t s) : Calm t (emUpd ch f s) := by
  refine ⟨fun k => ?_, c.offers, c.entry⟩
  by_cases here : k = ch
  · rw [here, emGet_emUpd_same]
    exact keeps _ (c.spent ch)
  · rw [emGet_emUpd_other ch k f s here]
    exact c.spent k

/-- A change of a channel that leaves its volleys. -/
theorem calm_emUpd_vols {f : EmCh → EmCh} (ch : Nat) (c : Calm t s) (keeps : ∀ e, (f e).vols = e.vols := by intro; rfl) :
    Calm t (emUpd ch f s) :=
  calm_emUpd (fun e spent v mem => spent v (by rw [← keeps e]; exact mem)) ch c

theorem allSpent_cutVols {e : EmCh} (spent : allSpent e) : allSpent (cutVols e) := by
  intro v mem
  obtain ⟨w, old, rfl⟩ := List.mem_map.mp mem
  split
  · rfl
  · exact spent w old

theorem allSpent_filter {e e' : EmCh} (spent : allSpent e) {p : Vol → Bool} (is : e'.vols = e.vols.filter p) : allSpent e' := by
  intro v mem
  rw [is] at mem
  exact spent v (List.mem_filter.mp mem).1

theorem calm_leaveArmed (ch : Nat) (c : Calm t s) : Calm t (leaveArmed ch s) := by
  unfold leaveArmed
  dsimp only
  split
  · split
    · exact c
    · exact calm_emUpd_vols ch c
  · exact c

theorem calm_refusePending (ch : Nat) (c : Calm t s) : Calm t (refusePending ch s) := by
  unfold refusePending
  exact Calm.foldl (fun a v calm => calm.of_still (by simp)) _ (calm_emUpd (fun _ spent => allSpent_filter spent rfl) ch c)

theorem calm_tripChannel (src ch : Nat) (c : Calm t s) : Calm t (tripChannel src ch s) := by
  have cut := calm_leaveArmed ch
    (calm_emUpd (f := fun x => { cutVols x with latched := true, tripFirst := src }) (fun _ spent => allSpent_cutVols spent) ch c)
  unfold tripChannel
  dsimp only
  split
  · split
    · exact c.of_still rfl
    · exact c
  · exact cut.of_still rfl

theorem calm_tripSource (src : Nat) (c : Calm t s) : Calm t (tripSource src s) :=
  Calm.foldl (fun _ ch calm => calm_tripChannel src ch calm) _ c

theorem calm_tripLevels (ch was : Nat) (c : Calm t s) : Calm t (tripLevels ch was s) :=
  Calm.foldl (fun _ src calm => calm_tripChannel src ch calm) _ c

theorem calm_outCtrl (ch new : Nat) (c : Calm t s) : Calm t (outCtrl ch new s) := by
  unfold outCtrl
  dsimp only
  split
  · exact c
  · exact calm_emUpd_vols ch c
  · exact calm_emUpd_vols ch c
  · exact calm_refusePending ch (calm_emUpd_vols ch c)
  · exact calm_emUpd_vols ch c
  · exact calm_emUpd_vols ch c
  · exact calm_emUpd_vols ch c
  · split
    · exact calm_emUpd_vols ch (calm_refusePending ch c)
    · exact calm_emUpd_vols ch (calm_refusePending ch c)

/-! ### Monitors and the hooks of a set -/

theorem calm_monSettle (m : Nat) (c : Calm t s) : Calm t (monSettle m s) := by
  unfold monSettle
  extract_lets x f want r s1
  have noted : Calm t s1 := c.of_still (by simp [s1])
  split
  · exact noted
  split
  · exact calm_tripSource m noted
  split
  · exact noted.of_still (by simp)
  · exact noted

theorem calm_monHold (m : Nat) (c : Calm t s) : Calm t (monHold m s) := by
  unfold monHold
  dsimp only
  split
  · exact calm_monSettle m c
  · exact calm_monSettle m (c.of_still (by simp))

theorem calm_monRestart (m : Nat) (c : Calm t s) : Calm t (monRestart m s) := by
  unfold monRestart
  extract_lets s1 s2
  have settled : Calm t s2 := calm_monSettle m (c.of_still (by simp [s1]))
  split
  · exact settled
  · exact settled.of_still (by simp)

theorem calm_monHolds (l : List Nat) (c : Calm t s) : Calm t (l.foldl (fun a m => monHold m a) s) :=
  Calm.foldl (fun _ m calm => calm_monHold m calm) l c

theorem calm_changeHook (k : CfgKind) (i : Nat) (old raw new : Obj) (c : Calm t s) : Calm t (changeHook k i old raw new s) := by
  cases k
  case emCh =>
    simp only [changeHook]
    split
    · exact c
    · refine calm_tripLevels i _ ?_
      split
      · exact c
      · exact calm_outCtrl i _ c
  case margin =>
    have held (b : Bool) : Calm t (if b then (List.range 34).foldl (fun a m => monHold m a) s else s) := by
      split
      · exact calm_monHolds _ c
      · exact c
    simp only [changeHook]
    split
    · exact (held _).of_still (bndChange_still _ _ _ _)
    · exact held _
  case mc =>
    simp only [changeHook]
    split
    · exact c
    split
    · exact calm_monRestart i c
    · exact calm_monHold i c
  case mp =>
    simp only [changeHook]
    split
    · exact calm_monRestart _ c
    split
    · exact calm_monHold _ c
    · exact c
  all_goals
    simp only [changeHook]
    exact c.of_still (by (repeat' split) <;> simp)

/-! ### Sets, band steps and phase steps -/

theorem calm_applyOp (op : SetOp) (c : Calm t s) : Calm t (applyOp op s) := by
  cases op with
  | write n ws =>
    simp only [applyOp]
    split
    · exact c
    next k i _ =>
      split
      · exact c.of_still (by simp)
      · have flushed : Calm t (if k = .queue ∧ redirects (cfgObj s k i) (mergeWords k (cfgObj s k i) ws) then flushQueue i s else s) := by
          split
          · exact c.of_still (flushQueue_still i s)
          · exact c
        exact calm_changeHook _ _ _ _ _ (flushed.of_still rfl)
  | armJump slot on => exact c.of_still rfl
  | swapBank q bank m => exact c.of_still (swapBank_still q bank m s)

theorem calm_applySet (boundary : Nat) (w : WaitSet) (c : Calm t s) : Calm t (applySet boundary w s) := by
  unfold applySet
  extract_lets s1 d ctl s2
  have written : Calm t s2 := (Calm.foldl (fun a o calm => calm_applyOp o calm) _ c : Calm t s1).of_still rfl
  exact Calm.foldl (fun a m calm => calm.of_still (by simp)) _ written

theorem calm_applyWaiting (due : WaitSet → Bool) (c : Calm t s) : Calm t (applyWaiting due s) := by
  unfold applyWaiting
  exact Calm.foldl (fun a w calm => calm_applySet w.boundary w calm) _ (c.of_still rfl)

theorem calm_calStep (c : Calm t s) : Calm t (calStep s) := by
  unfold calStep
  extract_lets old new user cfg' s1 s2 team s3 s4 s5 ctl s6
  have three : Calm t s3 := c.of_still (by simp only [s3]; split <;> rfl)
  have four : Calm t s4 := three.of_still (by simp only [s4]; split <;> simp)
  have five : Calm t s5 := by
    simp only [s5]
    split
    · exact calm_monHolds _ four
    · exact four
  have six : Calm t s6 := five.of_still (by simp only [s6]; split <;> rfl)
  exact six.of_still (by simp)

/-- A channel whose edges to come are moved by `g` (R282). -/
def stepEm (g : Int → Int) (e : EmCh) : EmCh :=
  { e with vols := e.vols.map (fun v => { v with pulses := v.pulses.mapIdx (stepPulse g v) }) }

theorem stepTime_em (d : Int) (s : State) :
    ∃ g, (stepTime d s).em = (recSends true (decideAll true s)).em.map (fun p => (p.1, stepEm g p.2)) := ⟨_, rfl⟩

theorem allSpent_stepEm (g : Int → Int) {e : EmCh} (spent : allSpent e) : allSpent (stepEm g e) := by
  intro v mem
  obtain ⟨w, here, rfl⟩ := List.mem_map.mp mem
  simpa [Vol.spent] using spent w here

/-- A step of the phase moves the edges, but brings none (R282). -/
theorem calm_stepTime (d : Int) (c : Calm t s) : Calm t (stepTime d s) := by
  have before : Calm t (recSends true (decideAll true s)) := c.of_still (by simp)
  obtain ⟨g, em⟩ := stepTime_em d s
  refine ⟨fun ch => ?_, before.offers, before.entry⟩
  rw [emGet, em, tabGet_map {} (stepEm g) rfl]
  exact allSpent_stepEm g (before.spent ch)

/-- A change of the Playbook that leaves the volleys to be offered. -/
theorem calm_pbUpd {f : Pb → Pb} (c : Calm t s) (keeps : ∀ p, (f p).offers = p.offers := by intro; rfl) : Calm t (pbUpd f s) :=
  ⟨c.spent, (keeps s.pb).trans c.offers, c.entry⟩

theorem calm_phaseStep (d : Int) (c : Calm t s) : Calm t (phaseStep d s) := by
  unfold phaseStep
  split
  · exact c
  · have journaled : Calm t (journalDev 3 (teamAgain (stepTime d s))) := (calm_stepTime d c).of_still (by simp)
    exact calm_pbUpd journaled

theorem calm_captureStep (c : Calm t s) : Calm t (captureStep s) := by
  unfold captureStep
  split
  · exact c
  · exact calm_phaseStep _ (c.of_still (by simp))

theorem calm_realignStep (c : Calm t s) : Calm t (realignStep s) := by
  unfold realignStep
  exact calm_phaseStep _ (c.of_still (by simp))

theorem calm_huddle (c : Calm t s) : Calm t (huddle s) := by
  have drawn : Calm t (restartStep (markTeamStale (teamAgain s))).2 := c.of_still (by simp)
  have stepped := (calm_stepTime (restartStep (markTeamStale (teamAgain s))).1 drawn).of_still (syncReset_still _)
  unfold huddle
  exact stepped.of_still (by simp)

theorem calm_phaseSteps (c : Calm t s) : Calm t (phaseSteps s) := by
  unfold phaseSteps
  extract_lets s1
  have restarted : Calm t s1 := by
    simp only [s1]
    split
    · exact calm_huddle c
    · exact c
  clear_value s1
  refine calm_captureStep ?_
  split
  · exact calm_realignStep restarted
  · exact restarted

theorem calm_idleSteps (c : Calm t s) : Calm t (idleSteps s) := by
  unfold idleSteps
  extract_lets s1
  have stepped : Calm t s1 := by
    simp only [s1]
    split
    · exact calm_calStep c
    · exact c
  clear_value s1
  split
  · exact stepped
  · exact calm_phaseSteps stepped

theorem calm_pbHalt (c : Calm t s) : Calm t (pbHalt s) := by
  unfold pbHalt
  extract_lets f s1 s2
  have stopped : Calm t s2 := c.of_still (by simp only [s2, s1]; split <;> simp)
  exact calm_idleSteps (calm_applyWaiting _ (stopped.of_still (by simp)))

end

/-! ### Entry into the safe state -/

theorem emGet_of_still {x y : State} (same : y.still = x.still) (k : Nat) : emGet y k = emGet x k := by
  rw [emGet, emGet, show y.em = x.em from congrArg Prod.fst same]

theorem leaveArmed_vols (ch k : Nat) (s : State) : (emGet (leaveArmed ch s) k).vols = (emGet s k).vols := by
  unfold leaveArmed
  dsimp only
  split
  · split
    · rfl
    · by_cases here : k = ch
      · rw [here, emGet_emUpd_same]
      · rw [emGet_emUpd_other ch k _ s here]
  · rfl

theorem refusePending_still (ch : Nat) (s : State) : (refusePending ch s).still =
    (emUpd ch (fun e => { e with
      vols := e.vols.filter (fun v => !notStarted v)
      outOff := satAdd 32 e.outOff ((emGet s ch).vols.filter notStarted).length }) s).still := by
  unfold refusePending
  exact foldl_still _ (fun a v => markRefused_still _ a) _ _

/-- A channel forced low keeps only volleys with no edge to come (R77, R379). -/
theorem forceLow_same (ch : Nat) (s : State) : allSpent (emGet (forceLow ch s) ch) := by
  intro v mem
  rw [forceLow, leaveArmed_vols, emGet_of_still (refusePending_still ch _), emGet_emUpd_same, emGet_emUpd_same] at mem
  obtain ⟨cut, started⟩ := List.mem_filter.mp mem
  obtain ⟨w, -, rfl⟩ := List.mem_map.mp cut
  split
  · rfl
  · next still =>
    rw [if_neg still] at started
    cases dead : w.dead
    · simp only [inProgress, notStarted, dead, Bool.not_false, Bool.true_and, Bool.and_eq_true, decide_eq_true_eq,
        Bool.not_eq_true', decide_eq_false_iff_not, not_and, Nat.not_lt] at still started
      simp only [Vol.spent, dead, Bool.false_or, decide_eq_true_eq]
      exact still (Nat.pos_of_ne_zero started)
    · simp [Vol.spent, dead]

theorem forceLow_other {ch k : Nat} (other : k ≠ ch) (s : State) : (emGet (forceLow ch s) k).vols = (emGet s k).vols := by
  rw [forceLow, leaveArmed_vols, emGet_of_still (refusePending_still ch _), emGet_emUpd_other ch k _ _ other,
    emGet_emUpd_other ch k _ _ other]

theorem leaveArmed_rest (ch : Nat) (s : State) : (leaveArmed ch s).still.2 = s.still.2 := by
  unfold leaveArmed
  dsimp only
  (repeat' split) <;> rfl

theorem forceLow_rest (ch : Nat) (s : State) : (forceLow ch s).still.2 = s.still.2 := by
  rw [forceLow, leaveArmed_rest, refusePending_still]
  rfl

theorem forceLows_rest (l : List Nat) (s : State) : (l.foldl (fun a ch => forceLow ch a) s).still.2 = s.still.2 := by
  induction l generalizing s with
  | nil => rfl
  | cons ch l ih => rw [List.foldl_cons, ih, forceLow_rest]

/-- Channels forced low one after the other: those named have no edge to come, and no other channel gets one. -/
theorem forceLows_spent (l : List Nat) {k : Nat} (s : State) (named : k ∈ l ∨ allSpent (emGet s k)) :
    allSpent (emGet (l.foldl (fun a ch => forceLow ch a) s) k) := by
  induction l generalizing s with
  | nil => exact named.resolve_left (List.not_mem_nil)
  | cons ch l ih =>
    refine ih _ ?_
    by_cases here : k = ch
    · exact .inr (here ▸ forceLow_same ch s)
    · refine named.imp (fun mem => (List.mem_cons.mp mem).resolve_left here) fun spent v mem => ?_
      rw [forceLow_other here s] at mem
      exact spent v mem

theorem tabGet_not_mem {α : Type} {d : α} {t : Tab α} {i : Nat} (none : i ∉ t.map (fun p => p.1)) : tabGet d t i = d := by
  induction t with
  | nil => rfl
  | cons e t ih =>
    obtain ⟨k, v⟩ := e
    simp only [List.map_cons, List.mem_cons, not_or] at none
    rw [tabGet, if_neg (Ne.symm none.1), ih none.2]

theorem calm_dropOffers {t : Int} {s : State} (spent : ∀ ch, allSpent (emGet s ch)) (entry : s.safe.entryDt = t) : Calm t (dropOffers s) := by
  have none : Calm t (pbUpd (fun p => { p with offers := [] }) s) := ⟨spent, rfl, entry⟩
  exact Calm.foldl (fun a o calm => (calm_emUpd_vols o.ch calm).of_still (markRefused_still _ _)) _ none

/-- The volleys of all channels cut and the offers dropped (R77). -/
theorem calm_forcedLow {t : Int} {s : State} (entry : s.safe.entryDt = t) :
    Calm t (dropOffers ((emChannels s).foldl (fun a ch => forceLow ch a) s)) := by
  refine calm_dropOffers (fun k => forceLows_spent _ s ?_) ?_
  · by_cases known : k ∈ emChannels s
    · exact .inl known
    · refine .inr ?_
      rw [emGet, tabGet_not_mem known]
      exact fun v mem => absurd mem List.not_mem_nil
  · exact (congrArg Prod.snd (forceLows_rest (emChannels s) s)).trans entry

theorem calm_enterSafe (d : Decision) (s : State) : Calm d.at_ (enterSafe d s) := by
  unfold enterSafe
  extract_lets s1 s2 s3 s4 s5 s6 s7
  have two : Calm d.at_ s2 := calm_forcedLow rfl
  have three : Calm d.at_ s3 := two.of_still (by simp [s3])
  have halted : Calm d.at_ (if isIdle s3 then s3 else pbHalt s3) := by
    split
    · exact three
    · exact calm_pbHalt three
  have four : Calm d.at_ s4 := halted.of_still (dropWords_still _)
  have six : Calm d.at_ s6 := four.of_still (by simp [s6, s5])
  have seven : Calm d.at_ s7 := six.of_still (by simp only [s7]; split <;> simp)
  exact seven.of_still (by simp)

@[simp] theorem stopController_still (s : State) : (stopController s).still = s.still := by
  unfold stopController
  split
  · rfl
  · exact irqBoth_still 7 _

theorem noted_still (d : Decision) (s : State) : (noted d s).still = s.still := by
  unfold noted
  extract_lets s0 s1
  have one : s1.still = s.still := by simp only [s1]; split <;> simp [s0]
  split
  · exact (safetyTrig_still _ _ s1).trans one
  · exact one

/-- A decision dealt with in the safe state brings no edge (R379). -/
theorem calm_react {t : Int} {s : State} (d : Decision) (safe : s.safe.safe = true) (c : Calm t s) : Calm t (react d s) := by
  obtain ⟨still, -⟩ := noted_safe d s
  have calm : Calm t (noted d s) := c.of_still (noted_still d s)
  rw [react_noted, still, safe]
  simp only [Bool.not_true, Bool.and_false, Bool.false_eq_true, if_false]
  split
  · exact calm.of_still (sendDecision_still 4 d _)
  split
  · exact calm.of_still (sendDecision_still 3 d _)
  · exact calm.of_still (safetyAlert_still d _)

theorem calm_reactAll {t : Int} (n : Nat) {s : State} (safe : s.safe.safe = true) (c : Calm t s) : Calm t (reactAll n s) := by
  induction n generalizing s with
  | zero => exact c
  | succ n ih =>
    simp only [reactAll]
    split
    · exact c
    · next d rest _ =>
      have here : (safeUpd (fun u => { u with todo := u.todo.erase d }) s).safe.safe = true := safe
      exact ih (react_safe d here) (calm_react d here (c.of_still rfl))

theorem causesGone_still (s : State) : (causesGone s).still = s.still := by
  have boot : (bootGone s).still = s.still := by simp [bootGone]
  have merge (x : State) : (mergeGone x).still = x.still := by unfold mergeGone; split <;> simp
  exact (merge _).trans boot

/-- What follows the reactions at the end of a step (R77, R379). -/
theorem calm_settle {t : Int} {s x : State} (c : Calm t (reactDue (xing5 (coastEnds s (monCatch x))))) : Calm t (settle s x) := by
  unfold settle
  have gone : Calm t (causesGone (reactDue (xing5 (coastEnds s (monCatch x))))) :=
    c.of_still (causesGone_still _)
  exact gone.of_still (still_of_block (by simp) (by simp))

/-- A cause whose reaction is Safe, and fixed, decided outside the safe state, enters it (R379). -/
theorem react_enters {d : Decision} {s : State} (fixed : fixedSafe.contains d.bit = true) (out : s.safe.safe = false) :
    react d s = enterSafe d (noted d s) := by
  obtain ⟨still, -⟩ := noted_safe d s
  have plain : d.bit ≠ 18 ∧ d.bit ≠ 30 := by
    constructor <;> intro h <;> rw [h] at fixed <;> exact absurd fixed (by decide)
  rw [react_noted, if_neg plain.1, if_neg plain.2, if_pos]
  rw [still, out, isSafeCause, fixed]
  rfl

/-- The one decision of a step, its reaction Safe and fixed: the safe state is entered, and what that brings dealt with. -/
theorem reactDue_enters {d : Decision} {s : State} (one : s.safe.todo = [d]) (fixed : fixedSafe.contains d.bit = true)
    (out : s.safe.safe = false) : ∃ y : State, reactDue s = reactAll 65536 (enterSafe d y) ∧ y.safe.entries = s.safe.entries := by
  have outside : (safeUpd (fun u => { u with todo := [] }) s).safe.safe = false := out
  obtain ⟨-, -, -, count⟩ := noted_safe d (safeUpd (fun u => { u with todo := [] }) s)
  exact ⟨_, by rw [reactDue_one one, lowerFirst_outside out, react_enters fixed outside], count⟩

/-- SAFE, SAFE_N, FIRST_CAUSE and the count of entries at the entry (R380). -/
theorem enterSafe_entry (d : Decision) (s : State) : (enterSafe d s).safe.safe = true ∧ (enterSafe d s).safe.safeNLow = true ∧
    (enterSafe d s).safe.firstCause = causeCode d.bit ∧ (enterSafe d s).safe.entries = satAdd 8 s.safe.entries 1 := by
  have e := enterSafe_held d s
  simp only [State.held, Prod.mk.injEq] at e
  obtain ⟨-, -, safe, low, first, count, -⟩ := e
  exact ⟨safe, low, first, count⟩

/-- Settles O9: all channels are forced low and the offers dropped at the entry, and nothing after it brings an edge. -/
theorem fixedCauseEntersSafe : Obligations.FixedCauseEntersSafe := by
  intro s x d one fixed out coast t
  have clocks := monCatch_clocked x
  simp only [State.clocked, Prod.mk.injEq] at clocks
  obtain ⟨-, -, -, tb, -⟩ := clocks
  have quiet : coastEnds s (monCatch x) = monCatch x := coastEnds_quiet s (monCatch x) (by rw [tb]; exact coast)
  obtain ⟨y, due, count⟩ := reactDue_enters one fixed ((held_safe (monCatch_held x)).trans out)
  have reacted : reactDue (xing5 (coastEnds s (monCatch x))) = reactAll 65536 (enterSafe d y) := by rw [quiet, xing5_one one, due]
  obtain ⟨inSafe, inLow, first, counted⟩ := enterSafe_entry d y
  have held : t.held = (reactAll 65536 (enterSafe d y)).held := (settle_held_reacted s x).trans (congrArg State.held reacted)
  have calm : Calm d.at_ t := calm_settle (by rw [reacted]; exact calm_reactAll 65536 inSafe (calm_enterSafe d y))
  rcases (reactAll_reacted 65536 (enterSafe d y)).safe with ⟨safe, low, -, entries⟩ | ⟨outside, -⟩
  · refine ⟨(held_safe held).trans (safe.trans inSafe), (held_safeN held).trans (low.trans inLow),
      (held_firstCause held).trans ((reactAll_firstCause 65536 inSafe).trans first),
      (held_entries held).trans (entries.trans ?_), calm.entry, calm.offers, fun ch => nextEdges_spent (calm.spent ch)⟩
    rw [counted, count, held_entries (monCatch_held x)]
  · exact absurd (inSafe.symm.trans outside) (by decide)

end Sys2Proof.Machine
end
